-- ==== Sys2Proof/Word.lean ====
section
/-! DEFINITION. Word types and their plainest arithmetic (spec/00_scope.md R3, spec/02_wave_state.md R21). -/

namespace Sys2Proof

/-- One byte of memory. -/
abbrev Byte := BitVec 8

/-- A 32-bit scalar register or one lane of a lane register (R21). -/
abbrev Word := BitVec 32

/-- A 64-bit address register, program counter or lane pair (R21, R28). -/
abbrev DWord := BitVec 64

/-- A 96-lane mask; bit l is lane l (R3, R5). -/
abbrev Mask := BitVec 96

/-- Sign extension of a word to 64 bits (`sext(x, 32)` of R133 and R235). -/
def Word.sext (w : Word) : DWord := w.signExtend 64

/-- Zero extension of a word to 64 bits. -/
def Word.zext (w : Word) : DWord := w.zeroExtend 64

/-- Low half of a 64-bit value. -/
def DWord.lo (d : DWord) : Word := d.extractLsb' 0 32

/-- High half of a 64-bit value. -/
def DWord.hi (d : DWord) : Word := d.extractLsb' 32 32

/-- A 64-bit value from its halves, the high half first. -/
def DWord.mk (hi lo : Word) : DWord := hi ++ lo

/-- The `k`-th 32-bit group of a mask (R5). -/
def Mask.group (m : Mask) (k : Nat) : Word := m.extractLsb' (32 * k) 32

/-- A mask from its groups s(N+2), s(N+1), sN (R5). -/
def Mask.ofGroups (g2 g1 g0 : Word) : Mask := (g2 ++ g1) ++ g0

/-- Lanes 0 to n-1. -/
def Mask.below (n : Nat) : Mask := BitVec.ofNat 96 (2 ^ n - 1)

/-- A mask holding one lane. -/
def Mask.lane (l : Nat) : Mask := BitVec.ofNat 96 (2 ^ l)

end Sys2Proof
end

