-- ==== Sys2Proof/Config.lean ====
section
/-! DEFINITION. What an implementation fixes and what the spec leaves open. Every constant here is opaque: no proof can
see a value of it, and a statement about one holds for every value. -/

namespace Sys2Proof.Config

/-- How far a core's cycle counter has advanced since it was last read (R20, R32: CYC counts arithmetic-clock cycles
and no rule fixes how many pass between two reads). Argument: the free-value counter of the state. Log entry 5. -/
opaque cycStep : Nat → DWord

/-- FADDR of a fault raised by reading a poisoned register (R411 gives the code and no address). Log entry 6. -/
opaque poisonAddr : Nat → DWord

/-- SHA3-256 of a byte string (R387 to R390 take the function from its own standard). Log entry 7. -/
opaque sha3 : List Byte → BitVec 256

/-- An ML-DSA-44 signature of 2,420 bytes by the device's identity key over a digest (R390). Log entry 7. -/
opaque identitySign : BitVec 256 → List Byte

/-- Does an ML-DSA-44 signature by Caerpin's life-cycle key hold over a digest (R387)? Log entry 7. -/
opaque caerpinVerify : BitVec 256 → List Byte → Bool

/-- Does a firmware image verify under Caerpin's firmware key (R389, R425)? No rule lays the image out. Log entry 7. -/
opaque firmwareVerify : List Byte → Bool

/-- The version of a firmware image (R425), and the digests of its loader, Guide firmware and microcode (R389). Log
entry 7. -/
opaque firmwareVersion : List Byte → Word
opaque firmwareDigest : Nat → List Byte → BitVec 256

/-- The fixed digest of the Nuver monitor (R423). Log entry 8. -/
opaque nuverDigest : BitVec 256

/-- Where the Guide's reserve starts in local memory (R374 gives no address). Log entry 8. -/
opaque reserveBase : Nat

/-- Does an ML-DSA-44 signature by the owner key (1,312 bytes) hold over a digest (R387)? Log entry 7. -/
opaque ownerVerify : List Byte → BitVec 256 → List Byte → Bool

/-- The identity key's public half of 1,312 bytes, Caerpin's certificate of 2,420 bytes and the serial number, fixed in
the part (R388). Log entry 8. -/
opaque idPub : List Byte
opaque idCert : List Byte
opaque serial : DWord
/-- Which of the two steppings the part is (R1). Log entry 8. -/
opaque stepB1 : Bool
/-- The stepping code: 0xB0 or 0xB1 (R1, R388). -/
def step : Byte := if stepB1 then 0xB1 else 0xB0
/-- A fresh life-cycle nonce (R387: each transition changes it). Argument: the free-value counter. Log entry 8. -/
opaque lcNonce : Nat → BitVec 256

/-- Which of the values that a changed instruction word has had a fetch returns before a CINV over it (R67 lets it be the
old or the new). Arguments: the free-value counter and the word's address. Log entry 14. -/
opaque fetchAge : Nat → DWord → Nat

/-- The L2 slice, 0 to 511, that is the home of a line, and the controller of the slice's die that a miss in it goes to, 0 to
7 (R198: the hash is not architectural). Arguments: the ASID and the line's address over 128. Log entry 45. -/
opaque homeSlice : BitVec 16 → Nat → Fin 512
opaque homeController : BitVec 16 → Nat → Fin 8

/-- Does XTBL read a table byte that a Porter copy is still writing as it will be (R161: old or new, each byte by itself)?
Arguments: the free-value counter and the byte's key. Log entry 83. -/
opaque copied : Nat → Nat → Bool

/-- The scale of a block of XQNT whose element format has no finite value but zero (R158 states none): its record's byte before
the limits of the scale's kind. Arguments: the SCL field and the largest magnitude's numerator and exponent. Log entry 84. -/
opaque scaleOfZero : Nat → Nat → Int → Nat

/-- Which neighbour a tie takes in a format without mantissa bits, where R88's even mantissa decides nothing: true, the
larger magnitude. Argument: the lower neighbour's multiple of the quantum. Log entry 11. -/
opaque tieUp : Nat → Bool

/-- Reprojection offsets of a band whose pose read faulted (R356 states none). Argument: the free-value counter. Log
entry 12. -/
opaque poseOffset : Nat → Int × Int

/-- FP16 bits of a network input whose buffer the frame set does not give (R355 states none). Argument: the free-value
counter. Log entry 12. -/
opaque absentInput : Nat → BitVec 16

/-- The integer nearest a motion component that is NaN (R358 states none). Argument: the free-value counter. Log
entry 12. -/
opaque nanMotion : Nat → Int

end Sys2Proof.Config
end

