-- ==== Sys2Proof/Syntax.lean ====
section
/-! DEFINITION. The operands of spec/03_assembly.md R48 and spec/04_encoding.md, and the one inductive of all
instructions and device events of spec/opcode_table.json. -/

namespace Sys2Proof

/-- Scalar register s0 to s63 (R48). -/
abbrev SReg := BitVec 6

/-- Address register a0 to a15 (R48). -/
abbrev AReg := BitVec 4

/-- Lane register v0 to v63 (R48). -/
abbrev VReg := BitVec 6

/-- Leg temporary t0 to t7 (R48). -/
abbrev TReg := BitVec 3

/-- Mask base N of `sN.m`; well formed when at most 61 (R25). -/
abbrev MBase := BitVec 6

/-- A lane operand selector (R71). -/
inductive Sel where
  | v (r : VReg)
  | t (r : TReg)
  | s (r : SReg)
  /-- 0xC0, the immediate in word 2 -/
  | imm
  deriving DecidableEq, Repr

/-- Lane types (R73). -/
inductive LTy where
  | f32 | bf16x2 | f16x2 | i32 | n32 | i64 | n64
  deriving DecidableEq, Repr

/-- Rounding modes (R88). -/
inductive Rm where
  | rne | rz | rdn | rup
  deriving DecidableEq, Repr

/-- Space suffixes (R76). -/
inductive Spc where
  | x | g | p | s | c
  deriving DecidableEq, Repr

/-- Order suffixes (R76). -/
inductive Ord where
  | none | acq | rel | acqrel
  deriving DecidableEq, Repr

/-- Scope suffixes (R76). -/
inductive Scp where
  | none | wave | core | clus | dev | dom | sys
  deriving DecidableEq, Repr

/-- The three memory operand forms of R50, as AM chooses them (R75). -/
inductive Am where
  /-- `[aN + offset]`, the offset in word 2 -/
  | off (o : Word)
  /-- `[aN + sM]` -/
  | s (r : SReg)
  /-- `[aN + vM]` -/
  | v (r : VReg)
  deriving DecidableEq, Repr

/-- A tile name (R77). -/
inductive Tile where
  | o (n : BitVec 7)
  | z (n : BitVec 4)
  deriving DecidableEq, Repr

/-- Format LA (R74): arithmetic, compare, move, conversion, cross-lane, reduction and run instructions.
A selector or mask base that the instruction does not use is `v 0` or `0`, the field value 0x00 of R72. -/
structure LA where
  dst : Sel
  mb  : MBase
  sa  : Sel
  sb  : Sel
  sc  : Sel
  ty  : LTy
  rm  : Rm
  sat : Bool
  imm : Word
  deriving DecidableEq, Repr

/-- Format LX (R74, R153): the Sieve instructions; word 2 is the parameter word. -/
structure LX where
  dst : Sel
  sa  : Sel
  sb  : Sel
  sc  : Sel
  rm  : Rm
  sat : Bool
  param : Word
  deriving DecidableEq, Repr

/-- Format LM (R75): loads, stores, atomics and CLAIM. -/
structure LM where
  dv   : Sel
  sv   : Sel
  areg : AReg
  am   : Am
  spc  : Spc
  ord  : Ord
  scp  : Scp
  cv   : BitVec 6
  ty   : LTy
  deriving DecidableEq, Repr

/-- Format LT (R77, R180): Basalt instructions. The tile fields are the raw 8-bit selectors, since the row decides
whether 0x00 is o0 or an unused field and whether TA holds a format code. `ox` is the offset register of AM 1. -/
structure LT where
  td   : BitVec 8
  ta   : BitVec 8
  tb   : BitVec 8
  sx   : Sel
  areg : AReg
  ox   : Option SReg
  ord  : Ord
  scp  : Scp
  off  : Word
  deriving DecidableEq, Repr

/-- Format LQ (R78): Quarry lane instructions. -/
structure LQ where
  dst : Sel
  mb  : MBase
  ew  : BitVec 2
  sa  : Sel
  sb  : Sel
  sc  : Sel
  ct  : BitVec 8
  imm : Word
  deriving DecidableEq, Repr

/-- A PC slot of a wave (R21): 0 or 1. -/
inductive SlotId where
  | s0 | s1
  deriving DecidableEq, Repr

/-- A PCI Express port (R414). -/
inductive PortId where
  | p0 | p1
  deriving DecidableEq, Repr

/-- An inbound read or write through an aperture window of BAR2 (R415, R416): byte offset in BAR2 and, for a write,
the bytes. -/
inductive InboundReq where
  | read (off : BitVec 40) (len : Nat)
  | write (off : BitVec 40) (data : List Byte)
  deriving DecidableEq, Repr

/-- An AtomicOp of PCI Express (R414): FetchAdd, Swap and compare-and-swap. -/
inductive AtomicOp where
  | fetchAdd | swap | cas
  deriving DecidableEq, Repr

/-- An inbound AtomicOp (R414, R416): operand width in bytes 4, 8 or 16. -/
structure InboundAtomic where
  off : BitVec 40
  op  : AtomicOp
  width : Nat
  operand : BitVec 128
  compare : BitVec 128
  deriving DecidableEq, Repr

/-- Operations of an atomic (R244). -/
inductive AtomOp where
  | add | and | or | xor | min | max | swap | cas
  deriving DecidableEq, Repr

/-- A domain access from a peer Zilyr (R245, R420): a physical address of this device; an atomic has its operand and
compare value. -/
inductive DomainReq where
  | read (addr : DWord) (len : Nat)
  | write (addr : DWord) (data : List Byte)
  | atomic (addr : DWord) (op : AtomOp) (ty : LTy) (v c : BitVec 128)
  deriving DecidableEq, Repr

/-- One instruction or one event of the device: one constructor per row of spec/opcode_table.json, in the
table's order. `m` is the leg-end marker of R66. -/
inductive Instr where
  /-- SADD (R123): Adds two scalar registers modulo 2^32. -/
  | sadd (m : Bool) (d a b : SReg)
  /-- SSUB (R123): Subtracts one scalar register from another modulo 2^32. -/
  | ssub (m : Bool) (d a b : SReg)
  /-- SMUL (R123): Writes the low 32 bits of a scalar product. -/
  | smul (m : Bool) (d a b : SReg)
  /-- SMULH (R123): Writes the high 32 bits of the signed 64-bit product. -/
  | smulh (m : Bool) (d a b : SReg)
  /-- SMULHN (R123): Writes the high 32 bits of the unsigned 64-bit product. -/
  | smulhn (m : Bool) (d a b : SReg)
  /-- SDIV (R124): Signed quotient truncated toward zero, never faulting. -/
  | sdiv (m : Bool) (d a b : SReg)
  /-- SDIVN (R124): Unsigned quotient, never faulting. -/
  | sdivn (m : Bool) (d a b : SReg)
  /-- SREM (R124): Signed remainder with the sign of the dividend. -/
  | srem (m : Bool) (d a b : SReg)
  /-- SREMN (R124): Unsigned remainder. -/
  | sremn (m : Bool) (d a b : SReg)
  /-- SAND (R123): Bitwise AND of two scalar registers. -/
  | sand (m : Bool) (d a b : SReg)
  /-- SOR (R123): Bitwise OR of two scalar registers. -/
  | sor (m : Bool) (d a b : SReg)
  /-- SXOR (R123): Bitwise XOR of two scalar registers. -/
  | sxor (m : Bool) (d a b : SReg)
  /-- SSHL (R125): Left shift by a register count. -/
  | sshl (m : Bool) (d a b : SReg)
  /-- SSHR (R125): Logical right shift by a register count. -/
  | sshr (m : Bool) (d a b : SReg)
  /-- SSRA (R125): Arithmetic right shift by a register count. -/
  | ssra (m : Bool) (d a b : SReg)
  /-- SMIN (R123): Signed minimum of two scalars. -/
  | smin (m : Bool) (d a b : SReg)
  /-- SMAX (R123): Signed maximum of two scalars. -/
  | smax (m : Bool) (d a b : SReg)
  /-- SMINN (R123): Unsigned minimum of two scalars. -/
  | sminn (m : Bool) (d a b : SReg)
  /-- SMAXN (R123): Unsigned maximum of two scalars. -/
  | smaxn (m : Bool) (d a b : SReg)
  /-- SCLZ (R123): Counts leading zero bits of a scalar. -/
  | sclz (m : Bool) (d a : SReg)
  /-- SCNT (R123): Counts one bits of a scalar. -/
  | scnt (m : Bool) (d a : SReg)
  /-- SMOV (R123): Copies one scalar register to another. -/
  | smov (m : Bool) (d a : SReg)
  /-- SSEL (R123): Selects sA or sB by the old value of sD. -/
  | ssel (m : Bool) (d a b : SReg)
  /-- SADD_IMM (R126): Adds a sign-extended 11-bit immediate to a scalar. -/
  | saddImm (m : Bool) (d a : SReg) (imm : BitVec 11)
  /-- SMUL_IMM (R126): Multiplies a scalar by a sign-extended 11-bit immediate. -/
  | smulImm (m : Bool) (d a : SReg) (imm : BitVec 11)
  /-- SAND_IMM (R126): ANDs a scalar with a sign-extended immediate. -/
  | sandImm (m : Bool) (d a : SReg) (imm : BitVec 11)
  /-- SOR_IMM (R126): ORs a scalar with a sign-extended immediate. -/
  | sorImm (m : Bool) (d a : SReg) (imm : BitVec 11)
  /-- SXOR_IMM (R126): XORs a scalar with a sign-extended immediate. -/
  | sxorImm (m : Bool) (d a : SReg) (imm : BitVec 11)
  /-- SSHL_IMM (R126): Left shift by an immediate count 0 to 31. -/
  | sshlImm (m : Bool) (d a : SReg) (cnt : BitVec 5)
  /-- SSHR_IMM (R126): Logical right shift by an immediate count. -/
  | sshrImm (m : Bool) (d a : SReg) (cnt : BitVec 5)
  /-- SSRA_IMM (R126): Arithmetic right shift by an immediate count. -/
  | ssraImm (m : Bool) (d a : SReg) (cnt : BitVec 5)
  /-- SBFX (R127): Extracts a zero-extended bit field from a scalar. -/
  | sbfx (m : Bool) (d a : SReg) (pos len1 : BitVec 5)
  /-- SBFI (R127): Inserts the low bits of sA into a field of sD. -/
  | sbfi (m : Bool) (d a : SReg) (pos len1 : BitVec 5)
  /-- SLI (R128): Loads a sign-extended 16-bit immediate into a scalar. -/
  | sli (m : Bool) (d : SReg) (imm : BitVec 16)
  /-- SLIH (R128): Sets the high half of a scalar, keeping its low half. -/
  | slih (m : Bool) (d : SReg) (imm : BitVec 16)
  /-- SSET_EQ (R129): Sets sD to 1 when sA equals sB. -/
  | ssetEq (m : Bool) (d a b : SReg)
  /-- SSET_NE (R129): Sets sD to 1 when sA differs from sB. -/
  | ssetNe (m : Bool) (d a b : SReg)
  /-- SSET_LT (R129): Sets sD to 1 when sA is signed less than sB. -/
  | ssetLt (m : Bool) (d a b : SReg)
  /-- SSET_LE (R129): Sets sD to 1 when sA is signed at most sB. -/
  | ssetLe (m : Bool) (d a b : SReg)
  /-- SSET_LTN (R129): Sets sD to 1 when sA is unsigned less than sB. -/
  | ssetLtn (m : Bool) (d a b : SReg)
  /-- SSET_LEN (R129): Sets sD to 1 when sA is unsigned at most sB. -/
  | ssetLen (m : Bool) (d a b : SReg)
  /-- SFADD (R130): FP32 scalar addition rounded to nearest even. -/
  | sfadd (m : Bool) (d a b : SReg)
  /-- SFSUB (R130): FP32 scalar subtraction. -/
  | sfsub (m : Bool) (d a b : SReg)
  /-- SFMUL (R130): FP32 scalar multiplication. -/
  | sfmul (m : Bool) (d a b : SReg)
  /-- SFFMA (R130): FP32 fused multiply-add into the old sD with one rounding. -/
  | sffma (m : Bool) (d a b : SReg)
  /-- SCVT_I2F (R131): Converts a signed 32-bit scalar to FP32 toward zero. -/
  | scvtI2f (m : Bool) (d a : SReg)
  /-- SCVT_N2F (R131): Converts an unsigned 32-bit scalar to FP32 toward zero. -/
  | scvtN2f (m : Bool) (d a : SReg)
  /-- SCVT_F2I (R131): Converts FP32 to a saturated signed integer toward zero. -/
  | scvtF2i (m : Bool) (d a : SReg)
  /-- SCVT_F2N (R131): Converts FP32 to a saturated unsigned integer toward zero. -/
  | scvtF2n (m : Bool) (d a : SReg)
  /-- SCVT_F2IR (R131): Converts FP32 to a saturated signed integer, nearest even. -/
  | scvtF2ir (m : Bool) (d a : SReg)
  /-- SCVT_F2NR (R131): Converts FP32 to a saturated unsigned integer, nearest even. -/
  | scvtF2nr (m : Bool) (d a : SReg)
  /-- SCVT_F2B (R131): Converts FP32 to BF16 toward zero. -/
  | scvtF2b (m : Bool) (d a : SReg)
  /-- SCVT_B2F (R131): Widens BF16 to FP32 exactly. -/
  | scvtB2f (m : Bool) (d a : SReg)
  /-- SCVT_F2H (R131): Converts FP32 to FP16 toward zero. -/
  | scvtF2h (m : Bool) (d a : SReg)
  /-- SCVT_H2F (R131): Widens FP16 to FP32 exactly. -/
  | scvtH2f (m : Bool) (d a : SReg)
  /-- AADD (R133): Adds a sign-extended scalar to an address register. -/
  | aadd (m : Bool) (d a : AReg) (b : SReg)
  /-- ASUB (R133): Subtracts one address register from another. -/
  | asub (m : Bool) (d a b : AReg)
  /-- AMOV (R133): Copies an address register. -/
  | amov (m : Bool) (d a : AReg)
  /-- AFROM (R133): Builds an address register from two scalars. -/
  | afrom (m : Bool) (d : AReg) (a b : SReg)
  /-- ATO (R133): Copies one half of an address register to a scalar. -/
  | ato (m : Bool) (d : SReg) (a : AReg) (hi : Bool)
  /-- ALEA_1 (R133): Adds a scalar scaled by 1 to an address register. -/
  | alea1 (m : Bool) (d a : AReg) (b : SReg)
  /-- ALEA_2 (R133): Adds a scalar scaled by 2 to an address register. -/
  | alea2 (m : Bool) (d a : AReg) (b : SReg)
  /-- ALEA_4 (R133): Adds a scalar scaled by 4 to an address register. -/
  | alea4 (m : Bool) (d a : AReg) (b : SReg)
  /-- ALEA_8 (R133): Adds a scalar scaled by 8 to an address register. -/
  | alea8 (m : Bool) (d a : AReg) (b : SReg)
  /-- ALEA_16 (R133): Adds a scalar scaled by 16 to an address register. -/
  | alea16 (m : Bool) (d a : AReg) (b : SReg)
  /-- AADD_IMM (R133): Adds a sign-extended 11-bit immediate to an address register. -/
  | aaddImm (m : Bool) (d a : AReg) (imm : BitVec 11)
  /-- ALI (R133): Loads a sign-extended 16-bit immediate into an address register. -/
  | ali (m : Bool) (d : AReg) (imm : BitVec 16)
  /-- ASPC (R371): Writes the space code of a generic pointer, never faulting. -/
  | aspc (m : Bool) (d : SReg) (a : AReg)
  /-- ACAST_G (R372): Casts a generic pointer to the global space. -/
  | acastG (m : Bool) (d a : AReg)
  /-- ACAST_P (R372): Casts a generic pointer to a private bare offset. -/
  | acastP (m : Bool) (d a : AReg)
  /-- ACAST_S (R372): Casts a generic pointer to a scratchpad bare offset. -/
  | acastS (m : Bool) (d a : AReg)
  /-- ACAST_C (R372): Casts a generic pointer to a cluster-shared bare offset. -/
  | acastC (m : Bool) (d a : AReg)
  /-- AGEN_P (R373): Builds a generic private pointer from a bare offset. -/
  | agenP (m : Bool) (d a : AReg)
  /-- AGEN_S (R373): Builds a generic scratchpad pointer from a bare offset. -/
  | agenS (m : Bool) (d a : AReg)
  /-- AGEN_C (R373): Builds a generic cluster-shared pointer from a bare offset. -/
  | agenC (m : Bool) (d a : AReg)
  /-- MAND (R134): ANDs two 96-bit masks. -/
  | mand (m : Bool) (d a b : MBase)
  /-- MOR (R134): ORs two 96-bit masks. -/
  | mor (m : Bool) (d a b : MBase)
  /-- MXOR (R134): XORs two 96-bit masks. -/
  | mxor (m : Bool) (d a b : MBase)
  /-- MANDN (R134): ANDs a mask with the complement of another. -/
  | mandn (m : Bool) (d a b : MBase)
  /-- MNOT (R134): Inverts a 96-bit mask. -/
  | mnot (m : Bool) (d a : MBase)
  /-- MCNT (R134): Counts the set bits of a mask. -/
  | mcnt (m : Bool) (d : SReg) (a : MBase)
  /-- MFIRST (R134): Finds the lowest set bit of a mask. -/
  | mfirst (m : Bool) (d : SReg) (a : MBase)
  /-- MSET (R134): Sets the low min(sA, 96) bits of a mask. -/
  | mset (m : Bool) (d : MBase) (a : SReg)
  /-- MGET (R134): Reads one bit of a mask. -/
  | mget (m : Bool) (d : SReg) (a : MBase) (b : SReg)
  /-- BR (R330): Moves the whole path to a PC-relative target. -/
  | br (m : Bool) (off : BitVec 17)
  /-- BRZ (R330): Branches the whole path when a scalar is zero. -/
  | brz (m : Bool) (a : SReg) (off : BitVec 17)
  /-- BRV (R314): Splits the path by a lane mask between target and fall-through. -/
  | brv (m : Bool) (a : MBase) (off : BitVec 17)
  /-- CALL (R320): Calls a PC-relative target, writing the link vector and sliding the window. -/
  | call (m : Bool) (off : BitVec 17)
  /-- JMP (R331): Jumps the whole path to an address register target that must hold LAND. -/
  | jmp (m : Bool) (a : AReg)
  /-- JMPV (R315): Jumps each lane to its own target, splitting by target. -/
  | jmpv (m : Bool) (a : VReg)
  /-- CALLV (R331): Calls per-lane targets, splitting by target and sliding the window. -/
  | callv (m : Bool) (a : VReg)
  /-- RET (R332): Returns each lane to its link address, lowering the depth and filling the working set. -/
  | ret (m : Bool)
  /-- JOIN (R318): Meets paths at a join point, merging or parking them. -/
  | join (m : Bool) (a : MBase)
  /-- LAND (R334): Marks a legal computed-jump target and changes nothing. -/
  | land (m : Bool)
  /-- YIELD (R335): Rotates the slot when the stack holds a running entry. -/
  | yield (m : Bool)
  /-- WAITV (R336): Watches a 32-bit word with an acquire until it differs from sB. -/
  | waitv (m : Bool) (d : SReg) (a : AReg) (b : SReg)
  /-- EXIT (R338): Retires the active lanes, and the wave when no live lane remains. -/
  | exit (m : Bool)
  /-- NOP (R337): Has no effect. -/
  | nop (m : Bool)
  /-- LAUNCH (R340): Submits a launch record to the Guide and receives acceptance or a reason. -/
  | launch (m : Bool) (d : SReg) (a : AReg)
  /-- LAUNCHQ (R341): Submits a launch over a query or view to the Guide. -/
  | launchq (m : Bool) (d : SReg) (a : AReg)
  /-- WSYNC (R343): Waits until earlier Hamper accesses of the wave are performed. -/
  | wsync (m : Bool)
  /-- WFLUSH (R343): Spills every spill candidate and then acts as WSYNC. -/
  | wflush (m : Bool)
  /-- BINIT (R346): Claims and initialises a core barrier. -/
  | binit (m : Bool) (a b : SReg)
  /-- BARV (R346): Arrives at a barrier with a count, returning its phase parity. -/
  | barv (m : Bool) (d a b : SReg)
  /-- BEXP (R346): Adds expected bytes to a barrier and arrives once. -/
  | bexp (m : Bool) (d a b : SReg)
  /-- BWAIT (R347): Waits for a barrier phase of given parity to complete. -/
  | bwait (m : Bool) (a b : SReg)
  /-- BTEST (R347): Tests without waiting whether a barrier phase has completed. -/
  | btest (m : Bool) (d a b : SReg)
  /-- GBAR (R348): Launch-wide barrier of a co-resident launch. -/
  | gbar (m : Bool)
  /-- PCOPY (R253): Sends a Porter copy command described by a 64-byte descriptor. -/
  | pcopy (m : Bool) (a : AReg) (ord : Ord) (scp : Scp)
  /-- PBATCH (R261): Closes the wave's unbatched Porter commands into a numbered batch. -/
  | pbatch (m : Bool) (d : SReg)
  /-- PWAIT (R262): Waits until the named batches have completed. -/
  | pwait (m : Bool) (a : SReg)
  /-- FENCE (R226): Orders predecessor-class accesses before successor-class accesses at a scope. -/
  | fence (m : Bool) (pred succ : BitVec 6) (scp : Scp)
  /-- CINV (R250): Drops the core's L1 and instruction lines of a range. -/
  | cinv (m : Bool) (a : AReg) (b : SReg)
  /-- CWB (R251): Writes modified L2 lines of a range back to memory. -/
  | cwb (m : Bool) (a : AReg) (b : SReg)
  /-- PREF (R252): Prefetches lines of a range into L2 and L1 without faults. -/
  | pref (m : Bool) (a : AReg) (b : SReg)
  /-- QGRP (R292): Opens a commit-group bracket for a world on the path. -/
  | qgrp (m : Bool) (a : SReg)
  /-- QCOMMIT (R292): Closes the path's commit-group bracket. -/
  | qcommit (m : Bool)
  /-- QVIEW (R294): Pins the strata matching a query record as a view. -/
  | qview (m : Bool) (d : SReg) (q : AReg)
  /-- QDROP (R295): Releases a held view. -/
  | qdrop (m : Bool) (a : SReg)
  /-- CAIRN (R296): Ends the current stage of a world and waits for its application. -/
  | cairn (m : Bool) (a d : SReg)
  /-- LKSUB (R363): Submits a frame set to a Lookout head. -/
  | lksub (m : Bool) (d : SReg) (a : AReg) (b : SReg)
  /-- LKCARD (R364): Copies a route card into a head's card store for its next latch. -/
  | lkcard (m : Bool) (d : SReg) (a : AReg) (b : SReg)
  /-- LKSTAT (R365): Reads a status item of a Lookout head. -/
  | lkstat (m : Bool) (d a b : SReg)
  /-- TRAP (R398): Raises a software trap, or in the handler posts a record and parks under a wait key. -/
  | trap (m : Bool) (d : SReg) (a : AReg) (b : SReg)
  /-- SVRET (R399): Returns from the handler to the resume address. -/
  | svret (m : Bool)
  /-- RPLAY (R400): Wakes every path parked under a key, or resumes a stopped cairn. -/
  | rplay (m : Bool) (d : SReg) (a : AReg) (b : SReg)
  /-- MAPFT (R402): Maps a pool granule at a reserved leaf. -/
  | mapft (m : Bool) (d : SReg) (a : AReg)
  /-- MAPCW (R403): Breaks copy-on-write sharing of a page. -/
  | mapcw (m : Bool) (d : SReg) (a : AReg)
  /-- TLBINV (R380): Performs a shoot-down of a range in the wave's own ASID. -/
  | tlbinv (m : Bool) (a : AReg) (b : SReg)
  /-- CSRR (R404): Reads a control register. -/
  | csrr (m : Bool) (csr : BitVec 12) (r : BitVec 6)
  /-- CSRW (R404): Writes a control register at commit. -/
  | csrw (m : Bool) (csr : BitVec 12) (r : BitVec 6)
  /-- VADD (R137): Lane addition, float or integer. -/
  | vadd (m : Bool) (f : LA)
  /-- VSUB (R137): Lane subtraction, float or integer. -/
  | vsub (m : Bool) (f : LA)
  /-- VMUL (R137): Lane floating-point multiplication. -/
  | vmul (m : Bool) (f : LA)
  /-- VFMA (R137): Lane fused multiply-add with one rounding. -/
  | vfma (m : Bool) (f : LA)
  /-- VMIN (R138): Lane minimum. -/
  | vmin (m : Bool) (f : LA)
  /-- VMAX (R138): Lane maximum. -/
  | vmax (m : Bool) (f : LA)
  /-- VABS (R138): Lane absolute value. -/
  | vabs (m : Bool) (f : LA)
  /-- VNEG (R138): Lane negation. -/
  | vneg (m : Bool) (f : LA)
  /-- VRCP (R140): Correctly rounded lane reciprocal. -/
  | vrcp (m : Bool) (f : LA)
  /-- VRSQ (R140): Correctly rounded lane reciprocal square root. -/
  | vrsq (m : Bool) (f : LA)
  /-- VSQRT (R140): Correctly rounded lane square root. -/
  | vsqrt (m : Bool) (f : LA)
  /-- VEXP2 (R140): Correctly rounded lane 2^a. -/
  | vexp2 (m : Bool) (f : LA)
  /-- VLOG2 (R140): Correctly rounded lane log2. -/
  | vlog2 (m : Bool) (f : LA)
  /-- VSIN (R140): Correctly rounded lane sine of turns. -/
  | vsin (m : Bool) (f : LA)
  /-- VCOS (R140): Correctly rounded lane cosine of turns. -/
  | vcos (m : Bool) (f : LA)
  /-- VIMUL (R139): Lane integer multiplication. -/
  | vimul (m : Bool) (f : LA)
  /-- VIMULH (R139): Upper half of the lane integer product. -/
  | vimulh (m : Bool) (f : LA)
  /-- VAND (R139): Lane bitwise AND. -/
  | vand (m : Bool) (f : LA)
  /-- VOR (R139): Lane bitwise OR. -/
  | vor (m : Bool) (f : LA)
  /-- VXOR (R139): Lane bitwise XOR. -/
  | vxor (m : Bool) (f : LA)
  /-- VSHL (R139): Lane left shift. -/
  | vshl (m : Bool) (f : LA)
  /-- VSHR (R139): Lane logical right shift. -/
  | vshr (m : Bool) (f : LA)
  /-- VSRA (R139): Lane arithmetic right shift. -/
  | vsra (m : Bool) (f : LA)
  /-- VCMP_EQ (R141): Writes a mask of lanes where a equals b. -/
  | vcmpEq (m : Bool) (f : LA)
  /-- VCMP_NE (R141): Writes a mask of lanes where a differs from b. -/
  | vcmpNe (m : Bool) (f : LA)
  /-- VCMP_LT (R141): Writes a mask of lanes where a is less than b. -/
  | vcmpLt (m : Bool) (f : LA)
  /-- VCMP_LE (R141): Writes a mask of lanes where a is at most b. -/
  | vcmpLe (m : Bool) (f : LA)
  /-- VCMP_GT (R141): Writes a mask of lanes where a is greater than b. -/
  | vcmpGt (m : Bool) (f : LA)
  /-- VCMP_GE (R141): Writes a mask of lanes where a is at least b. -/
  | vcmpGe (m : Bool) (f : LA)
  /-- VCMP_UN (R141): Writes a mask of lanes where either source is NaN. -/
  | vcmpUn (m : Bool) (f : LA)
  /-- VCMP_ORD (R141): Writes a mask of lanes where neither source is NaN. -/
  | vcmpOrd (m : Bool) (f : LA)
  /-- VSEL (R142): Selects per lane between two sources by a mask. -/
  | vsel (m : Bool) (f : LA)
  /-- VMOV (R142): Moves a lane source. -/
  | vmov (m : Bool) (f : LA)
  /-- VBCAST (R142): Broadcasts one active lane's value to all active lanes. -/
  | vbcast (m : Bool) (f : LA)
  /-- VIOTA (R142): Writes each lane's index. -/
  | viota (m : Bool) (f : LA)
  /-- VCVT_I2F (R131): Lane signed integer to FP32 conversion. -/
  | vcvtI2f (m : Bool) (f : LA)
  /-- VCVT_N2F (R131): Lane unsigned integer to FP32 conversion. -/
  | vcvtN2f (m : Bool) (f : LA)
  /-- VCVT_F2I (R131): Lane FP32 to saturated signed integer toward zero. -/
  | vcvtF2i (m : Bool) (f : LA)
  /-- VCVT_F2N (R131): Lane FP32 to saturated unsigned integer toward zero. -/
  | vcvtF2n (m : Bool) (f : LA)
  /-- VCVT_F2IR (R131): Lane FP32 to saturated signed integer, nearest even. -/
  | vcvtF2ir (m : Bool) (f : LA)
  /-- VCVT_F2NR (R131): Lane FP32 to saturated unsigned integer, nearest even. -/
  | vcvtF2nr (m : Bool) (f : LA)
  /-- VCVT_F2B (R131): Lane FP32 to BF16 toward zero. -/
  | vcvtF2b (m : Bool) (f : LA)
  /-- VCVT_B2F (R131): Lane BF16 to FP32. -/
  | vcvtB2f (m : Bool) (f : LA)
  /-- VCVT_F2H (R131): Lane FP32 to FP16 toward zero. -/
  | vcvtF2h (m : Bool) (f : LA)
  /-- VCVT_H2F (R131): Lane FP16 to FP32. -/
  | vcvtH2f (m : Bool) (f : LA)
  /-- VSHFL (R143): Reads each lane from a per-lane index, writing a validity mask. -/
  | vshfl (m : Bool) (f : LA)
  /-- VROT (R143): Rotates lanes by a uniform amount, writing a validity mask. -/
  | vrot (m : Bool) (f : LA)
  /-- VRED_ADD (R144): Tree-ordered sum of active lanes into a scalar. -/
  | vredAdd (m : Bool) (f : LA)
  /-- VRED_MIN (R144): Minimum of active lanes into a scalar. -/
  | vredMin (m : Bool) (f : LA)
  /-- VRED_MAX (R144): Maximum of active lanes into a scalar. -/
  | vredMax (m : Bool) (f : LA)
  /-- VRED_AND (R144): AND of active lanes into a scalar. -/
  | vredAnd (m : Bool) (f : LA)
  /-- VRED_OR (R144): OR of active lanes into a scalar. -/
  | vredOr (m : Bool) (f : LA)
  /-- VRED_XOR (R144): XOR of active lanes into a scalar. -/
  | vredXor (m : Bool) (f : LA)
  /-- VSCAN_ADD (R112): Inclusive tree-ordered prefix sum over active lanes. -/
  | vscanAdd (m : Bool) (f : LA)
  /-- VSCAN_MIN (R112): Inclusive prefix minimum. -/
  | vscanMin (m : Bool) (f : LA)
  /-- VSCAN_MAX (R112): Inclusive prefix maximum. -/
  | vscanMax (m : Bool) (f : LA)
  /-- VSCAN_AND (R112): Inclusive prefix AND. -/
  | vscanAnd (m : Bool) (f : LA)
  /-- VSCAN_OR (R112): Inclusive prefix OR. -/
  | vscanOr (m : Bool) (f : LA)
  /-- VSCAN_XOR (R112): Inclusive prefix XOR. -/
  | vscanXor (m : Bool) (f : LA)
  /-- VCOAL (R145): Copies a register into fully merged run form. -/
  | vcoal (m : Bool) (f : LA)
  /-- VRUNS (R146): Counts the runs in which a register is held. -/
  | vruns (m : Bool) (f : LA)
  /-- VLD (R238): Loads a value per active lane. -/
  | vld (m : Bool) (f : LM)
  /-- VLD_W (R241): Loads and widens elements from a format page. -/
  | vldW (m : Bool) (f : LM)
  /-- VST (R239): Stores a value per active lane at commit. -/
  | vst (m : Bool) (f : LM)
  /-- SLD (R238): Loads a scalar. -/
  | sld (m : Bool) (f : LM)
  /-- SST (R239): Stores a scalar at commit. -/
  | sst (m : Bool) (f : LM)
  /-- SLDP (R243): Loads a scalar from a parameter window. -/
  | sldp (m : Bool) (f : LM)
  /-- VLDP (R243): Loads lane values from a parameter window. -/
  | vldp (m : Bool) (f : LM)
  /-- VATOM_ADD (R245): Per-lane atomic add returning the old value. -/
  | vatomAdd (m : Bool) (f : LM)
  /-- VATOM_AND (R245): Per-lane atomic AND. -/
  | vatomAnd (m : Bool) (f : LM)
  /-- VATOM_OR (R245): Per-lane atomic OR. -/
  | vatomOr (m : Bool) (f : LM)
  /-- VATOM_XOR (R245): Per-lane atomic XOR. -/
  | vatomXor (m : Bool) (f : LM)
  /-- VATOM_MIN (R245): Per-lane atomic minimum. -/
  | vatomMin (m : Bool) (f : LM)
  /-- VATOM_MAX (R245): Per-lane atomic maximum. -/
  | vatomMax (m : Bool) (f : LM)
  /-- VATOM_SWAP (R245): Per-lane atomic swap. -/
  | vatomSwap (m : Bool) (f : LM)
  /-- VATOM_CAS (R245): Per-lane atomic compare-and-swap. -/
  | vatomCas (m : Bool) (f : LM)
  /-- SATOM_ADD (R245): Scalar atomic add. -/
  | satomAdd (m : Bool) (f : LM)
  /-- SATOM_AND (R245): Scalar atomic AND. -/
  | satomAnd (m : Bool) (f : LM)
  /-- SATOM_OR (R245): Scalar atomic OR. -/
  | satomOr (m : Bool) (f : LM)
  /-- SATOM_XOR (R245): Scalar atomic XOR. -/
  | satomXor (m : Bool) (f : LM)
  /-- SATOM_MIN (R245): Scalar atomic minimum. -/
  | satomMin (m : Bool) (f : LM)
  /-- SATOM_MAX (R245): Scalar atomic maximum. -/
  | satomMax (m : Bool) (f : LM)
  /-- SATOM_SWAP (R245): Scalar atomic swap. -/
  | satomSwap (m : Bool) (f : LM)
  /-- SATOM_CAS (R245): Scalar atomic compare-and-swap. -/
  | satomCas (m : Bool) (f : LM)
  /-- CLAIM (R249): Atomically claims a chunk of items from a counter record. -/
  | claim (m : Bool) (f : LM)
  /-- XCVT (R154): Sieve conversion of container elements between formats. -/
  | xcvt (m : Bool) (f : LX)
  /-- XQNT (R157): Quantises lane groups into whole blocks of a format page at commit. -/
  | xqnt (m : Bool) (f : LX)
  /-- XDQNT (R155): Dequantises scaled container elements. -/
  | xdqnt (m : Bool) (f : LX)
  /-- XHAD (R156): Applies the Hadamard transform to FP32 lane groups. -/
  | xhad (m : Bool) (f : LX)
  /-- XDEC (R163): Decodes k-bit fields from the scratchpad bit stream into lanes. -/
  | xdec (m : Bool) (f : LX)
  /-- XTBL (R160): Loads an 8-entry codebook table from scratchpad, optionally after a barrier wait. -/
  | xtbl (m : Bool) (f : LX)
  /-- TLD (R181): Loads a tile from memory in the background. -/
  | tld (m : Bool) (f : LT)
  /-- TLD_W (R183): Fills an operand tile by decoding a format page. -/
  | tldW (m : Bool) (f : LT)
  /-- TLDG (R184): Gathers tile rows from scratchpad by lane indices. -/
  | tldg (m : Bool) (f : LT)
  /-- TST (R182): Stores a tile's rows at commit. -/
  | tst (m : Bool) (f : LT)
  /-- TZERO (R181): Zeroes a tile and clears its poison. -/
  | tzero (m : Bool) (f : LT)
  /-- TMMA (R185): Multiplies operand tile ranges into an accumulator tile. -/
  | tmma (m : Bool) (f : LT)
  /-- TGRP (R186): Grouped matrix multiply over row groups of the accumulator. -/
  | tgrp (m : Bool) (f : LT)
  /-- TWAIT (R175): Waits for the wave's commands naming one tile. -/
  | twait (m : Bool) (f : LT)
  /-- TWAIT_ALL (R175): Waits for every Basalt command of the wave. -/
  | twaitAll (m : Bool) (f : LT)
  /-- QRES (R288): Resolves handles to row and stratum. -/
  | qres (m : Bool) (f : LQ)
  /-- QLDC (R286): Loads a component word by row. -/
  | qldc (m : Bool) (f : LQ)
  /-- QLDC_H (R286): Loads a component word by handle. -/
  | qldcH (m : Bool) (f : LQ)
  /-- QSTC (R286): Stores a component word by row. -/
  | qstc (m : Bool) (f : LQ)
  /-- QSTC_H (R286): Stores a component word by handle. -/
  | qstcH (m : Bool) (f : LQ)
  /-- QLDH (R288): Loads the handle of the entity at a row. -/
  | qldh (m : Bool) (f : LQ)
  /-- QNEW (R290): Reserves a slot and pending row and queues an entity creation. -/
  | qnew (m : Bool) (f : LQ)
  /-- QDEL (R291): Queues the deletion of an entity. -/
  | qdel (m : Bool) (f : LQ)
  /-- QADD (R291): Queues adding a component to an entity. -/
  | qadd (m : Bool) (f : LQ)
  /-- QREM (R291): Queues removing a component from an entity. -/
  | qrem (m : Bool) (f : LQ)
  /-- QGEN (R288): Reads a slot's generation and state. -/
  | qgen (m : Bool) (f : LQ)
  /-- LEG_COMMIT (R39): A parked leg commits its results, stores and side effects once outstanding results return. -/
  | legCommit (w : Nat) (k : SlotId)
  /-- FAULT_DELIVERY (R394): A fault writes the handler frame and fault registers and calls the supervisor handler. -/
  | faultDelivery (w : Nat) (k : SlotId)
  /-- ISSUE_AGE_PRIORITY (R309): A slot ready for 256 consecutive cycles is picked before others. -/
  | issueAgePriority (w : Nat) (k : SlotId)
  /-- SLOT_ROTATION (R311): After 4,096 committed legs a slot rotates its path to the stack. -/
  | slotRotation (w : Nat) (k : SlotId)
  /-- HAMPER_SPILL (R325): The Hamper spills images outside the working set to free run slots. -/
  | hamperSpill (w : Nat)
  /-- SIEVE_SERVE (R148): The free Sieve takes the next quadrant's oldest request in rotation. -/
  | sieveServe (core : BitVec 10)
  /-- BASALT_COMMAND_START (R173): A committed tile command runs once earlier conflicting commands finish. -/
  | basaltCommandStart (tok : DWord)
  /-- BASALT_COMMAND_FINISH (R174): A tile command finishes and stops being outstanding. -/
  | basaltCommandFinish (tok : DWord)
  /-- PORTER_CHUNK (R258): Porter reads and writes one 4,096-byte chunk and counts its bytes into a barrier. -/
  | porterChunk (tok : DWord)
  /-- WAITV_RECHECK (R336): The device re-reads a watched word until it differs. -/
  | waitvRecheck (w : Nat) (k : SlotId)
  /-- WAVE_BIND (R305): The Guide binds waiting waves to free slots in its priority order. -/
  | waveBind (core : BitVec 10) (quad : BitVec 2)
  /-- WAVE_PREEMPT (R312): The Guide pre-empts a unit of waves and saves their images. -/
  | wavePreempt (launch : Nat) (core : BitVec 10)
  /-- WAVE_REBIND (R313): The Guide restores a suspended wave, or refuses it with a context-fit record. -/
  | waveRebind (w : Nat) (core : BitVec 10) (quad : BitVec 2)
  /-- CAIRN_APPLY (R276): The Quarry engine applies a ready cairn's groups, slot releases and compaction. -/
  | cairnApply (world : BitVec 8)
  /-- TLB_WALK (R379): A controller TLB walk ends, filling an entry or walking again after a later shoot-down. -/
  | tlbWalk (idx : Nat)
  /-- HOST_ATOMIC_FAILURE (R247): An AtomicOp answered with Unsupported Request or Completer Abort faults the path after its leg. -/
  | hostAtomicFailure (w : Nat) (k : SlotId) (lanes : Mask) (abort : Bool)
  /-- COMPLETION_TIMEOUT (R417): A device read or AtomicOp with no completion within CTO takes 0x3003. -/
  | completionTimeout (w : Nat) (k : SlotId) (lanes : Mask) (performed : Bool)
  /-- LATE_COMPLETION (R417): A completion arriving after the timeout is discarded. -/
  | lateCompletion (port : PortId)
  /-- POSTED_WRITE_ERROR (R417): A failed posted write is counted in PWERR with its address. -/
  | postedWriteError (port : PortId) (addr : DWord)
  /-- CXL_RESPONSE_TIMEOUT (R419): A CXL request without response in 10 ms takes 0x2001 and poisons the line. -/
  | cxlResponseTimeout (port : BitVec 2) (addr : DWord)
  /-- DOMAIN_RESPONSE_TIMEOUT (R420): A domain access without response in 10 ms takes 0x3003. -/
  | domainResponseTimeout (w : Nat) (k : SlotId) (lanes : Mask) (performed : Bool)
  /-- FAULT_QUEUE_FLUSH (R406): Held fault records are written to the queue in order once room appears. -/
  | faultQueueFlush (part : BitVec 3)
  /-- ROOT_LAUNCH (R304): A GO write starts a root launch from RLADDR. -/
  | rootLaunch (port : PortId) (rlctl : Word)
  /-- SEMAPHORE_ACQUIRE (R382): Reading the semaphore register while free makes the port owner. -/
  | semaphoreAcquire (port : PortId)
  /-- SEMAPHORE_RELEASE (R382): Writing HELD releases the port's semaphore. -/
  | semaphoreRelease (port : PortId)
  /-- PART_SET (R368): Configures a partition record and its memory ranges. -/
  | partSet (port : PortId)
  /-- PART_RELEASE (R386): Wipes and frees every resource of a partition. -/
  | partRelease (port : PortId)
  /-- MAP (R385): Writes leaves for a range, rewriting or migrating present leaves. -/
  | map (port : PortId)
  /-- UNMAP (R385): Removes leaves of a range or leaves reserved leaves. -/
  | unmap (port : PortId)
  /-- PROTECT (R385): Changes the permissions and format of present leaves. -/
  | protect (port : PortId)
  /-- WORLD_CREATE (R385): Creates a world with its column region and ESZ table. -/
  | worldCreate (port : PortId)
  /-- WORLD_DESTROY (R384): Destroys a world not in use. -/
  | worldDestroy (port : PortId)
  /-- HEAD_CONFIG (R349): Configures or disables a Lookout head. -/
  | headConfig (port : PortId)
  /-- IDENTITY (R388): Returns the device identity record. -/
  | identity (port : PortId)
  /-- ATTEST (R390): Returns a signed attestation report over a nonce. -/
  | attest (port : PortId)
  /-- LIFECYCLE (R387): Performs an authorised life-cycle transition with a wipe. -/
  | lifecycle (port : PortId)
  /-- FW_UPDATE (R425): Verifies and writes a firmware image to the inactive slot. -/
  | fwUpdate (port : PortId)
  /-- SUSPEND (R383): Pre-empts every wave of a launch and keeps them suspended. -/
  | suspend (port : PortId)
  /-- RESUME (R383): Makes a launch's suspended waves eligible for rebinding. -/
  | resume (port : PortId)
  /-- WORK_REQUEST (R384): A mailbox record carrying a launch record is refused with 0x000B. -/
  | workRequest (port : PortId)
  /-- PORT_REPLAY (R408): A replay GO write wakes paths or a stopped cairn under RPKEY. -/
  | portReplay (port : PortId) (ctl : DWord)
  /-- APERTURE_ACCESS (R416): An inbound read or write through a BAR2 window is translated and served. -/
  | apertureAccess (port : PortId) (req : InboundReq)
  /-- INBOUND_ATOMICOP (R416): An inbound AtomicOp is performed at the home slice. -/
  | inboundAtomicop (port : PortId) (req : InboundAtomic)
  /-- PORT_HOT_RESET (R418): A hot reset returns one port's registers to reset and fails its outstanding requests. -/
  | portHotReset (port : PortId)
  /-- PORT_LINK_LOSS (R418): Loss of one port's link ends its semaphore ownership and fails its requests. -/
  | portLinkLoss (port : PortId)
  /-- FUNDAMENTAL_RESET (R418): A device reset wipes the device and starts a verified boot. -/
  | fundamentalReset (both : Bool) (port : PortId)
  /-- START_TIMEOUT (R423): The Guide not reaching ready within 10 s fails the start. -/
  | startTimeout 
  /-- POWER_THROTTLE (R422): Islands of a partition over its power share are lowered one step. -/
  | powerThrottle (part : BitVec 3) (pnow : Word)
  /-- THERMAL_THROTTLE (R422): TMAX reaching 100 °C lowers every island together. -/
  | thermalThrottle (tmax : BitVec 16)
  /-- THERMAL_STOP (R422): TMAX reaching 110 °C stops every island and resets the device. -/
  | thermalStop (tmax : BitVec 16)
  /-- REFRESH_LATCH (R353): At band 0's start a refresh chooses its frame set and output. -/
  | refreshLatch (head : BitVec 4)
  /-- BAND_START (R356): At S_b Lookout reads the pose and starts tier-0 work on a band. -/
  | bandStart (head : BitVec 4)
  /-- BAND_PROJECTION (R357): Every 1,024 cycles Lookout projects the band's finish and may drop to tier 1. -/
  | bandProjection (head : BitVec 4) (late : Bool)
  /-- TIER0_DEADLINE (R357): At D_b an unfinished tier-0 band falls to tier 1. -/
  | tier0Deadline (head : BitVec 4)
  /-- TIER1_CUTOFF (R357): At C_b an unfinished tier-1 band falls to tier 2. -/
  | tier1Cutoff (head : BitVec 4)
  /-- BAND_DONE (R360): A band completes and its tier, counters and output are released. -/
  | bandDone (head : BitVec 4)
  /-- LINE_SCANOUT (R349): An active line goes out at its raster time. -/
  | lineScanout (head : BitVec 4)
  /-- REGISTER_WRITE (R8): A write to a register with no row of its own sets its fields. -/
  | registerWrite (port : PortId) (off : BitVec 16) (val : DWord)
  /-- DOMAIN_INBOUND_ACCESS (R420): A domain access from a peer Zilyr arrives at this owner, is checked against its export table and is served or refused with 0x1002. -/
  | domainInboundAccess (peer : BitVec 4) (req : DomainReq)
  /-- JEXKIN_LINK_LOSS (R420): A Jexkin Link goes down, so routes through it are no longer live and accesses to an owner with no live route take 0x3003. -/
  | jexkinLinkLoss (link : BitVec 4)
  /-- CXL_LINK_LOSS (R419): A CXL port's link goes down, after which requests on that port take 0x2001 and poison their line. -/
  | cxlLinkLoss (port : BitVec 2)
  /-- POWER_RAIL_FAULT (R424): A power-rail fault during start-up fails the start with REASON 0x07, counts in FAILS and switches the active slot. -/
  | powerRailFault 
  /-- UNKNOWN_OP (R384): A mailbox request whose OP is not defined is refused with RESULT 0x0C01 and changes nothing. -/
  | unknownOp (port : PortId)
  /-- BAND_LAYER_END (R357): At the end of each route-card layer Lookout projects the band's finish and may move it from tier 0 to tier 1. -/
  | bandLayerEnd (head : BitVec 4) (late : Bool)
  /-- LOOKOUT_ACCESS_FAULT (R361): A Lookout read or write for a band faults mid-band, is recorded and posted, and moves the band to the next tier. -/
  | lookoutAccessFault (head : BitVec 4) (code : BitVec 16) (addr : DWord)
  deriving DecidableEq, Repr

end Sys2Proof
end

