-- ==== Sys2Proof/Machine/State.lean ====
section
/-! DEFINITION. The state of the whole package as plain data: waves and their registers (spec/02_wave_state.md R21),
cores, memory and page tables, launches, the Quarry, Lookout, the ports, power and start-up. -/

namespace Sys2Proof.Machine

/-! ## Lane registers in run form (R29, R105 to R107) -/

/-- One run of a lane register: a value held by `cnt` consecutive lanes (R29). -/
structure Run where
  val : Word
  cnt : Nat
  deriving DecidableEq, Repr

/-- A lane register: its runs in lane order (R29). -/
abbrev LReg := List Run

/-- One run of a link vector (R21, R27): a return address held by `cnt` consecutive lanes. -/
structure LinkRun where
  addr : DWord
  cnt  : Nat
  deriving DecidableEq, Repr

/-- Where a lane register's name leads at a depth (R27): depth 0's v0 to v15, register 16 + i of a depth's image, or a
global register v48 to v63. -/
inductive VKey where
  | low (i : BitVec 4)
  | img (depth : Nat) (i : BitVec 5)
  | glob (i : BitVec 4)
  deriving DecidableEq, Repr

/-- A register that an error may poison (R411): of a lane register or a link vector one run slot is hit, and whatever reads
the register meets it. -/
inductive RegName where
  | s (r : BitVec 6)
  | a (r : AReg)
  | v (k : VKey)
  | link (depth : Nat)
  deriving DecidableEq, Repr

/-- The image of one depth (R27, R320): v16 to v47, its link vector, and which of the 32 registers and the link vector
are resident in the run store (R114, R325). -/
structure Image where
  regs : Vector LReg 32
  link : List LinkRun
  res  : BitVec 32
  lres : Bool
  deriving DecidableEq, Repr

/-- The registers both PC slots share (R21), control registers included (R32). The fields of R32 that a launch or a
placement fixes stand in `Wave`. -/
structure Regs where
  s : Vector Word 61
  a : Vector DWord 16
  /-- v0 to v15 of depth 0 -/
  low : Vector LReg 16
  lowRes : BitVec 16
  /-- images by depth -/
  imgs : List Image
  /-- v48 to v63 -/
  glob : Vector LReg 16
  fcode : Word
  faddr : DWord
  ftok : DWord
  qabt : DWord
  nf : Vector Word 8
  csat : Word
  cftz : Word
  cnan : Word
  pwb : Bool
  /-- poisoned registers; `true` once the error has been found (R411) -/
  bad : List (RegName × Bool)
  deriving DecidableEq, Repr

/-! ## Memory -/

/-- A page-table leaf (R375): the page it maps and its attributes. `size` is 0, 1 or 2 for 64 KiB, 2 MiB and 1 GiB. -/
structure Leaf where
  asid : BitVec 16
  size : Nat
  va   : DWord
  p    : Bool
  w    : Bool
  x    : Bool
  cw   : Bool
  hau  : Bool
  loc  : BitVec 2
  dev  : BitVec 4
  fmt  : BitVec 5
  blk  : Bool
  scl  : BitVec 2
  /-- physical address of the page within LOC and DEV -/
  pa   : DWord
  deriving DecidableEq, Repr

/-- One piece of a located access: `len` bytes of the one memory at `key`, under the leaf that maps them (none in a
local store). -/
structure Piece where
  key  : Nat
  len  : Nat
  leaf : Option Leaf
  deriving DecidableEq, Repr

/-- A held store of a leg (R39): the bytes and where they go; `va` is the generic address, for the port's log. -/
structure HeldStore where
  pieces : List Piece
  bytes  : List Byte
  asid   : BitVec 16
  va     : DWord
  deriving DecidableEq, Repr

/-- A range of an ASID whose instruction lines were dropped: in one core by CINV (R250), in every core by a shoot-down
(R378). -/
structure CacheDrop where
  core : Option (BitVec 10)
  asid : BitVec 16
  lo : DWord
  len : Nat
  deriving DecidableEq, Repr

/-- An instruction word that a store has changed, with its value before and the drops since the store: until a drop covers
the word, a fetch may return that value (R67). -/
structure OldWord where
  /-- the word's key divided by 4 -/
  key : Nat
  word : Word
  drops : List CacheDrop
  deriving DecidableEq, Repr

/-- A TLB entry (R377). -/
structure TlbEntry where
  die  : Nat
  ctl  : Nat
  leaf : Leaf
  deriving DecidableEq, Repr

/-- A table walk in flight (R379): the page it is for and the shoot-down number when it began. -/
structure Walk where
  die  : Nat
  ctl  : Nat
  asid : BitVec 16
  va   : DWord
  seq  : Nat
  deriving DecidableEq, Repr

/-- A shoot-down that has started (R378). -/
structure Shoot where
  seq  : Nat
  asid : BitVec 16
  lo   : Nat
  len  : Nat
  deriving DecidableEq, Repr

/-! ## What a closing instruction will do at commit -/

/-- One lane of a checked atomic (R245): where, operand and compare value (the low `8 n` bits). -/
structure AtomLane where
  lane : Nat
  addr : DWord
  pieces : List Piece
  v : BitVec 128
  c : BitVec 128
  deriving DecidableEq, Repr

/-- A Porter descriptor (R254, R255), decoded. -/
structure PDesc where
  kind : Nat
  src : DWord
  dst : DWord
  ben : Bool
  bar : BitVec 6
  /-- LEN, CNT0 or BSZ -/
  n0 : Nat
  /-- CNT1 or NENT -/
  n1 : Nat
  /-- CNT2 or POOLN -/
  n2 : Nat
  n3 : Nat
  table : DWord
  ss : Vector Word 3
  ds : Vector Word 3
  deriving DecidableEq, Repr

/-- Tile command kinds (R181 to R186), with what they read as their leg began. -/
inductive TileCmd where
  /-- TLD, TST: tile, base, row stride -/
  | load (t : Tile) (base : DWord) (stride : DWord)
  | store (t : Tile) (base : DWord) (stride : DWord)
  /-- TLD.w: tile, base, row stride, target element code -/
  | loadW (t : Tile) (base : DWord) (stride : DWord) (elem : BitVec 5)
  /-- TLDG: tile, base, row offsets of the active lanes -/
  | gather (t : Tile) (base : DWord) (rows : List (Option Word))
  | zero (t : Tile)
  | mma (zt : BitVec 4) (ta tb : BitVec 7) (param : Word) (nf : Vector Word 8)
  | grp (zt : BitVec 4) (ta tb : BitVec 7) (param : Word) (groups : List (Option Nat)) (nf : Vector Word 8)
  deriving DecidableEq, Repr

/-- Kinds of queue operation (R273). -/
inductive QKind where
  | new (strat : Nat) | del | add (ct : Nat) | rem (ct : Nat)
  deriving DecidableEq, Repr

/-- What the closing instruction of a leg does at commit (R39), with every register operand as it was read. -/
inductive Closing where
  | jump (target : DWord) (check : Bool)
  | split (taken : Mask) (target : DWord) (at_ : DWord)
  | multi (call : Bool) (targets : List (Nat × DWord)) (at_ : DWord)
  | call (target : DWord)
  | ret (at_ : DWord)
  | join (m : Mask) (at_ : DWord)
  | yield
  | waitv (d : SReg) (b : Word) (addr : DWord)
  | exit
  | launch (query : Bool) (d : SReg) (addr : DWord)
  | wsync (flush : Bool)
  | binit (id : Word) (n : Word)
  | barv (d : SReg) (id : Word) (n : Word)
  | bexp (d : SReg) (id : Word) (n : Word)
  | bwait (id : Word) (par : Bool)
  | btest (d : SReg) (id : Word) (par : Bool)
  | gbar
  | atomic (scalar : Bool) (op : AtomOp) (ty : LTy) (width : Nat) (dst : Sel) (lanes : List AtomLane)
  | claim (d : SReg) (addr : DWord) (pieces : List Piece) (lim : Word)
  | pcopy (desc : PDesc) (addr : DWord)
  | pbatch (d : SReg)
  | pwait (n : Word)
  | tile (c : TileCmd)
  | twait (t : Option Tile)
  | qgrp (world : BitVec 8)
  | qcommit
  | qview (d : SReg) (req exc : BitVec 256) (world : BitVec 8)
  | qdrop (v : Word)
  | cairn (world : BitVec 8) (d : SReg)
  /-- QNEW; lanes with their stratum -/
  | qnew (dst : Sel) (mb : MBase) (world : BitVec 8) (lanes : List (Nat × Word))
  /-- QDEL, QADD, QREM; lanes with their handle -/
  | qop (k : QKind) (mb : MBase) (lanes : List (Nat × DWord))
  | lksub (d : SReg) (head : BitVec 4) (bytes : List Byte)
  | lkcard (d : SReg) (head : BitVec 4) (bytes : List Byte) (weights : List (List Byte)) (biases : List (List Byte))
  | lkstat (d : SReg) (head : BitVec 4) (item : BitVec 3)
  | trap (d : SReg) (addr : DWord) (detail : BitVec 8) (inHandler : Bool)
  | svret
  | rplay (d : SReg) (key : DWord) (status : Word)
  | mapft (d : SReg) (addr : DWord)
  | mapcw (d : SReg) (addr : DWord)
  | tlbinv (addr : DWord) (len : Word)
  | csrw (csr : BitVec 12) (val : DWord)
  deriving DecidableEq, Repr

/-! ## Waves -/

/-- An outstanding access of the open leg: a read of a host or domain page (R240, R417), or a store to another device or to CXL
memory that is not answered yet (R419, R420): port or device, and each lane with its address. A scalar access is one request; `scalar` is then the mask of its fault, the path's active lanes (R391). -/
structure OutRead where
  host : Bool
  dev  : BitVec 4
  lanes : List (Nat × DWord)
  scalar : Option Mask
  /-- a store to CXL memory behind port `dev` (R419) -/
  cxl : Bool := false
  deriving DecidableEq, Repr

/-- The open leg of a slot (R36 to R39). -/
structure Leg where
  /-- address of the leg's first instruction and of the instruction that issues next -/
  start : DWord
  next : DWord
  count : Nat
  memCount : Nat
  /-- E as the leg began -/
  e0 : Mask
  /-- the registers as the leg began -/
  snap : Regs
  temps : Vector LReg 8
  /-- pending writes, newest first; s61 to s63 included -/
  sw : List (SReg × Word)
  aw : List (AReg × DWord)
  vw : List (VKey × LReg)
  resv : Nat
  stores : List HeldStore
  csat : Nat
  cftz : Nat
  cnan : Nat
  pwb : Bool
  /-- lanes that received poison from a widening load and the address R104 gives (R411) -/
  poisoned : Mask
  poisonAddr : DWord
  out : List OutRead
  /-- registers the other slot has committed since the leg began (R438) -/
  crossed : List VKey
  /-- what the leg's loads have read so far: the located bytes and their value then (log entry 74) -/
  loads : List (List Piece × List Byte)
  /-- fence classes of the leg's accesses (R225) -/
  cls : BitVec 6
  /-- the other slot has performed accesses since the leg began (R208, log entry 74) -/
  passed : Bool
  /-- TPROG as the leg began (R38, R404) -/
  tprog : Word
  /-- the instruction's reservation is held up (R117) -/
  short : Bool
  closing : Option Closing
  /-- the closing instruction's own address -/
  closingAt : DWord
  /-- the leg has reached its marker and is parked -/
  parked : Bool
  /-- its closing side effect has been sent (R312) -/
  sent : Bool
  /-- the answer to a sent side effect, once it has come -/
  reply : Option Word
  /-- lanes whose AtomicOp a host did not perform or answer, the DEFER bit of the lowest code they raise, and those lanes
  that the host performed all the same (R247) -/
  failed : Mask
  failBit : BitVec 16
  failDone : Mask
  /-- fences of the leg: predecessor and successor classes (R226) -/
  fences : List (BitVec 6 × BitVec 6)
  /-- CINVs of the leg: start and length of the range, and how many of the leg's stores precede it (R67, R250) -/
  cinvs : List (DWord × Word × Nat)
  /-- the world whose cairn the leg's next instruction, or its marker, waits for (R277) -/
  cwait : Option (BitVec 8)
  /-- the world's stage when that wait began, and the move in which it did: LAUNCHQs go on in that order (R271) -/
  cstage : Nat
  cseq : Nat
  deriving DecidableEq, Repr

/-- An open commit-group bracket: its world and its number within the wave (R292, R316). -/
structure Bracket where
  world : BitVec 8
  seq : BitVec 24
  deriving DecidableEq, Repr

/-- A path (R23, R314). -/
structure Path where
  pc  : DWord
  p   : Mask
  e   : Mask
  dep : BitVec 16
  brk : Option Bracket
  /-- the computed target whose first leg has not committed: a leg that begins there takes the target check (R322) -/
  jumped : Option DWord
  deriving DecidableEq, Repr

/-- A handler frame (R394, R410). `woken` says that WAKEST holds a delivered wake. -/
structure HFrame where
  rpc : DWord
  se : Mask
  sdep : BitVec 16
  active : Bool
  waiting : Bool
  swcode : BitVec 8
  waitkey : DWord
  wakest : Word
  woken : Bool
  defer : BitVec 16
  dmask : Mask
  daddr : DWord
  /-- mask of the fault that the handler was entered with, for its record (R398) -/
  fmask : Mask
  /-- the target check that the interrupted path has still to take (R322) -/
  jumped : Option DWord
  deriving DecidableEq, Repr

/-- Why a slot's next instruction cannot issue yet: a fence covers its accesses (R226), an XTBL waits for a barrier (R161),
or its reservation for the other slot (R117). -/
inductive SlotWait where
  | fence (cls : BitVec 6)
  | bar (id : BitVec 6) (par : Bool)
  | room (need : Nat)
  deriving DecidableEq, Repr

/-- A PC slot (R21). -/
structure Slot where
  path : Option Path
  leg : Option Leg
  frame : HFrame
  /-- legs committed since the path took the slot (R311) -/
  legs : Nat
  /-- consecutive turns the slot has been ready (R309) -/
  age : Nat
  /-- parked by the other slot's handler until its SVRET (R395) -/
  held : Bool
  /-- parked under a wait-table entry after a double fault, or with its record not yet posted (R396) -/
  dead : Bool
  /-- FADDR of a pending software trap (R398), and FADDR of a pending 0x4003 (R297) -/
  swaddr : DWord
  qaddr : DWord
  qtag : DWord
  /-- barriers whose waits legs of the path have found unsatisfied since one of its legs last committed (R346) -/
  waitBar : List (BitVec 6)
  /-- faults due after the program's last leg that wait for the handler to return (R391, R395) -/
  pend : BitVec 16
  /-- mask and address of a host-atomic fault due beside a widening fault (R247, R410: DMASK and DADDR hold one) -/
  hmask : Mask
  haddr : DWord
  /-- which of the due faults are of a leg in the supervisor page (R396) -/
  sup : BitVec 16
  /-- what the next instruction waits for (R309) -/
  wait : Option SlotWait
  /-- the next instruction's words, the beats before it (R108) or the results of the last one have still to come (R309) -/
  lag : Bool
  /-- the path has come from this entry of the divergence stack, which the Hamper has still to read (R316) -/
  took : Option Nat
  deriving DecidableEq, Repr

/-- A divergence stack entry (R316). `join` holds JPC and JMASK of KIND 2; `due` keeps the faults due after the path's last
leg until it holds a slot again (R391); `mem` is the entry's place in memory once the Hamper has written it; a held entry is
one that the Hamper could not write or read (R317). -/
structure StackEntry where
  path : Path
  join : Option (DWord × Mask)
  waitBar : List (BitVec 6)
  due : Slot
  mem : Option Nat
  held : Bool
  deriving DecidableEq, Repr

/-- A record of the save area (R323): v0 to v15 of depth 0, a register of a depth's image, or its link vector. -/
inductive SaveRec where
  | low (i : BitVec 4)
  | reg (d : Nat) (i : BitVec 5)
  | link (d : Nat)
  deriving DecidableEq, Repr

/-- A Hamper access: a record's spill or fill, the writing of the divergence stack's entries, the reading of the entry in a
place for a slot, or a context image (R316, R325 to R327). -/
inductive HamperAcc where
  | spill (r : SaveRec)
  | fill (r : SaveRec)
  | entries
  | take (k : SlotId) (place : Nat)
  | image
  deriving DecidableEq, Repr

/-- A Hamper access stopped by a fault (R327). -/
structure HamperStop where
  acc : HamperAcc
  code : BitVec 16
  addr : DWord
  tok : DWord
  reported : Bool
  deriving DecidableEq, Repr

/-- Rows a wave of a query or view launch was given (R269, R285): world, stratum, first row, and the view's row limit. -/
structure RowCtx where
  world : BitVec 8
  strat : Nat
  first : Word
  limit : Option Nat
  deriving DecidableEq, Repr

/-- States of a bound wave (R305): running (bound or running) and suspended. -/
inductive WaveState where
  | bound | running | suspending | suspended
  deriving DecidableEq, Repr

/-- A wave bound to a quadrant, or suspended (R21, R303, R305). -/
structure Wave where
  id : Nat
  launch : Nat
  wid : Word
  core : BitVec 10
  quad : BitVec 2
  /-- its entry in the core's slot table, 0 to 63 -/
  entry : Nat
  state : WaveState
  ww : Nat
  rb : Nat
  spb : DWord
  spl : DWord
  pvb : DWord
  asid : BitVec 16
  part : BitVec 3
  regs : Regs
  s0 : Slot
  s1 : Slot
  /-- divergence stack, entry 0 first (R316) -/
  stack : List StackEntry
  brkSeq : BitVec 24
  hamper : Option HamperStop
  rows : Option RowCtx
  /-- last PBATCH number (R261) -/
  batch : Word
  /-- GBAR count reached, and whether the wave has arrived at the next (R348) -/
  gbars : Nat
  gbarAt : Bool
  /-- suspended by a SUSPEND request until RESUME (R308) -/
  kept : Bool
  /-- the first leg has committed (R310) -/
  started : Bool
  /-- fences with engine commands before them (R226): the commands' tokens and the classes held until they are done -/
  fences : List (List DWord × BitVec 6)
  /-- a rebind has been refused and its suspend record posted (R313) -/
  refusedFit : Bool
  /-- rebound, with the context image still to be read (R327, R119) -/
  unread : Bool
  deriving DecidableEq, Repr

/-! ## Cores -/

/-- A core barrier (R344). -/
structure Barrier where
  hold : Option Nat
  ph : Bool
  exp : BitVec 16
  arr : BitVec 16
  byt : Word
  deriving DecidableEq, Repr

/-- A launch's scratchpad allocation on a core (R197). -/
structure Alloc where
  launch : Nat
  base : Nat
  size : Nat
  deriving DecidableEq, Repr

/-- A Sieve request that waits (R148): wave and slot. -/
structure SieveReq where
  wave : Nat
  slot : SlotId
  quad : BitVec 2
  deriving DecidableEq, Repr

/-- One core. -/
structure Core where
  num : Nat
  /-- bank roles (R194) -/
  roles : DWord
  cyc : DWord
  bars : List (BitVec 6 × Barrier)
  allocs : List Alloc
  /-- Sieve (R148): quadrant served last, is an instruction in the pipe, the request the rotation has taken and whose
  slot has not issued it yet, and the requests that wait, oldest first -/
  sieveLast : BitVec 2
  sieveBusy : Bool
  sieveGrant : Option SieveReq
  sieveQ : List SieveReq
  /-- tiles that hold poison (R172): o0 to o127, then z0 to z15 -/
  tilePoison : BitVec 144
  deriving DecidableEq, Repr

/-- A Basalt command (R173 to R176, R187). -/
structure BasaltCmd where
  tok : DWord
  core : Nat
  wave : Nat
  asid : BitVec 16
  cmd : TileCmd
  /-- a load's rows once its source has been read, and whether they bring poison -/
  data : Option (List Byte × Bool)
  started : Bool
  /-- finished; a TLD.w stays until a wait has added its counts (R175) -/
  done : Bool
  /-- fault that suspended it: code and address -/
  susp : Option (BitVec 16 × DWord)
  reported : Bool
  /-- commands that a fence puts before this one (R226) -/
  after : List DWord
  /-- stopped macro-op's progress as TPROG lays it out (R188) -/
  prog : Word
  stopped : Bool
  /-- a TLD.w's conversion counts (R168) -/
  events : Nat × Nat × Nat
  /-- bytes that the wave has stored to since the load was committed, as they were before: a load that reads its source later
  still reads them so (R179) -/
  kept : List (Nat × Byte)
  /-- the wave's Porter commands that were committed before (R179, R226) -/
  early : List DWord
  deriving DecidableEq, Repr

/-- A Porter command (R253 to R262). -/
structure PorterCmd where
  tok : DWord
  core : Nat
  wave : Nat
  launch : Nat
  asid : BitVec 16
  part : BitVec 3
  desc : PDesc
  /-- the batch that closed it; none while open -/
  batch : Option Word
  /-- destination bytes done -/
  done : Nat
  susp : Option (BitVec 16 × DWord)
  reported : Bool
  /-- commands that a fence puts before this one (R226) -/
  after : List DWord
  /-- keys of the destination bytes that later commands of the wave have written (R227) -/
  rewritten : List Nat
  /-- the chunk in work: the bytes that it has read and has still to write (R161, R258) -/
  work : Option (List (Piece × Byte))
  deriving DecidableEq, Repr

/-! ## Launches -/

/-- A launch record (R299), as the Guide copied it. -/
structure LaunchRec where
  entry : DWord
  nwave : Word
  ww : Nat
  prio : Nat
  rb : Nat
  flags : Word
  scr : Nat
  sab : DWord
  sasz : Nat
  psz : Nat
  pvbase : DWord
  ofirst : Nat
  ocnt : Nat
  zfirst : Nat
  zcnt : Nat
  kw : Word
  brs : DWord
  pw : Vector (DWord × Nat) 4
  thsat : Word
  thftz : Word
  thnan : Word
  qrec : DWord
  prod : DWord
  rset : BitVec 256
  wset : BitVec 256
  reserved : Bool
  deriving DecidableEq, Repr

/-- STATE of a launch (R301). -/
inductive LaunchState where
  | accepted | complete | refused
  deriving DecidableEq, Repr

/-- What a query or view launch runs over (R341): its world, stage and submission index for a system; the view for a
view launch; the strata with their rows once fixed. -/
structure LaunchQuery where
  world : BitVec 8
  req : BitVec 256
  exc : BitVec 256
  view : Option Nat
  stage : Nat
  sub : Nat
  strata : Option (List (Nat × Nat))
  /-- the view has been dropped while the launch runs (R295) -/
  dropped : Bool
  deriving DecidableEq, Repr

/-- A launch the Guide has accepted or refused. -/
structure Launch where
  id : Nat
  addr : DWord
  asid : BitVec 16
  part : BitVec 3
  lr : LaunchRec
  query : Option LaunchQuery
  state : LaunchState
  retired : Nat
  reason : BitVec 16
  /-- waves not yet bound: next ordinal and how many there are -/
  next : Nat
  total : Nat
  /-- a SUSPEND request names the launch and no RESUME has (R383) -/
  held : Bool
  deriving DecidableEq, Repr

/-- What is kept of a pre-empted unit beside its waves' images (R308, R187, R409): its launch, core and waves, its
allocation's bytes, its barriers, and the poison bits of its waves' tiles. -/
structure SavedUnit where
  launch : Nat
  core : Nat
  waves : List Nat
  size : Nat
  bytes : List Byte
  bars : List (BitVec 6 × Barrier)
  tiles : List (Nat × BitVec 144)
  deriving DecidableEq, Repr

/-! ## The Quarry -/

/-- State of an entity slot (R265). A pending slot belongs to the launch whose QNEW reserved it (none: a root-launched
wave's launch is a launch too). -/
inductive EntState where
  | free
  | pending (launch : Nat) (strat row : Nat)
  | live (strat row : Nat)
  | retired
  deriving DecidableEq, Repr

/-- An entity slot below the high-water mark. -/
structure Ent where
  slot : Word
  gen : BitVec 24
  st : EntState
  deriving DecidableEq, Repr

/-- A stratum (R267, R268): its component types with their column bases, the slot of each row (none: a tombstone), and
PEND. -/
structure Stratum where
  num : Nat
  comps : List (Nat × DWord)
  rows : List (Option Word)
  pend : Nat
  deriving DecidableEq, Repr

/-- A view (R278): its index, the strata it pins with their ROWS. -/
structure View where
  idx : Nat
  pins : List (Nat × Nat)
  deriving DecidableEq, Repr

/-- A queued operation (R273). -/
structure QOp where
  kind : QKind
  handle : DWord
  launch : Nat
  deriving DecidableEq, Repr

/-- A commit group (R274): its system's submission index, the wave and its ordinal, the bracket's number, when it was
closed at the hub die, and its operations in queue order. -/
structure Group where
  sub : Option Nat
  wave : Nat
  ordinal : Nat
  bracket : Option (BitVec 24)
  closed : Option Nat
  aborted : Bool
  crossed : Bool
  ops : List QOp
  deriving DecidableEq, Repr

/-- An entity that a cairn brings into a stratum (R276): the stratum, its slot, the bytes of its components, and its pending
row, if it has one. -/
structure Arrival where
  strat : Nat
  slot : Word
  data : List (Nat × List Byte)
  pend : Option (Nat × Nat)
  fresh : List Nat
  deriving DecidableEq, Repr

/-- A cairn at the hub die (R15, R276): who issued it, and, once its groups are applied, the strata still to do with
their removed rows and arrivals. -/
structure Cairn where
  wave : Nat
  slot : SlotId
  stage : Nat
  applying : Bool
  /-- removed rows of each stratum -/
  removed : List (Nat × Nat)
  /-- arrivals in application order -/
  arrived : List Arrival
  nextStrat : Nat
  abort : Option (DWord × DWord)
  stopped : Option DWord
  /-- when it became ready (R15) -/
  ready : Option Nat
  /-- the strata that views held as its application began (R278, R295) -/
  held : List Nat
  deriving DecidableEq, Repr

/-- A world (R263 to R280). -/
structure World where
  id : BitVec 8
  part : BitVec 3
  asid : BitVec 16
  cbase : DWord
  csize : DWord
  esz : List Nat
  /-- bytes of the column region given out -/
  used : Nat
  cairn : DWord
  mark : Nat
  ents : List Ent
  free : List Word
  strata : List Stratum
  views : List View
  dropped : Nat
  /-- stage number (cairns issued), submissions in the current stage, order of arrivals at the hub die -/
  stage : Nat
  subs : Nat
  seq : Nat
  ops : Nat
  groups : List Group
  cairns : List Cairn
  deriving DecidableEq, Repr

/-! ## Lookout -/

/-- A frame set (R352). -/
structure FrameSet where
  seq : Word
  colour : DWord
  depth : DWord
  motion : DWord
  prev : DWord
  pose : DWord
  rw : Nat
  rh : Nat
  scale : Nat
  cfmt : Nat
  nout : Nat
  phase : List Nat
  deriving DecidableEq, Repr

/-- A route-card layer (R354) with its weights and biases. -/
structure Layer where
  kind : Nat
  cin : Nat
  cout : Nat
  relu : Bool
  weights : List Byte
  biases : List Byte
  deriving DecidableEq, Repr

/-- A route card (R354). -/
structure Card where
  insel : BitVec 8
  scale : Nat
  layers : List Layer
  deriving DecidableEq, Repr

/-- A head's configuration (R349, R385). -/
structure HeadCfg where
  part : BitVec 3
  share : Nat
  asid : BitVec 16
  hact : Nat
  vact : Nat
  vtotal : Nat
  lead : Nat
  nbuf : Nat
  lper : Nat
  fill : Word
  staddr : DWord
  hist : DWord
  lanes : Nat
  rate : Nat
  dsc : Nat
  dscbpp : Nat
  deriving DecidableEq, Repr

/-- A refresh that has latched and is not complete (R353): its number, the set, its output's phase, the card bound at the
latch, its next band to start, and whether it has posted the record of its first fault (R361). -/
structure Latch where
  n : Nat
  set : Option FrameSet
  phase : Nat
  card : Option Card
  bands : Nat
  posted : Bool
  deriving DecidableEq, Repr

/-- A band that has started and is not yet recorded (R356, R357): its refresh, its number, its tier, whether its rows are
complete, and its reprojection offset. -/
structure Band where
  n : Nat
  num : Nat
  tier : Nat
  done : Bool
  ox : Int
  oy : Int
  deriving DecidableEq, Repr

/-- A Lookout head (R349 to R366). -/
structure Head where
  num : Nat
  enabled : Bool
  cfg : HeadCfg
  disabling : Bool
  seq : Word
  cur : Option FrameSet
  made : Nat
  pend : List FrameSet
  card : Option Card
  cardNext : Option Card
  /-- raster lines passed since the head was enabled; refresh 1 starts after the first LEAD of them -/
  line : Nat
  /-- refreshes and bands in work, the oldest first: with a large LEAD they overlap -/
  latches : List Latch
  bands : List Band
  /-- pixels of the next inline line whose colour reads arrive late (R358) -/
  late : List Nat
  /-- output rows of finished bands awaiting their raster time: the value of `line` then, and the bytes -/
  rows : List (Nat × List Byte)
  outseq : DWord
  relseq : Word
  miss1 : Word
  miss2 : Word
  fillpx : Word
  repeats : Word
  superseded : Word
  fcode : BitVec 16
  faddr : DWord
  fcount : Word
  pseq : Word
  bandno : Word
  tiermap : List Nat
  /-- the head has written a frame since it was enabled -/
  wrote : Bool
  deriving DecidableEq, Repr

/-! ## Ports, partitions and the rest of the package -/

/-- A fault queue's registers (R406). -/
structure FaultQueue where
  addr : DWord
  size : Word
  lost : Word
  head : Word
  tail : Word
  deriving DecidableEq, Repr

/-- An aperture window (R416). -/
structure Aperture where
  vabase : DWord
  asid : BitVec 16
  en : Bool
  deriving DecidableEq, Repr

/-- A posted write on its way to a host (R239, R417): its address and bytes, what else is written with it as one (R159), and
the partition whose fault record it is (R406). -/
structure Posted where
  addr : DWord
  bytes : List Byte
  more : List (DWord × List Byte)
  fq : Option (BitVec 3)
  deriving DecidableEq, Repr

/-- What a port last answered to an inbound request (R382, R416). -/
inductive Answer where
  | none
  | data (bytes : List Byte)
  | unsupported
  | abort
  /-- a domain access refused with a fault code (R420) -/
  | refused (code : BitVec 16)
  deriving DecidableEq, Repr

/-- One PCI Express port (R304, R381, R408, R406, R416, R417). -/
structure Port where
  rladdr : DWord
  rlasid : BitVec 16
  rlpart : BitVec 3
  rlgo : Bool
  rlreason : BitVec 16
  rlstate : BitVec 2
  mbaddr : DWord
  mbgo : Bool
  /-- the request record as the Guide read it when GO was written (R383): header and body -/
  mbrec : List Byte
  mbresult : BitVec 16
  mbstate : BitVec 2
  rpkey : DWord
  rpstat : Word
  rpasid : BitVec 16
  rpgo : Bool
  rppart : BitVec 3
  fq : Vector FaultQueue 8
  win : Vector Aperture 16
  pwaddr : DWord
  pwerr : Word
  cto : BitVec 20
  linkUp : Bool
  /-- posted writes not yet sent -/
  posted : List Posted
  /-- MSI-X vectors signalled (R414) -/
  msix : BitVec 8
  answer : Answer
  deriving DecidableEq, Repr

/-- A memory range of a partition (R367). -/
structure MemRange where
  base : Nat
  size : Nat
  loc : BitVec 2
  dev : BitVec 4
  pool : Bool
  deriving DecidableEq, Repr

/-- A partition record (R367). -/
structure Part where
  cpmask : DWord
  heads : BitVec 16
  asidBase : Nat
  asidCnt : Nat
  ports : BitVec 2
  ways : Nat
  ranges : List MemRange
  nft : Vector Word 16
  /-- the 256 bytes of the record, for attestation (R390) -/
  raw : List Byte
  deriving DecidableEq, Repr

/-- A wait-table entry (R405): key, its ASID and partition, the die, the path parked under it, and whether it stands in
the overflow set. -/
structure WaitEntry where
  key : DWord
  asid : BitVec 16
  part : BitVec 3
  die : Nat
  wave : Nat
  slot : SlotId
  overflow : Bool
  deriving DecidableEq, Repr

/-- A fault record (R407) held by the Guide or waiting for room. -/
structure FRec where
  part : BitVec 3
  kind : Nat
  bytes : List Byte
  deriving DecidableEq, Repr

/-- Firmware slot (R423, R425): which of its stages verify (loader, Guide firmware, microcode), image digests, version. -/
structure FwSlot where
  loader : Bool
  guide : Bool
  ucode : Bool
  digests : Vector (BitVec 256) 3
  version : Word
  deriving DecidableEq, Repr

/-- What the device does by itself (log entry 4): each is an event of the opcode table. -/
inductive OwnMove where
  /-- the request of a port's mailbox (PART_SET to UNKNOWN_OP) -/
  | mail (port : PortId)
  /-- LEG_COMMIT -/
  | commit (wave : Nat) (slot : SlotId)
  /-- SIEVE_SERVE -/
  | sieve (core : Nat)
  /-- BASALT_COMMAND_START, BASALT_COMMAND_FINISH -/
  | tileStart (tok : DWord)
  | tileFinish (tok : DWord)
  /-- PORTER_CHUNK -/
  | chunk (tok : DWord)
  /-- CAIRN_APPLY -/
  | cairn (world : BitVec 8)
  /-- TLB_WALK -/
  | walk (idx : Nat)
  /-- WAVE_REBIND, WAVE_PREEMPT, WAVE_BIND -/
  | rebind (wave core : Nat) (quad : BitVec 2)
  | preempt (launch : Nat) (core : BitVec 10)
  | bind (core quad : Nat)
  /-- what a slot's next instruction lagged for has come (R309) -/
  | arrive (wave : Nat) (slot : SlotId)
  /-- the Guide takes a root launch that waits -/
  | root (port : PortId)
  /-- FAULT_QUEUE_FLUSH -/
  | flush (part : BitVec 3)
  /-- REFRESH_LATCH, BAND_START, BAND_DONE, LINE_SCANOUT -/
  | latch (head : Nat)
  | band (head : Nat)
  | bandDone (head : Nat)
  | line (head : Nat)
  deriving DecidableEq, Repr

/-- A move (log entry 4): an event of the table, a wave's issue, or what the world outside the device does. -/
inductive Move where
  /-- the device by itself -/
  | own (m : OwnMove)
  /-- an event of the opcode table -/
  | event (i : Instr)
  /-- the slot issues its next instruction -/
  | issue (wave : Nat) (slot : SlotId)
  /-- a slot's next instruction lags: its words, the beats before it or the results of its last one take time (R309) -/
  | lag (wave : Nat) (slot : SlotId)
  /-- an access of an ASID at an address misses in its home slice (R377) -/
  | miss (asid : BitVec 16) (addr : DWord)
  /-- the host behind a port writes its own memory -/
  | hostWrite (port : PortId) (addr : DWord) (bytes : List Byte)
  /-- an uncorrectable error arises in a line of memory -/
  | lineError (key : Nat)
  /-- an uncorrectable error arises in a register of a wave -/
  | regError (wave : Nat) (r : RegName)
  /-- lanes of a leg's host read are answered with Completer Abort (R240) -/
  | readAbort (wave : Nat) (slot : SlotId) (lanes : Mask)
  /-- an engine command's read at an address is answered with Completer Abort, or gets no answer (R176, R259) -/
  | engineFail (tok addr : DWord) (abort : Bool)
  /-- the next chunk of a Porter command has read its source; its bytes are written one by one (R161, R258) -/
  | copying (tok : DWord)
  /-- a port's posted write is sent -/
  | postSent (port : PortId)
  /-- the host behind a port reads a register of BAR0, 8 bytes (R415) -/
  | regRead (port : PortId) (off : BitVec 16)
  /-- the Guide sets an island's clock step and voltage (R17, R421) -/
  | clock (island step volt : Nat)
  /-- the Guide's sensors report the package's power and its hottest junction (R421) -/
  | sense (pnow : Word) (tmax : BitVec 16)
  /-- colour reads of a head's next inline line arrive late at some pixels (R358) -/
  | lateReads (head : Nat) (pixels : List Nat)
  /-- a port's link comes up -/
  | linkUp (port : PortId)
  /-- the start goes on; the environment says whether memory training succeeds and whether an uncorrectable error is met -/
  | boot (training : Bool) (clean : Bool)
  deriving DecidableEq, Repr

/-- Life-cycle states (R388). -/
inductive LifeCycle where
  | manufacturing | provisioned | deployed | returned | scrapped
  deriving DecidableEq, Repr

/-- An entry of an export table (R420): a range of physical addresses. -/
structure Export where
  base : Nat
  len : Nat
  deriving DecidableEq, Repr

/-- Does a table list `n` bytes from an address? -/
def exported (t : List Export) (a n : Nat) : Bool := t.any fun e => decide (e.base ≤ a) && decide (a + n ≤ e.base + e.len)

/-- THE STATE of the package. -/
structure State where
  /-- the one memory (log entry 2): sorted, no entry equal to zero -/
  mem : List Host.Cell
  /-- poisoned lines, and lines with an uncorrectable error nobody has found yet (R411) -/
  poison : List Nat
  errs : List Nat
  /-- changed words that a fetch may still return as they were (R67), oldest first -/
  olds : List OldWord
  leaves : List Leaf
  /-- pages whose migration is under way, and the port that asked for it (R412) -/
  busy : List (BitVec 16 × DWord × Nat)
  busyBy : Option PortId
  /-- page tables that the Guide's reserve can hold (R374) -/
  reserve : Nat
  tlb : List TlbEntry
  walks : List Walk
  shootSeq : Nat
  shoots : List Shoot
  parts : Vector (Option Part) 8
  waves : List Wave
  cores : List Core
  launches : List Launch
  nextId : Nat
  units : List SavedUnit
  basalt : List BasaltCmd
  porter : List PorterCmd
  /-- token counts of the eight dies (R394) -/
  tokens : Vector Nat 8
  waits : List WaitEntry
  /-- records the Guide holds, records of kinds 1 and 2 that wait for room, record numbers (R406, R407) -/
  heldRecs : List FRec
  waitRecs : List FRec
  recNum : Vector Word 8
  worlds : List World
  /-- cairns that have become ready (R15) -/
  readySeq : Nat
  /-- the partition whose work the Guide took last (R17) -/
  guideLast : BitVec 3
  heads : List Head
  port0 : Port
  port1 : Port
  /-- semaphore OWNER (R381) -/
  owner : BitVec 2
  /-- clock steps of the 512 islands, 25 MHz over 400 MHz each: those that are not at step 24, 1.0 GHz (R421); and the
  voltages that the Guide has set (R17) -/
  islands : List (Nat × Nat)
  volts : List (Nat × Nat)
  throt : Vector (BitVec 16) 8
  plimit : Word
  pnow : Word
  tmax : BitVec 16
  stopped : Bool
  /-- boot status (R424) -/
  mode : BitVec 2
  /-- a start is under way (R423) -/
  booting : Bool
  fwSlot : Bool
  fails : BitVec 8
  bootReason : BitVec 8
  fwA : FwSlot
  fwB : FwSlot
  fwMin : Word
  /-- the version of the Guide firmware that runs (R388, R425) -/
  fwver : Word
  mr : Vector (BitVec 256) 8
  lcs : LifeCycle
  ownerKey : Option (List Byte)
  lcNonce : BitVec 256
  hasIdentity : Bool
  cxlUp : BitVec 4
  jexUp : BitVec 12
  /-- links that reach each peer, this device's export table, and each peer's own (the domain maps, R420); domain answers -/
  routes : Vector (BitVec 12) 16
  exports : List Export
  imports : Vector (List Export) 16
  domAnswer : Answer
  /-- the model's own fields: the slot whose instruction exec runs, the moves to come, the free-value counter, whose turn
  it is -/
  cur : Option (Nat × SlotId)
  agenda : List Move
  /-- inbound requests of ports that wait while a page is busy, oldest first (R233, R412) -/
  delayed : List Move
  tick : Nat
  turn : Nat
  deriving DecidableEq, Repr

/-! ## Outcomes -/

/-- Why the machine stops. -/
inductive Fault where
  /-- exec of a wave instruction with no PC slot to run it: `cur` names no slot that holds a path able to issue. Raised
  by the shared issue operation; safe, since the device issues an instruction only from an occupied slot (R23). -/
  | noSlot
  deriving DecidableEq, Repr

/-- Why an instruction has no meaning. -/
inductive Refusal where
  /-- Raised by an arm of exec that has no meaning yet; safe. -/
  | notModelled (mnemonic : String)
  deriving DecidableEq, Repr

/-! ## Reset -/

def FaultQueue.reset : FaultQueue := ⟨0, 0, 0, 0, 0⟩
def Aperture.reset : Aperture := ⟨0, 0, false⟩

/-- A port's registers at reset (R304, R381, R406, R408, R416, R417). -/
def Port.reset : Port :=
  { rladdr := 0, rlasid := 0, rlpart := 0, rlgo := false, rlreason := 0, rlstate := 0,
    mbaddr := 0, mbgo := false, mbrec := [], mbresult := 0, mbstate := 0,
    rpkey := 0, rpstat := 0, rpasid := 0, rpgo := false, rppart := 0,
    fq := Vector.replicate 8 FaultQueue.reset, win := Vector.replicate 16 Aperture.reset,
    pwaddr := 0, pwerr := 0, cto := 50000, linkUp := true, posted := [], msix := 0, answer := .none }

/-- A core at reset (R194, R32, R344). Log entry 9: the Sieve's rotation starts after quadrant 3. -/
def Core.reset (n : Nat) : Core :=
  { num := n, roles := 0xAAAA_5555_5555_0000, cyc := 0, bars := [], allocs := [], sieveLast := 3, sieveBusy := false,
    sieveGrant := none, sieveQ := [], tilePoison := 0 }

/-- A released barrier (R344). -/
def Barrier.released : Barrier := ⟨none, false, 0, 0, 0⟩

/-- An inactive handler frame. -/
def HFrame.none : HFrame := ⟨0, 0, 0, false, false, 0, 0, 0, false, 0, 0, 0, 0, .none⟩

/-- An empty slot (R23). -/
def Slot.empty : Slot :=
  { path := .none, leg := .none, frame := .none, legs := 0, age := 0, held := false, dead := false, swaddr := 0,
    qaddr := 0, qtag := 0, waitBar := [], pend := 0, hmask := 0, haddr := 0, sup := 0, wait := .none, lag := false, took := .none }

/-- A firmware slot whose three stages verify. -/
def FwSlot.good : FwSlot := ⟨true, true, true, Vector.replicate 3 0, 0⟩

/-- The machine right after reset: memory lists nothing, every register stands at its reset value (INVENTORY.md, State).
The values the spec does not state are those of log entry 9. -/
def State.reset : State :=
  { mem := [], poison := [], errs := [], olds := [], leaves := [], busy := [], busyBy := none, reserve := 65536, tlb := [], walks := [],
    shootSeq := 0, shoots := [], parts := Vector.replicate 8 none, waves := [], cores := [], launches := [],
    nextId := 0, units := [], basalt := [], porter := [], tokens := Vector.replicate 8 0, waits := [], heldRecs := [],
    waitRecs := [], recNum := Vector.replicate 8 0, worlds := [], readySeq := 0, guideLast := 7, heads := [],
    port0 := Port.reset, port1 := Port.reset, owner := 0, islands := [], volts := [], throt := Vector.replicate 8 0,
    plimit := 2400000, pnow := 0, tmax := 0, stopped := false, mode := 0, booting := true, fwSlot := false, fails := 0,
    bootReason := 0, fwA := FwSlot.good, fwB := FwSlot.good, fwMin := 0, fwver := 0, mr := Vector.replicate 8 0,
    lcs := .deployed, ownerKey := none, lcNonce := 0, hasIdentity := true, cxlUp := 0xF, jexUp := 0xFFF,
    routes := Vector.replicate 16 0, exports := [], imports := Vector.replicate 16 [], domAnswer := .none, cur := none, agenda := [], delayed := [], tick := 0,
    turn := 0 }

end Sys2Proof.Machine
end

