-- ==== Sys2Proof/Machine/Float.lean ====
section
/-! DEFINITION. Number formats to the bit (spec/05_formats.md R84 to R95) and exact arithmetic over them (R122, R137,
R138, R140): values are exact dyadic numbers, infinities and NaN; every result is rounded once. -/

namespace Sys2Proof.Machine

/-- Special encodings of a floating-point format (R85, R92). -/
inductive FSpec where
  /-- none: the all-ones exponent holds finite values -/
  | finite
  /-- exponent and mantissa all ones is NaN -/
  | oneNan
  /-- the all-ones exponent holds infinities and NaNs -/
  | ieee
  deriving DecidableEq, Repr

/-- A floating-point format (R84): sign bit, exponent and mantissa widths, bias, special encodings. -/
structure Fmt where
  sgn : Bool
  ew : Nat
  mw : Nat
  bias : Int
  spec : FSpec
  deriving DecidableEq, Repr

def fp32 : Fmt := ⟨true, 8, 23, 127, .ieee⟩
def bf16 : Fmt := ⟨true, 8, 7, 127, .ieee⟩
def fp16 : Fmt := ⟨true, 5, 10, 15, .ieee⟩
def e4m3 : Fmt := ⟨true, 4, 3, 7, .oneNan⟩
def e5m2 : Fmt := ⟨true, 5, 2, 15, .ieee⟩
def e2m1 : Fmt := ⟨true, 2, 1, 1, .finite⟩

def Fmt.width (f : Fmt) : Nat := (if f.sgn then 1 else 0) + f.ew + f.mw
def Fmt.hasInf (f : Fmt) : Bool := f.spec == .ieee
/-- An IEEE-mode format without mantissa bits has no NaN (R92). -/
def Fmt.hasNan (f : Fmt) : Bool := f.spec == .oneNan || (f.spec == .ieee && f.mw != 0)

/-- The canonical NaN (R85, R92). -/
def Fmt.nan (f : Fmt) : Nat :=
  match f.spec with
  | .oneNan => 2 ^ (f.ew + f.mw) - 1
  | .ieee => (2 ^ f.ew - 1) * 2 ^ f.mw + 2 ^ f.mw / 2
  | .finite => 0

/-- The sign bit in place. -/
def Fmt.signBit (f : Fmt) (neg : Bool) : Nat := if neg && f.sgn then 2 ^ (f.ew + f.mw) else 0

def Fmt.inf (f : Fmt) (neg : Bool) : Nat := f.signBit neg + (2 ^ f.ew - 1) * 2 ^ f.mw

/-- The largest finite magnitude (R85): the encoding below the special ones. -/
def Fmt.maxMag (f : Fmt) : Nat :=
  match f.spec with
  | .finite => 2 ^ (f.ew + f.mw) - 1
  | .oneNan => 2 ^ (f.ew + f.mw) - 2
  | .ieee => (2 ^ f.ew - 1) * 2 ^ f.mw - 1

def Fmt.max (f : Fmt) (neg : Bool) : Nat := f.signBit neg + f.maxMag

/-- A value: (-1)^neg * m * 2^e, an infinity, or NaN. -/
inductive Val where
  | fin (neg : Bool) (m : Nat) (e : Int)
  | inf (neg : Bool)
  | nan
  deriving DecidableEq, Repr

/-- R84, R85, R92: the value of an encoding. -/
def Fmt.decode (f : Fmt) (b : Nat) : Val :=
  let mag := b % 2 ^ (f.ew + f.mw)
  let neg := f.sgn && b / 2 ^ (f.ew + f.mw) % 2 == 1
  let e := mag / 2 ^ f.mw
  let m := mag % 2 ^ f.mw
  if f.spec == .oneNan && mag == 2 ^ (f.ew + f.mw) - 1 then .nan
  else if f.spec == .ieee && e == 2 ^ f.ew - 1 then (if m = 0 then .inf neg else .nan)
  else if e = 0 then .fin neg m (1 - f.bias - f.mw)
  else .fin neg (2 ^ f.mw + m) ((e : Int) - f.bias - f.mw)

/-! ## Rounding (R88) -/

/-- R88: does a magnitude between `n` and `n + 1` quanta round up? `cmp` compares the rest with one half; `rest` says
whether there is a rest. -/
def roundsUp (rm : Rm) (neg : Bool) (mw n : Nat) (cmp : Ordering) (rest : Bool) : Bool :=
  match rm with
  | .rne => match cmp with
    | .gt => true
    | .lt => false
    | .eq => if mw = 0 then Config.tieUp n else n % 2 == 1
  | .rz => false
  | .rdn => neg && rest
  | .rup => !neg && rest

/-- Round m * 2^e to a multiple of 2^q. -/
def roundQuantum (rm : Rm) (neg : Bool) (mw m : Nat) (e q : Int) : Nat :=
  if q ≤ e then m * 2 ^ (e - q).toNat
  else
    let sh := (q - e).toNat
    let n := m / 2 ^ sh
    let r := m % 2 ^ sh
    if roundsUp rm neg mw n (compare (2 * r) (2 ^ sh)) (r != 0) then n + 1 else n

/-- A rounded magnitude: the encoding of its exponent and mantissa, unbounded above (R88): a number of at most `max`
does not overflow. -/
def Fmt.roundMag (f : Fmt) (rm : Rm) (neg : Bool) (m : Nat) (e : Int) : Nat :=
  let top : Int := (Nat.log2 m : Int) + e
  let q : Int := Max.max (top - f.mw) (1 - f.bias - f.mw)
  let n := roundQuantum rm neg f.mw m e q
  -- n quanta of 2^q; an n of 2^(mw+1) carries into the exponent as the encodings do
  ((q - (1 - f.bias - f.mw)).toNat) * 2 ^ f.mw + n

/-- Event classes (R91). -/
inductive Ev where
  | none | sat | flush | nan
  deriving DecidableEq, Repr

/-- R89: what an overflow gives, by whether the mode would give an infinity. -/
def Fmt.overflow (f : Fmt) (sat toInf neg : Bool) : Nat :=
  if sat || !toInf then f.max neg
  else if f.hasInf then f.inf neg
  else if f.hasNan then f.nan
  else f.max neg

/-- Would the mode give an infinity on overflow (IEEE rule)? -/
def overflowsToInf (rm : Rm) (neg : Bool) : Bool :=
  match rm with
  | .rne => true
  | .rz => false
  | .rdn => neg
  | .rup => !neg

/-- R88, R89, R91, R92: a value converted to a format, with its event class. An infinite source takes the rows of R89
in which the mode would give an infinity, under every mode; and the source of a scaled element is the product, so a zero
product of a non-zero element counts no flush (log entry 71). -/
def Fmt.convert (f : Fmt) (rm : Rm) (sat : Bool) (v : Val) : Nat × Ev :=
  match v with
  | .nan => (if f.hasNan then f.nan else 0, .nan)
  | .inf neg =>
    if neg && !f.sgn then (0, .sat)
    else if f.hasInf && !sat then (f.inf neg, .none)
    else (f.overflow sat true neg, .sat)
  | .fin neg m e =>
    if m = 0 then (f.signBit neg, .none)
    else if neg && !f.sgn then (0, .sat)
    else
      let mag := f.roundMag rm neg m e
      if f.maxMag < mag then (f.overflow sat (overflowsToInf rm neg) neg, .sat)
      else (f.signBit neg + mag, if mag = 0 then .flush else .none)

/-- The encoding alone. -/
def Fmt.round (f : Fmt) (rm : Rm) (sat : Bool) (v : Val) : Nat := (f.convert rm sat v).1

/-! ## Exact arithmetic (R122) -/

/-- A signed dyadic as a value. -/
def ofInt (i : Int) (e : Int) : Val := .fin (decide (i < 0)) i.natAbs e

def Val.neg : Val → Val
  | .fin s m e => .fin (!s) m e
  | .inf s => .inf (!s)
  | .nan => .nan

/-- The signed multiple of 2^e that a finite value is. -/
def signedAt (s : Bool) (m : Nat) (e0 e : Int) : Int :=
  let x : Int := m * 2 ^ (e0 - e).toNat
  if s then -x else x

/-- R122: an exact sum; a zero of opposite signs is +0, under `.rdn` -0. -/
def Val.add (rm : Rm) (a b : Val) : Val :=
  match a, b with
  | .nan, _ => .nan
  | _, .nan => .nan
  | .inf s, .inf t => if s == t then .inf s else .nan
  | .inf s, .fin .. => .inf s
  | .fin .., .inf t => .inf t
  | .fin s m e, .fin t n f =>
    let lo := min e f
    let x := signedAt s m e lo + signedAt t n f lo
    if x = 0 then .fin (if m = 0 && n = 0 && s == t then s else rm == .rdn) 0 0
    else ofInt x lo

/-- R122: an exact product. -/
def Val.mul (a b : Val) : Val :=
  match a, b with
  | .nan, _ => .nan
  | _, .nan => .nan
  | .inf s, .inf t => .inf (s != t)
  | .inf s, .fin t n _ => if n = 0 then .nan else .inf (s != t)
  | .fin s m _, .inf t => if m = 0 then .nan else .inf (s != t)
  | .fin s m e, .fin t n f => .fin (s != t) (m * n) (e + f)

/-- The order of two values that are not NaN; zeros are equal. -/
def Val.compare (a b : Val) : Ordering :=
  match a, b with
  | .inf s, .inf t => if s == t then .eq else if s then .lt else .gt
  | .inf s, _ => if s then .lt else .gt
  | _, .inf t => if t then .gt else .lt
  | .fin s m e, .fin t n f =>
    let lo := min e f
    Ord.compare (signedAt s m e lo) (signedAt t n f lo)
  | _, _ => .eq

def Val.isNan : Val → Bool
  | .nan => true
  | _ => false

/-- R138: VMIN and VMAX over encodings: NaN yields to a number, two NaNs give the canonical one, -0 lies below +0. -/
def Fmt.pick (f : Fmt) (least : Bool) (a b : Nat) : Nat :=
  let x := f.decode a
  let y := f.decode b
  if x.isNan then (if y.isNan then f.nan else b)
  else if y.isNan then a
  else match x.compare y with
    | .lt => if least then a else b
    | .gt => if least then b else a
    | .eq => -- equal values, or zeros of either sign
      let aNeg := decide (2 ^ (f.ew + f.mw) ≤ a)
      if aNeg == least then a else b

/-- R90: a value rounded to an integer and saturated to a range. -/
def toInt (rm : Rm) (lo hi : Int) (v : Val) : Int × Ev :=
  match v with
  | .nan => (0, .nan)
  | .inf s => (if s then lo else hi, .sat)
  | .fin s m e =>
    let n : Int := roundQuantum rm s 1 m e 0
    let x := if s then -n else n
    if x < lo then (lo, .sat) else if hi < x then (hi, .sat) else (x, .none)

/-! ## FP32 operations -/

def f32 (w : Word) : Val := fp32.decode w.toNat

/-- Round to FP32. -/
def toF32 (rm : Rm) (sat : Bool) (v : Val) : Word := BitVec.ofNat 32 (fp32.round rm sat v)

def Fmt.addBits (f : Fmt) (rm : Rm) (sat : Bool) (a b : Nat) : Nat := f.round rm sat (Val.add rm (f.decode a) (f.decode b))
def Fmt.subBits (f : Fmt) (rm : Rm) (sat : Bool) (a b : Nat) : Nat :=
  f.round rm sat (Val.add rm (f.decode a) (f.decode b).neg)
def Fmt.mulBits (f : Fmt) (rm : Rm) (sat : Bool) (a b : Nat) : Nat := f.round rm sat (Val.mul (f.decode a) (f.decode b))
def Fmt.fmaBits (f : Fmt) (rm : Rm) (sat : Bool) (a b c : Nat) : Nat :=
  f.round rm sat (Val.add rm (Val.mul (f.decode a) (f.decode b)) (f.decode c))

/-! ## Special functions (R140), correctly rounded -/

/-- Integer square root: bit by bit from bit `k - 1` of the root. -/
def isqrtFrom (n : Nat) : Nat → Nat → Nat
  | 0, r => r
  | k + 1, r => if (r + 2 ^ k) * (r + 2 ^ k) ≤ n then isqrtFrom n k (r + 2 ^ k) else isqrtFrom n k r

def isqrt (n : Nat) : Nat := isqrtFrom n (Nat.log2 n / 2 + 1) 0

/-- A quotient or root with a sticky bit below its last: enough bits that one rounding to FP32 is exact. -/
def sticky (q : Nat) (exact : Bool) : Nat := 2 * q + (if exact then 0 else 1)

/-- 1 / a. -/
def rcpF32 (sat : Bool) (a : Word) : Word :=
  match f32 a with
  | .nan => toF32 .rne sat .nan
  | .inf s => toF32 .rne sat (.fin s 0 0)
  | .fin s m e =>
    if m = 0 then toF32 .rne sat (.inf s)
    else toF32 .rne sat (.fin s (sticky (2 ^ 200 / m) (2 ^ 200 % m == 0)) (-201 - e))

/-- √a: the root of m * 2^e with an even exponent and at least 100 bits. -/
def sqrtF32 (sat : Bool) (a : Word) : Word :=
  match f32 a with
  | .nan => toF32 .rne sat .nan
  | .inf s => if s then toF32 .rne sat .nan else toF32 .rne sat (.inf false)
  | .fin s m e =>
    if m = 0 then toF32 .rne sat (.fin s 0 0)
    else if s then toF32 .rne sat .nan
    else
      let odd := e.emod 2
      let n := m * 2 ^ (odd.toNat + 200)
      let r := isqrt n
      toF32 .rne sat (.fin false (sticky r (r * r == n)) ((e - odd) / 2 - 101))

/-- 1 / √a: the root of 2^400 / (m * 2^odd). -/
def rsqF32 (sat : Bool) (a : Word) : Word :=
  match f32 a with
  | .nan => toF32 .rne sat .nan
  | .inf s => if s then toF32 .rne sat .nan else toF32 .rne sat (.fin false 0 0)
  | .fin s m e =>
    if m = 0 then toF32 .rne sat (.inf s)
    else if s then toF32 .rne sat .nan
    else
      let odd := e.emod 2
      let d := m * 2 ^ odd.toNat
      let n := 2 ^ 400 / d
      let r := isqrt n
      toF32 .rne sat (.fin false (sticky r (r * r == n && 2 ^ 400 % d == 0)) (-201 - (e - odd) / 2))

/-- Sum of an alternating or plain series of floors: terms t_k = t / (d_k) with t shrinking by `num / den` each time. -/
def atanSeries (alt : Bool) (x2den : Nat) : Nat → Nat → Nat → Bool → Int
  | 0, _, _, _ => 0
  | n + 1, t, k, minus =>
    let term : Int := (t / (2 * k + 1) : Nat)
    (if minus && alt then -term else term) + atanSeries alt x2den n (t / x2den) (k + 1) (!minus)

/-- π * 2^p by Machin's formula, within `p` units. -/
def piFixed (p : Nat) : Int :=
  16 * atanSeries true 25 (p / 4 + 4) (2 ^ p / 5) 0 false - 4 * atanSeries true 57121 (p / 15 + 4) (2 ^ p / 239) 0 false

/-- ln 2 * 2^p = 2 atanh(1/3), within `p` units. -/
def ln2Fixed (p : Nat) : Int := 2 * atanSeries false 9 (p / 3 + 4) (2 ^ p / 3) 0 false

/-- Taylor sums over fixed point `p`: t_(k+1) = t_k * x2 / 2^p / (a * b), a and b growing by two (sine and cosine). -/
def trigSeries (p x2 : Nat) : Nat → Nat → Nat → Bool → Int
  | 0, _, _, _ => 0
  | n + 1, t, k, minus =>
    (if minus then -(t : Int) else t) + trigSeries p x2 n (t * x2 / 2 ^ p / ((k + 1) * (k + 2))) (k + 2) (!minus)

/-- exp(x) over fixed point `p`. -/
def expSeries (p x : Nat) : Nat → Nat → Nat → Nat
  | 0, _, _ => 0
  | n + 1, t, k => t + expSeries p x n (t * x / 2 ^ p / (k + 1)) (k + 1)

/-- atanh(z) over fixed point `p`. -/
def atanhSeries (p z2 : Nat) : Nat → Nat → Nat → Nat
  | 0, _, _ => 0
  | n + 1, t, k => t / (2 * k + 1) + atanhSeries p z2 n (t * z2 / 2 ^ p) (k + 1)

/-- Round a value known to lie within `err` units of `c`, in units of 2^-p; none when the two ends round apart. -/
def roundInterval (sat : Bool) (c : Int) (err p : Nat) : Option Word :=
  let lo := toF32 .rne sat (ofInt (c - err) (-(p : Int)))
  let hi := toF32 .rne sat (ofInt (c + err) (-(p : Int)))
  if lo == hi then some lo else none

/-- Try growing precisions; a value that no listed precision separates is not met (the results of R140 that are not
exact lie far enough from every tie), and the last centre is taken. -/
def refine (sat : Bool) (approx : Nat → Int × Nat) : List Nat → Word
  | [] => toF32 .rne sat (ofInt (approx 2048).1 (-2048))
  | p :: ps => match roundInterval sat (approx p).1 (approx p).2 p with
    | some w => w
    | none => refine sat approx ps

def precisions : List Nat := [320, 512, 1024, 2048]

/-- m * 2^e in units of 2^-p, rounded down. -/
def fixedOf (m : Nat) (e : Int) (p : Nat) : Nat :=
  if 0 ≤ e + p then m * 2 ^ (e + p).toNat else m / 2 ^ (-(e + p)).toNat

/-- sin(2π r) for r = num / 2^k turns, 0 ≤ r: exact at quarter turns, else the series in the first quadrant. -/
def sinTurns (sat neg : Bool) (num k : Nat) : Word :=
  let num := num % 2 ^ k
  let quad := 4 * num / 2 ^ k
  let rest := 4 * num % 2 ^ k
  let flip := (quad == 2 || quad == 3) != neg
  if rest = 0 then
    (if quad == 0 || quad == 2 then 0 else toF32 .rne sat (.fin flip 1 0))
  else
    let s := fun p =>
      -- x = (π / 2) * rest / 2^k
      let x := ((piFixed p).toNat * rest / 2 ^ k) / 2
      let x2 := x * x / 2 ^ p
      let n := p / 4 + 8
      let v := if quad == 0 || quad == 2 then trigSeries p x2 n x 1 false else trigSeries p x2 n (2 ^ p) 0 false
      ((if flip then -v else v), 8 * (p + 16) * (p + 16))
    refine sat s precisions

/-- A magnitude m * 2^e as num / 2^k turns modulo one turn. -/
def turns (m : Nat) (e : Int) : Nat × Nat :=
  if 0 ≤ e then (0, 2) else (m % 2 ^ e.natAbs, e.natAbs)

/-- VSIN (R140). -/
def sinF32 (sat : Bool) (a : Word) : Word :=
  match f32 a with
  | .nan | .inf _ => toF32 .rne sat .nan
  | .fin s m e =>
    if m = 0 then a else
      let t := turns m e
      sinTurns sat s t.1 t.2

/-- VCOS (R140): a quarter turn ahead. -/
def cosF32 (sat : Bool) (a : Word) : Word :=
  match f32 a with
  | .nan | .inf _ => toF32 .rne sat .nan
  | .fin _ m e =>
    let t := turns m e
    let k := Nat.max t.2 2
    sinTurns sat false (t.1 * 2 ^ (k - t.2) + 2 ^ k / 4) k

/-- VEXP2 (R140): 2^a with a = n + f, 0 ≤ f < 1. -/
def exp2F32 (sat : Bool) (a : Word) : Word :=
  match f32 a with
  | .nan => toF32 .rne sat .nan
  | .inf s => if s then 0 else toF32 .rne sat (.inf false)
  | .fin s m e =>
    let fr := if 0 ≤ e then 0 else m % 2 ^ (-e).toNat
    let whole := if 0 ≤ e then m * 2 ^ e.toNat else m / 2 ^ (-e).toNat
    if 1000 ≤ whole then (if s then toF32 .rne sat (.fin false 1 (-1000)) else toF32 .rne sat (.fin false 1 1000))
    else if fr = 0 then toF32 .rne sat (.fin false 1 (if s then -(whole : Int) else whole))
    else
      let n : Int := if s then -(whole : Int) - 1 else whole
      let k := (-e).toNat
      let f := if s then 2 ^ k - fr else fr
      let g := fun p =>
        let x := (ln2Fixed p).toNat * f / 2 ^ k
        let v : Int := expSeries p x (p / 4 + 8) (2 ^ p) 0
        -- scaled by 2^n: the centre keeps p fraction bits after the shift
        (v, 8 * (p + 16) * (p + 16))
      let go := fun p => match (g p) with
        | (c, err) =>
          let lo := toF32 .rne sat (ofInt (c - err) (n - p))
          let hi := toF32 .rne sat (ofInt (c + err) (n - p))
          if lo == hi then some lo else none
      match precisions.findSome? go with
      | some w => w
      | none => toF32 .rne sat (ofInt (g 2048).1 (n - 2048))

/-- VLOG2 (R140): log2(a) = n + ln(x) / ln 2 with 1 ≤ x < 2. -/
def log2F32 (sat : Bool) (a : Word) : Word :=
  match f32 a with
  | .nan => toF32 .rne sat .nan
  | .inf s => if s then toF32 .rne sat .nan else toF32 .rne sat (.inf false)
  | .fin s m e =>
    if m = 0 then toF32 .rne sat (.inf true)
    else if s then toF32 .rne sat .nan
    else
      let t := Nat.log2 m
      let n : Int := e + t
      if m = 2 ^ t then toF32 .rne sat (ofInt n 0)
      else
        let g := fun p =>
          -- z = (x - 1) / (x + 1) with x = m / 2^t
          let z := (m - 2 ^ t) * 2 ^ p / (m + 2 ^ t)
          let l := 2 * atanhSeries p (z * z / 2 ^ p) (p / 3 + 8) z 0
          (n * 2 ^ p + (l * 2 ^ p / (ln2Fixed p).toNat : Nat), 16 * (p + 16))
        refine sat g precisions

end Sys2Proof.Machine
end

