-- ==== Sys2Proof/Machine/Memory.lean ====
section
/-! DEFINITION. The one memory of the package (log entry 2): a list of address and byte pairs in one canonical form.
Every unlisted address reads as zero. Keys join a location's tag and an address (R200, R202). -/

namespace Sys2Proof.Machine

/-- The canonical form: addresses strictly rising, no entry equal to zero. -/
def Memory.wf : List Host.Cell → Bool
  | [] => true
  | [(_, b)] => b != 0
  | (a, b) :: (a', b') :: r => decide (a < a') && b != 0 && Memory.wf ((a', b') :: r)

/-- The byte at a key; what no entry lists reads as zero (log entry 2). -/
def Memory.get : List Host.Cell → Nat → Byte
  | [], _ => 0
  | (a, b) :: r, k => if a = k then b else if k < a then 0 else Memory.get r k

/-- Put a byte at a key, keeping the canonical form. -/
def Memory.set : List Host.Cell → Nat → Byte → List Host.Cell
  | [], k, v => if v = 0 then [] else [(k, v)]
  | (a, b) :: r, k, v =>
    if k < a then (if v = 0 then (a, b) :: r else (k, v) :: (a, b) :: r)
    else if k = a then (if v = 0 then r else (a, v) :: r)
    else (a, b) :: Memory.set r k v

/-- `n` bytes from a key upward. -/
def Memory.read (m : List Host.Cell) (k : Nat) : Nat → List Byte
  | 0 => []
  | n + 1 => Memory.get m k :: Memory.read m (k + 1) n

/-- Write bytes from a key upward. -/
def Memory.write (m : List Host.Cell) (k : Nat) : List Byte → List Host.Cell
  | [] => m
  | b :: r => Memory.write (Memory.set m k b) (k + 1) r

/-- Set `n` bytes from a key to zero (R386). -/
def Memory.wipe (m : List Host.Cell) (k n : Nat) : List Host.Cell :=
  m.filter fun c => decide (c.1 < k) || decide (k + n ≤ c.1)

/-! ## Byte order (R3: little-endian) -/

/-- The value of bytes, low address first. -/
def leNat : List Byte → Nat
  | [] => 0
  | b :: r => b.toNat + 256 * leNat r

/-- The low `n` bytes of a value, low address first. -/
def leBytes : Nat → Nat → List Byte
  | _, 0 => []
  | v, n + 1 => BitVec.ofNat 8 v :: leBytes (v / 256) n

/-- Bytes `[lo, lo + n)` of a record as a number. -/
def recNat (b : List Byte) (lo n : Nat) : Nat := leNat ((b.drop lo).take n)

/-- Are the bytes `[lo, lo + n)` of a record zero (R9)? -/
def recZero (b : List Byte) (lo n : Nat) : Bool := ((b.drop lo).take n).all (· == 0)

/-! ## Locations -/

/-- Keys of a location start at its tag times 2^64: 0 local LPDDR-6; 1 to 4 CXL ports; 5 to 20 domain devices; 21 and
22 the hosts behind the ports; 23 the local stores (R200, R202). -/
def locTag (loc : BitVec 2) (dev : BitVec 4) : Nat :=
  match loc.toNat with
  | 0 => 0
  | 1 => 1 + dev.toNat % 4
  | 2 => 5 + dev.toNat
  | _ => 21 + dev.toNat % 2

/-- Key of a physical address within a location. -/
def physKey (loc : BitVec 2) (dev : BitVec 4) (pa : Nat) : Nat := locTag loc dev * 2 ^ 64 + pa

/-- Key of a byte of the host behind a port. -/
def hostKey (p : PortId) (addr : DWord) : Nat :=
  (match p with | .p0 => 21 | .p1 => 22) * 2 ^ 64 + addr.toNat

/-- Key of byte `off` of bank `b` of a core's local store (R195: 48 KiB a bank). -/
def storeKey (core b off : Nat) : Nat := 23 * 2 ^ 64 + core * 1572864 + b * 49152 + off

/-- The line of a key: 128 bytes (R198). -/
def lineOf (key : Nat) : Nat := key / 128

/-- The lines that `n` bytes from a key touch. -/
def linesOf (key n : Nat) : List Nat :=
  if n = 0 then [] else (List.range ((key + n - 1) / 128 - key / 128 + 1)).map (· + key / 128)

end Sys2Proof.Machine
end

