-- ==== Sys2Proof/Machine/Runs.lean ====
section
/-! DEFINITION. Lane registers in run form (spec/06_runs.md R105 to R112, R438). -/

namespace Sys2Proof.Machine

/-- Put an element before the first of a sorted list that it does not come after. -/
def insertBy {α : Type} (le : α → α → Bool) (x : α) : List α → List α
  | [] => [x]
  | y :: ys => if le x y then x :: y :: ys else y :: insertBy le x ys

/-- A list in order; elements that are equal in it keep their order. -/
def sortBy {α : Type} (le : α → α → Bool) (xs : List α) : List α := xs.foldr (insertBy le) []

/-- The per-lane view `expand()` of R7. -/
def LReg.expand (r : LReg) : List Word := r.flatMap fun x => List.replicate x.cnt x.val

/-- A lane register with one run over `n` lanes. -/
def LReg.flat (n : Nat) (v : Word) : LReg := [⟨v, n⟩]

/-- Lane `l` of a per-lane view; lanes past the end read zero and are never used (R24). -/
def lane (vs : List Word) (l : Nat) : Word := vs.getD l 0

/-- The positions at which a run starts, lane 0 left out (R105). -/
def LReg.bounds (r : LReg) : Mask := go r 0
where
  go : LReg → Nat → Mask
  | [], _ => 0
  | x :: rest, pos => (if pos = 0 then 0 else Mask.lane pos) ||| go rest (pos + x.cnt)

/-- The positions at which a mask changes between set and clear (R105). -/
def maskBounds (m : Mask) : Mask := (m ^^^ (m <<< 1)) &&& ~~~(1 : Mask)

/-- Every position: one segment per lane (R109). -/
def perLane : Mask := ~~~(0 : Mask)

/-- R106: walk the lanes from position `pos` with the segment number and the run so far. A boundary starts a segment;
equal neighbours join inside a beat of 32 segments and never across beats. A lane whose value differs from its
neighbour's starts a segment too, which R105 makes the same thing. -/
def runsFrom (b : Mask) : Nat → Nat → Run → List Word → LReg
  | _, _, r, [] => [r]
  | pos, seg, r, v :: vs =>
    if b.getLsbD pos || v != r.val then
      if v == r.val && (seg + 1) % 32 != 0 then runsFrom b (pos + 1) (seg + 1) ⟨r.val, r.cnt + 1⟩ vs
      else r :: runsFrom b (pos + 1) (seg + 1) ⟨v, 1⟩ vs
    else runsFrom b (pos + 1) seg ⟨r.val, r.cnt + 1⟩ vs

/-- The runs of per-lane values cut at boundaries (R105, R106). -/
def buildRuns (b : Mask) : List Word → LReg
  | [] => []
  | v :: vs => runsFrom b 1 0 ⟨v, 1⟩ vs

/-- Results on the lanes of a mask, old values elsewhere (R106). -/
def mergeLanes (m : Mask) (new old : List Word) : List Word :=
  (List.range old.length).map fun l => if m.getLsbD l then lane new l else lane old l

/-- Lanes 0 to n - 1 that a mask holds, in increasing order. -/
def lanesOf (m : Mask) (n : Nat) : List Nat := (List.range n).filter fun l => m.getLsbD l

/-- The lanes of a list as a mask. -/
def maskOf (ls : List Nat) : Mask := ls.foldl (fun m l => m ||| Mask.lane l) 0

/-- Number of set bits. -/
def maskCount (m : Mask) : Nat := (lanesOf m 96).length

/-- The runs of a link vector lane by lane (R27). -/
def linkExpand (r : List LinkRun) : List DWord := r.flatMap fun x => List.replicate x.cnt x.addr

/-- A link vector from its lanes. R29 and R116 charge its runs and no rule merges them: equal neighbours join, across
every lane and whichever lanes a call wrote (log entry 72). -/
def linkRuns : List DWord → List LinkRun
  | [] => []
  | a :: rest =>
    match linkRuns rest with
    | [] => [⟨a, 1⟩]
    | r :: rs => if r.addr = a then ⟨a, r.cnt + 1⟩ :: rs else ⟨a, 1⟩ :: r :: rs

/-- Address of lane `l`. -/
def laneAddr (vs : List DWord) (l : Nat) : DWord := vs.getD l 0

/-! ## Reduction order (R111, R112) -/

/-- One level of the tree of R111; a missing partner leaves a node as it is. -/
def treeLevel {α : Type} (op : α → α → α) : List (Option α) → List (Option α)
  | p :: q :: rest =>
    (match p, q with
      | some x, some y => some (op x y)
      | some x, none => some x
      | none, y => y) :: treeLevel op rest
  | [p] => [p]
  | [] => []

/-- The tree of R111: seven levels join 96 nodes. -/
def tree {α : Type} (op : α → α → α) (xs : List (Option α)) : Option α :=
  let lv := fun ns => treeLevel op ns
  ((lv (lv (lv (lv (lv (lv (lv xs))))))).headD none)

/-- The 96 leaves of the tree over a set of lanes. -/
def treeLeaves {α : Type} (k : Mask) (x : Nat → α) : List (Option α) :=
  (List.range 96).map fun i => if k.getLsbD i then some (x i) else none

end Sys2Proof.Machine
end

