-- ==== Sys2Proof/Machine/Lookup.lean ====
section
/-! DEFINITION. Finding and replacing the parts of the state: waves, slots, cores, launches, worlds, heads, ports. -/

namespace Sys2Proof

/-- The other PC slot. -/
def SlotId.other : SlotId → SlotId
  | .s0 => .s1
  | .s1 => .s0

/-- A port as a number. -/
def PortId.num : PortId → Nat
  | .p0 => 0
  | .p1 => 1

def PortId.other : PortId → PortId
  | .p0 => .p1
  | .p1 => .p0

end Sys2Proof

namespace Sys2Proof.Machine

def State.wave? (s : State) (id : Nat) : Option Wave := s.waves.find? (·.id == id)

/-- Put a wave back under its id. -/
def State.setWave (s : State) (w : Wave) : State :=
  { s with waves := s.waves.map fun x => if x.id == w.id then w else x }

def Wave.slot (w : Wave) : SlotId → Slot
  | .s0 => w.s0
  | .s1 => w.s1

def Wave.setSlot (w : Wave) (k : SlotId) (x : Slot) : Wave :=
  match k with
  | .s0 => { w with s0 := x }
  | .s1 => { w with s1 := x }

def State.core (s : State) (n : Nat) : Core := (s.cores.find? (·.num == n)).getD (Core.reset n)

def State.setCore (s : State) (c : Core) : State :=
  { s with cores := c :: s.cores.filter (·.num != c.num) }

def State.launch? (s : State) (id : Nat) : Option Launch := s.launches.find? (·.id == id)

def State.setLaunch (s : State) (l : Launch) : State :=
  { s with launches := s.launches.map fun x => if x.id == l.id then l else x }

def State.world? (s : State) (id : BitVec 8) : Option World := s.worlds.find? (·.id == id)

def State.setWorld (s : State) (w : World) : State :=
  { s with worlds := s.worlds.map fun x => if x.id == w.id then w else x }

def State.head? (s : State) (n : Nat) : Option Head := s.heads.find? (·.num == n)

def State.setHead (s : State) (h : Head) : State :=
  { s with heads := h :: s.heads.filter (·.num != h.num) }

def State.port (s : State) : PortId → Port
  | .p0 => s.port0
  | .p1 => s.port1

def State.setPort (s : State) (k : PortId) (p : Port) : State :=
  match k with
  | .p0 => { s with port0 := p }
  | .p1 => { s with port1 := p }

def State.part? (s : State) (p : BitVec 3) : Option Part := s.parts[p.toNat]'p.isLt

/-- R381: may the port use the partition? -/
def State.portAllowed (s : State) (k : PortId) (p : BitVec 3) : Bool :=
  match s.part? p with
  | some r => r.ports.getLsbD k.num
  | none => false

/-- R367: is the ASID one of the partition's? -/
def Part.hasAsid (p : Part) (a : BitVec 16) : Bool :=
  decide (p.asidBase ≤ a.toNat) && decide (a.toNat < p.asidBase + p.asidCnt)

def State.partHasAsid (s : State) (p : BitVec 3) (a : BitVec 16) : Bool :=
  match s.part? p with
  | some r => r.hasAsid a
  | none => false

/-- R367: the partition that an ASID is granted to. -/
def State.asidPart? (s : State) (a : BitVec 16) : Option Part :=
  s.parts.toList.findSome? fun p => match p with | some r => if r.hasAsid a then some r else none | none => none

/-- Barrier `b` of a core (R344). -/
def Core.bar (c : Core) (b : BitVec 6) : Barrier := ((c.bars.find? (·.1 == b)).map (·.2)).getD Barrier.released

def Core.setBar (c : Core) (b : BitVec 6) (x : Barrier) : Core :=
  { c with bars := (if x == Barrier.released then [] else [(b, x)]) ++ c.bars.filter (·.1 != b) }

/-- A launch's allocation on a core (R197). -/
def Core.alloc? (c : Core) (launch : Nat) : Option Alloc := c.allocs.find? (·.launch == launch)

/-- Banks of a role in increasing number (R194, R195). -/
def banksOf (roles : DWord) (role : BitVec 2) : List Nat :=
  (List.range 32).filter fun k => roles.extractLsb' (2 * k) 2 == role

/-- A free value the state supplies: a number no step has used before. -/
def State.tickUp (s : State) : State := { s with tick := s.tick + 1 }

end Sys2Proof.Machine
end

