-- ==== Sys2Proof/Machine/Space.lean ====
section
/-! DEFINITION. Addresses and translation: windows and space suffixes (spec/10_memory.md R190 to R193), the local store
(R194, R195), page attributes (R202), the order of the checks of R192, and reads and writes of located bytes. -/

namespace Sys2Proof.Machine

/-- A fault of a leg before it is delivered (R391, R394): code, FADDR, fault mask, the token FTOK receives when the
fault reports an engine command or the Hamper, lines it leaves poisoned, and the register whose error it found. -/
structure Trap where
  code : BitVec 16
  addr : DWord
  mask : Mask
  tok : Option DWord := none
  poison : List Nat := []
  reg : Option RegName := none
  /-- whether the faulting leg lies in the supervisor page (R396); none where its path still does or does not -/
  sup : Option Bool := none
  deriving DecidableEq, Repr

/-- The four windows of R190. -/
inductive Window where
  | glob | priv | scr | clus
  deriving DecidableEq, Repr

/-- R190: the window of a generic address, none when it is non-canonical. -/
def windowOf (a : DWord) : Option Window :=
  match (a.extractLsb' 56 8).toNat with
  | 0x00 => if a.extractLsb' 52 4 == 0 then some .glob else none
  | 0xF0 => if a.extractLsb' 24 32 == 0 then some .priv else none
  | 0xF1 => if a.extractLsb' 50 6 == 0 && a.extractLsb' 21 19 == 0 then some .scr else none
  | 0xF2 => if a.extractLsb' 49 7 == 0 && a.extractLsb' 24 18 == 0 then some .clus else none
  | _ => none

/-- The window a suffix names. -/
def spcWindow : Spc → Option Window
  | .x => none
  | .g => some .glob
  | .p => some .priv
  | .s => some .scr
  | .c => some .clus

/-- Does a load, store or fetch read or write, or is it an atomic (R202, R203, R246)? -/
inductive Use where
  | read | write | atomic | fetch
  deriving DecidableEq, Repr

/-- R374, R375: the leaf that maps an address of an ASID. -/
def Leaf.covers (l : Leaf) (asid : BitVec 16) (va : DWord) : Bool :=
  l.asid == asid && (va >>> (16 + (if l.size = 0 then 0 else if l.size = 1 then 5 else 14)))
    == (l.va >>> (16 + (if l.size = 0 then 0 else if l.size = 1 then 5 else 14)))

def State.leaf? (s : State) (asid : BitVec 16) (va : DWord) : Option Leaf :=
  s.leaves.find? fun l => l.covers asid va

/-- Bytes of a page of a size (R13). -/
def pageBytes : Nat → Nat
  | 0 => 65536
  | 1 => 2097152
  | _ => 1073741824

/-- R202, R203: the fault a use of a leaf raises. -/
def Leaf.check (l : Leaf) (u : Use) : Option (BitVec 16) :=
  if !l.p then some 0x1001
  else match u with
    | .read => none
    | .fetch => if l.x then none else some 0x1002
    | .write => if !l.w then some (if l.cw then 0x1003 else 0x1002) else if l.fmt != 0 then some 0x1004 else none
    | .atomic =>
      if !l.w then some (if l.cw then 0x1003 else 0x1002) else if l.fmt != 0 then some 0x1004
      else if l.hau then some 0x3001 else none

/-- The key a leaf gives an address of its page. -/
def Leaf.key (l : Leaf) (va : DWord) : Nat :=
  physKey l.loc l.dev (l.pa.toNat + va.toNat % pageBytes l.size)

/-- R420: has a domain page's owner a live route, and does its export table leave bytes of the page out? -/
def State.ownerRefuses (s : State) (l : Leaf) (va : DWord) (n : Nat) : Bool :=
  l.loc == 2 && (s.routes[l.dev.toNat]'l.dev.isLt) &&& s.jexUp != 0
    && !exported (s.imports[l.dev.toNat]'l.dev.isLt) (l.pa.toNat + va.toNat % pageBytes l.size) n

/-- R13, R202, R420: translate an address of an ASID for a use. -/
def State.translate (s : State) (asid : BitVec 16) (va : DWord) (n : Nat) (u : Use) : Except (BitVec 16) Piece :=
  match s.leaf? asid va with
  | none => .error 0x1001
  | some l => match l.check u with
    | some c => .error c
    | none => if s.ownerRefuses l va n then .error 0x1002 else .ok ⟨l.key va, n, some l⟩

/-- R195: the key of a scratchpad byte. -/
def scratchKey (c : Core) (off : Nat) : Option Nat :=
  ((banksOf c.roles 1)[off / 49152]?).map fun b => storeKey c.num b (off % 49152)

/-- Bytes of the scratchpad role. -/
def scratchBytes (c : Core) : Nat := (banksOf c.roles 1).length * 49152

/-- Pieces of a scratchpad range, cut where each bank ends (R195: the next bank of the role need not lie beside it). -/
def scratchPieces (c : Core) (off n : Nat) : List Piece :=
  (List.range ((off % 49152 + n + 49151) / 49152)).flatMap fun i =>
    let lo := max off ((off / 49152 + i) * 49152)
    let hi := min (off + n) ((off / 49152 + i + 1) * 49152)
    match scratchKey c lo with
    | some key => [⟨key, hi - lo, none⟩]
    | none => []

/-- R192 step 5: inside the scratchpad-role bytes and inside an allocation of a launch of the partition. -/
def State.scratchAllowed (s : State) (c : Core) (part : BitVec 3) (off n : Nat) : Bool :=
  decide (off + n ≤ scratchBytes c) && c.allocs.any fun a =>
    decide (a.base ≤ off) && decide (off + n ≤ a.base + a.size)
      && (match s.launch? a.launch with | some l => l.part == part | none => false)

/-- R193: the global address of a private byte. -/
def privateVa (pvb : DWord) (l off : Nat) : DWord :=
  pvb + BitVec.ofNat 64 (384 * (off / 4) + 4 * l + off % 4)

/-- R193: the pieces of a private access of `n` bytes, one for every unit of four bytes. -/
def State.privatePieces (s : State) (w : Wave) (l off n : Nat) (u : Use) : Except (BitVec 16) (List Piece) :=
  if n ≤ 4 then
    match s.translate w.asid (privateVa w.pvb l off) n u with
    | .ok p => .ok [p]
    | .error c => .error c
  else
    (List.range (n / 4)).foldr (fun k acc =>
      match s.translate w.asid (privateVa w.pvb l (off + 4 * k)) 4 u, acc with
      | .ok p, .ok ps => .ok (p :: ps)
      | .error c, _ => .error c
      | _, .error c => .error c) (.ok [])

/-- The launch record of a wave. -/
def State.recOf (s : State) (w : Wave) : Option LaunchRec := (s.launch? w.launch).map (·.lr)

/-- PSZ of a wave's launch (R193). -/
def State.psz (s : State) (w : Wave) : Nat := ((s.recOf w).map (·.psz)).getD 0

/-- A checked address: the window, the core and offset of a scratchpad or cluster-shared one, the private offset, and
the pieces it lies in. -/
structure Place where
  win : Window
  core : Nat
  off : Nat
  pieces : List Piece
  deriving DecidableEq, Repr

/-- R190, R192 step 1: is an address canonical under a suffix? A bare offset has the layout of its named window; the
core or cluster field of that layout is not part of the offset (log entry 10). -/
def canonical (spc : Spc) (a : DWord) : Bool :=
  if a.extractLsb' 56 8 == 0 then
    match spc with
    | .p => a.extractLsb' 24 32 == 0
    | .s => a.extractLsb' 50 6 == 0 && a.extractLsb' 21 19 == 0
    | .c => a.extractLsb' 49 7 == 0 && a.extractLsb' 24 18 == 0
    | _ => (windowOf a).isSome
  else (windowOf a).isSome

/-- R193: FADDR of an access: the generic private address for a bare private offset, else the address itself. -/
def reported (spc : Spc) (a : DWord) : DWord :=
  if spc == .p && a.extractLsb' 24 40 == 0 then 0xF000_0000_0000_0000 ||| a else a

/-- R191: the window, core and offset an address names under a suffix; steps 1 and 2 of R192. A scalar access has no lane
(R191). -/
def State.resolve (s : State) (w : Wave) (spc : Spc) (scalar : Bool) (a : DWord) :
    Except (Nat × BitVec 16) (Window × Nat × Option Nat) :=
  let wcore := w.core.toNat
  let bare := fun (core : Nat) (o : Nat) => ((s.core core).alloc? w.launch).map fun x => x.base + o
  if !canonical spc a then .error (1, 0x1103)
  else
    let r : Except (Nat × BitVec 16) (Window × Nat × Option Nat) :=
      match spc, a.extractLsb' 56 8 == 0 with
      | .p, true => .ok (.priv, wcore, some a.toNat)
      | .s, true => .ok (.scr, wcore, bare wcore (a.extractLsb' 0 21).toNat)
      | .c, true =>
        let core := wcore / 8 * 8 + (a.extractLsb' 21 3).toNat
        .ok (.clus, core, bare core (a.extractLsb' 0 21).toNat)
      | _, _ =>
        match windowOf a with
        | none => .error (1, 0x1103)
        | some win =>
          if (match spcWindow spc with | some x => x == win | none => true) then
            match win with
            | .glob => .ok (.glob, wcore, some a.toNat)
            | .priv => .ok (.priv, wcore, some (a.extractLsb' 0 24).toNat)
            | .scr => .ok (.scr, (a.extractLsb' 40 10).toNat, some (a.extractLsb' 0 21).toNat)
            | .clus => .ok (.clus, (a.extractLsb' 42 7).toNat * 8 + (a.extractLsb' 21 3).toNat,
                some (a.extractLsb' 0 21).toNat)
          else .error (2, 0x1104)
    match r with
    | .ok (.priv, c, o) => if scalar then .error (2, 0x1104) else .ok (.priv, c, o)
    | x => x

/-- R192: the six steps for one lane; an error names its step and code. -/
def State.locate (s : State) (w : Wave) (spc : Spc) (scalar : Bool) (l : Nat) (a : DWord) (n align : Nat) (u : Use) :
    Except (Nat × BitVec 16) Place :=
  match s.resolve w spc scalar a with
  | .error e => .error e
  | .ok (win, c, off) =>
    if win == .scr && c != w.core.toNat then .error (3, 0x1101)
    else if win == .clus && c / 8 != w.core.toNat / 8 then .error (3, 0x1102)
    else if a.toNat % align != 0 then .error (4, 0x0201)
    else match win, off with
      | .glob, _ =>
        match s.translate w.asid a n u with
        | .ok p => .ok ⟨.glob, c, 0, [p]⟩
        | .error e => .error (6, e)
      | .priv, some o =>
        if s.psz w < o + n then .error (5, 0x0104)
        else match s.privatePieces w l o n u with
          | .ok ps => .ok ⟨.priv, c, o, ps⟩
          | .error e => .error (6, e)
      | x, some o =>
        if s.scratchAllowed (s.core c) w.part o n then .ok ⟨x, c, o, scratchPieces (s.core c) o n⟩
        else .error (5, 0x0104)
      | _, none => .error (5, 0x0104)

/-- Is a piece behind a port or in another device's memory, and at which? -/
def Piece.far? (p : Piece) : Option (Bool × BitVec 4) :=
  match p.leaf with
  | some l => if 2 ≤ l.loc.toNat then some (l.loc == 3, l.dev) else none
  | none => none

/-! ## Reading and writing located bytes -/

/-- Bytes of pieces, in order. -/
def readPieces (m : List Host.Cell) : List Piece → List Byte
  | [] => []
  | p :: r => Memory.read m p.key p.len ++ readPieces m r

/-- Write bytes into pieces, in order. -/
def writePieces (m : List Host.Cell) : List Piece → List Byte → List Host.Cell
  | [], _ => m
  | p :: r, b => writePieces (Memory.write m p.key (b.take p.len)) r (b.drop p.len)

/-- The lines that pieces touch. -/
def pieceLines (ps : List Piece) : List Nat := ps.flatMap fun p => linesOf p.key p.len

/-- R411: what reading lines raises: 0x2001 and the line poisoned for an error nobody has found, 0x2002 for poison. -/
def State.lineFault (s : State) (ls : List Nat) : Option (BitVec 16 × List Nat) :=
  match ls.find? fun l => s.errs.contains l || s.poison.contains l with
  | none => none
  | some l => if s.errs.contains l then some (0x2001, [l]) else some (0x2002, [])

/-- R419, R420, R418: a request for a location that cannot answer: a CXL port or a route that is down, a host link that
is down. -/
def State.deadFault (s : State) (ps : List Piece) : Option (BitVec 16 × List Nat) :=
  ps.findSome? fun p =>
    match p.leaf with
    | none => none
    | some l =>
      match l.loc.toNat with
      | 1 => if s.cxlUp.getLsbD l.dev.toNat then none else some (0x2001, linesOf p.key p.len)
      | 2 => if (s.routes[l.dev.toNat]'l.dev.isLt) &&& s.jexUp == 0 then some (0x3003, []) else none
      | 3 => if (s.port (if l.dev.toNat % 2 = 0 then .p0 else .p1)).linkUp then none else some (0x3003, [])
      | _ => none

/-- R420: does the owner of a domain page refuse one of the page's pieces? -/
def State.piecesRefused (s : State) (l : Leaf) (ps : List Piece) : Bool :=
  ps.any fun p => s.ownerRefuses l (BitVec.ofNat 64 (p.key - physKey l.loc l.dev l.pa.toNat)) p.len

/-- The fault of pieces of a format page whose bytes cannot be had at all (R240, R420); damage is no such fault. -/
def State.pageFault (s : State) (l : Leaf) (ps : List Piece) : Option (BitVec 16) :=
  if s.piecesRefused l ps then some 0x1002
  else match s.deadFault [⟨physKey l.loc l.dev l.pa.toNat, 1, some l⟩] with
    | some e => if e.1 == 0x2001 then none else some e.1
    | none => none

/-- The faults of a read at its location (R240). -/
def State.readFault (s : State) (ps : List Piece) : Option (BitVec 16 × List Nat) :=
  match s.deadFault ps with
  | some e => some e
  | none => s.lineFault (pieceLines ps)

/-! ## Lanes together (R192) -/

/-- One lane's outcome of a check: a step and code with the lines to poison, or a value. -/
abbrev LaneCheck (α : Type) := Except (Nat × BitVec 16 × List Nat) α

/-- R192: the earliest failing step decides; within it the lowest lane's code; the mask holds the lanes that fail that
step with that code; FADDR is the lowest lane's address. -/
def joinLanes {α : Type} (rs : List (Nat × DWord × LaneCheck α)) : Except Trap (List (Nat × α)) :=
  let errs := rs.filterMap fun r => match r.2.2 with
    | .error e => some (r.1, r.2.1, e)
    | .ok _ => none
  match errs with
  | [] => .ok (rs.filterMap fun r => match r.2.2 with | .ok v => some (r.1, v) | .error _ => none)
  | e0 :: _ =>
    let step := errs.foldl (fun m e => min m e.2.2.1) e0.2.2.1
    match errs.filter fun e => e.2.2.1 == step with
    | [] => .error ⟨e0.2.2.2.1, e0.2.1, 0, none, [], none, none⟩
    | f :: fs =>
      let same := (f :: fs).filter fun e => e.2.2.2.1 == f.2.2.2.1
      .error ⟨f.2.2.2.1, f.2.1, maskOf (same.map (·.1)), none, same.flatMap (·.2.2.2.2), none, none⟩

/-- The mask a scalar access faults with: the path's E (R391). -/
def scalarMask (m : Mask) (r : Except Trap α) : Except Trap α :=
  match r with
  | .error t => .error { t with mask := m }
  | .ok x => .ok x

end Sys2Proof.Machine
end

