-- ==== Sys2Proof/Machine/Formats.lean ====
section
/-! DEFINITION. Element formats (spec/05_formats.md R92 to R104, spec/08_conversion.md R151, R152): narrow formats, element
codes, scales, codebooks, the Hadamard transform, and how a format page lays out its elements. -/

namespace Sys2Proof.Machine

/-- An element format: floating-point, or an integer of a width. -/
inductive Elem where
  | flt (f : Fmt)
  | int (w : Nat) (signed : Bool)
  deriving DecidableEq, Repr

/-- Element width in bits. -/
def Elem.width : Elem → Nat
  | .flt f => f.width
  | .int w _ => w

/-- R152: container width: 4, 8, 16 or 32. -/
def Elem.container (e : Elem) : Nat :=
  if e.width ≤ 4 then 4 else if e.width ≤ 8 then 8 else if e.width ≤ 16 then 16 else 32

/-- The least and greatest integer of an integer format (R95). -/
def intRange (w : Nat) (signed : Bool) : Int × Int :=
  if signed then (-(2 ^ (w - 1) : Nat), (2 ^ (w - 1) : Nat) - 1) else (0, (2 ^ w : Nat) - 1)

/-- The two's-complement value of `w` bits. -/
def sintOf (w n : Nat) : Int := if 2 ^ (w - 1) ≤ n then (n : Int) - (2 ^ w : Nat) else n

/-- The value of an element's encoding (R84, R95). -/
def Elem.value (e : Elem) (b : Nat) : Val :=
  match e with
  | .flt f => f.decode b
  | .int w signed => let n := b % 2 ^ w
    ofInt (if signed then sintOf w n else n) 0

/-- A value converted to an element format, with its event class (R88 to R91, R154). An integer that `sat` clips to an integer
format is counted as a saturation (log entry 90). -/
def Elem.encode (e : Elem) (rm : Rm) (sat : Bool) (v : Val) : Nat × Ev :=
  match e with
  | .flt f => f.convert rm sat v
  | .int w signed =>
    let r := toInt rm (intRange w signed).1 (intRange w signed).2 v
    ((r.1.emod (2 ^ w : Nat)).toNat, r.2)

/-- R35, R92: the format that a narrow-format description names; none when it is not valid. -/
def nfFormat (w : Word) : Option Fmt :=
  let sgn := w.getLsbD 16
  let ew := (w.extractLsb' 13 3).toNat
  let mw := (w.extractLsb' 10 3).toNat
  let total := (if sgn then 1 else 0) + ew + mw
  if ew = 0 || total < 2 || 8 < total then none
  else
    let f := fun spec => some (⟨sgn, ew, mw, (w.extractLsb' 2 8).toInt, spec⟩ : Fmt)
    match (w.extractLsb' 0 2).toNat with
    | 0 => f .finite
    | 1 => f .oneNan
    | 2 => if ew < 2 then none else f .ieee
    | _ => none

/-- The element codes that R102 and R151 share, 0x01 to 0x0A, with 0x0B and 0x0C of R151. -/
def fixedElem (c : Nat) : Option Elem :=
  match c with
  | 1 => some (.flt fp32) | 2 => some (.flt bf16) | 3 => some (.flt fp16) | 4 => some (.flt e4m3)
  | 5 => some (.flt e5m2) | 6 => some (.flt e2m1) | 7 => some (.int 8 true) | 8 => some (.int 4 true)
  | 9 => some (.int 8 false) | 10 => some (.int 4 false) | 11 => some (.int 32 true) | 12 => some (.int 32 false)
  | _ => none

/-- R151: the format of a legal element code; none for an NF register whose description is not valid (R93). -/
def elemOf (nf : Vector Word 8) (c : BitVec 5) : Option Elem :=
  if h : 24 ≤ c.toNat then
    (nfFormat (nf[c.toNat - 24]'(by have := c.isLt; omega))).map Elem.flt
  else fixedElem c.toNat

/-- R102: the element format of a page's FMT; none when it names a table entry that is not valid (R93). -/
def pageElem (nft : Vector Word 16) (fmt : BitVec 5) : Option Elem :=
  if h : 16 ≤ fmt.toNat then
    (nfFormat (nft[fmt.toNat - 16]'(by have := fmt.isLt; omega))).map Elem.flt
  else if fmt.toNat ≤ 10 then fixedElem fmt.toNat else none

/-- R98: the value of an E8M0 code. -/
def e8m0 (c : Nat) : Val := if c = 255 then .nan else .fin false 1 ((c : Int) - 127)

/-- R99: a scaled element's value: the exact product; under a zero scale every element but a NaN is a zero with the
product's sign. -/
def scaled (v s : Val) : Val :=
  match v, s with
  | .inf a, .fin b m e => if m = 0 then .fin (a != b) 0 0 else Val.mul (.inf a) (.fin b m e)
  | v, s => Val.mul v s

/-- The canonical NaN of a destination format. -/
def Elem.nan : Elem → Nat
  | .flt f => f.nan
  | .int _ _ => 0

/-! ## The Hadamard transform (R101, R156) -/

/-- Parity of the number of set bits. -/
def oddBits (n : Nat) : Bool := (List.range 8).foldl (fun p k => p != n.testBit k) false

/-- The exact sum of values (R122), from +0. -/
def sumVals (rm : Rm) : List Val → Val
  | [] => .fin false 0 0
  | [v] => v
  | v :: vs => Val.add rm v (sumVals rm vs)

/-- R101: value i of a transform of order n (16 or 32). -/
def hadamardAt (n : Nat) (xs : List Val) (i : Nat) : Word :=
  let terms := (List.range n).map fun j =>
    let x := xs.getD j (.fin false 0 0)
    if oddBits (i &&& j) then x.neg else x
  toF32 .rne false (Val.mul (sumVals .rne terms) (.fin false 1 (if n = 16 then -2 else -3)))

/-- R156: the transform over lanes: inactive lanes contribute +0 and keep their value. -/
def hadamardLanes (n : Nat) (act : Mask) (vs : List Word) : List Word :=
  (List.range vs.length).map fun l =>
    if act.getLsbD l then
      let g := l / n * n
      hadamardAt n ((List.range n).map fun j =>
        if act.getLsbD (g + j) && decide (g + j < vs.length) then f32 (lane vs (g + j)) else .fin false 0 0) (l % n)
    else lane vs l

/-! ## Format pages (R102, R103) -/

/-- The layout of a format page: element width, elements of a block (0 without a scale), data bytes of a block, record
bytes, number of blocks, elements in the data region. -/
structure PageLayout where
  elem : Elem
  scl : Nat
  width : Nat
  block : Nat
  data : Nat
  recBytes : Nat
  blocks : Nat
  bytes : Nat
  deriving DecidableEq, Repr

/-- R103: the layout of a leaf's page; none when its format is not valid when used (R93). -/
def Leaf.layout (l : Leaf) (nft : Vector Word 16) : Option PageLayout :=
  match pageElem nft l.fmt with
  | none => none
  | some e =>
    let p := pageBytes l.size
    match l.scl.toNat with
    | 0 => some ⟨e, 0, e.width, 0, 0, 0, 0, p⟩
    | 3 =>
      let n := e.width / 8
      some ⟨e, 3, 3, 128, 48, 8 * n, p / (48 + 8 * n), p⟩
    | s =>
      let b := if l.blk then 32 else 16
      some ⟨e, s, e.width, b, b * e.width / 8, 1, p / (b * e.width / 8 + 1), p⟩

/-- Elements in the data region. -/
def PageLayout.elems (p : PageLayout) : Nat := if p.block = 0 then 8 * p.bytes / p.width else p.blocks * p.block

/-- Byte offset of block j's record. -/
def PageLayout.recAt (p : PageLayout) (j : Nat) : Nat := p.blocks * p.data + j * p.recBytes

/-- First byte of element i, and how many bytes it touches (R97). -/
def PageLayout.elemBytes (p : PageLayout) (i : Nat) : Nat × Nat :=
  let lo := p.width * i / 8
  (lo, (p.width * i + p.width - 1) / 8 - lo + 1)

/-- The bytes that a load of element i reads: the element's, and its block's record. -/
def PageLayout.elemPieces (p : PageLayout) (l : Leaf) (base i : Nat) : List Piece :=
  let x := p.elemBytes i
  ⟨base + x.1, x.2, some l⟩ ::
    (if p.block = 0 then [] else [⟨base + p.recAt (i / p.block), p.recBytes, some l⟩])

/-- Bits `[at, at + w)` of the stream that starts at a key: the formula of R97. Its last sentence gives a three-bit element 3
bit 7 of byte 0 and bits 1 and 2 of byte 1, where the formula gives it bits 1 to 3 of byte 1 (log entry 89). -/
def streamBits (m : List Host.Cell) (key at_ w : Nat) : Nat :=
  let lo := at_ / 8
  let n := (at_ + w - 1) / 8 - lo + 1
  leNat (Memory.read m (key + lo) n) / 2 ^ (at_ % 8) % 2 ^ w

/-- R99, R100: the value of element i of the page whose bytes start at `base`. -/
def PageLayout.value (p : PageLayout) (m : List Host.Cell) (base i : Nat) : Val :=
  let raw := streamBits m base (p.width * i) p.width
  match p.scl with
  | 0 => p.elem.value raw
  | 3 =>
    let n := p.elem.width / 8
    p.elem.value (leNat (Memory.read m (base + p.recAt (i / p.block) + raw * n) n))
  | s =>
    let code := (Memory.get m (base + p.recAt (i / p.block))).toNat
    scaled (p.elem.value raw) (if s = 1 then e8m0 code else e4m3.decode code)

/-- Is a line damaged: an uncorrectable error, or poison? -/
def State.damaged (s : State) (line : Nat) : Bool := s.errs.contains line || s.poison.contains line

/-- Do an element's own lines hold damage? -/
def PageLayout.elemDamaged (p : PageLayout) (s : State) (base i : Nat) : Bool :=
  (linesOf (base + (p.elemBytes i).1) (p.elemBytes i).2).any s.damaged

/-- R104: is element i, one of the elements `all` that a load decodes, returned as poison, and where is the byte to
report? Damage in the record's line or in the line of any element the load decodes from the block poisons them all. -/
def PageLayout.poisonAt (p : PageLayout) (s : State) (base : Nat) (all : List Nat) (i : Nat) : Option Nat :=
  if p.block = 0 then (if p.elemDamaged s base i then some (p.elemBytes i).1 else none)
  else
    let j := i / p.block
    if (linesOf (base + p.recAt j) p.recBytes).any s.damaged then some (p.recAt j)
    else if all.any (fun k => k / p.block == j && p.elemDamaged s base k) then some (p.elemBytes i).1
    else none

/-- The damaged lines that a load of elements of a leaf's page finds: those whose error nobody had found become poison (R411).
Behind a CXL port whose link is down every line is one (R419). -/
def PageLayout.damagedLines (p : PageLayout) (s : State) (l : Leaf) (base : Nat) (all : List Nat) : List Nat :=
  let ls := all.flatMap fun i => pieceLines (p.elemPieces l base i)
  if (s.deadFault [⟨base, 1, some l⟩]).isSome then ls else ls.filter s.damaged

end Sys2Proof.Machine
end

