-- ==== Sys2Proof/Machine/Ops.lean ====
section
/-! DEFINITION. Shared operations: poison and stores to memory, shoot-downs, tokens, fault records and the wait table,
the Hamper and the save area, calls, and taking a fault (spec/20_recovery.md R391 to R396) with the return from it
(R399). -/

namespace Sys2Proof.Machine

/-! ## Memory effects -/

/-- R411: lines an error was found in become poisoned. -/
def State.markPoison (s : State) (ls : List Nat) : State :=
  { s with poison := ls.foldl (fun p l => if p.contains l then p else l :: p) s.poison,
           errs := s.errs.filter fun l => !ls.contains l }

/-- R386: a wipe of `n` bytes from a key: zero, and no poison. -/
def State.wipe (s : State) (key n : Nat) : State :=
  { s with mem := Memory.wipe s.mem key n,
           poison := s.poison.filter fun l => !(decide (key ≤ 128 * l) && decide (128 * l < key + n)),
           errs := s.errs.filter fun l => !(decide (key ≤ 128 * l) && decide (128 * l < key + n)),
           olds := s.olds.filter fun o => !(decide (key ≤ 4 * o.key) && decide (4 * o.key < key + n)) }

/-- Is the piece in host memory, and behind which port? -/
def Piece.host? (p : Piece) : Option PortId :=
  match p.leaf with
  | some l => if l.loc == 3 then some (if l.dev.toNat % 2 = 0 then .p0 else .p1) else none
  | none => none

/-- R417: count a failed posted write. -/
def Port.failWrite (p : Port) (addr : DWord) : Port :=
  { p with pwaddr := addr, pwerr := if p.pwerr == 0xFFFF_FFFF then p.pwerr else p.pwerr + 1 }

/-- R239, R240: a write to a host's memory is posted, with the parts that are written with it as one (R159) and the partition
whose fault record it is (R406); behind a link that is down it fails and is counted. -/
def State.post (s : State) (k : PortId) (addr : DWord) (b : List Byte) (more : List (DWord × List Byte) := [])
    (fq : Option (BitVec 3) := none) : State :=
  let p := s.port k
  if p.linkUp then s.setPort k { p with posted := p.posted ++ [⟨addr, b, more, fq⟩] } else s.setPort k (p.failWrite addr)

/-- A posted write reaches its host. -/
def Posted.perform (x : Posted) (k : PortId) (m : List Host.Cell) : List Host.Cell :=
  x.more.foldl (fun m y => Memory.write m (hostKey k y.1) y.2) (Memory.write m (hostKey k x.addr) x.bytes)

/-- R406, R414: FQHEAD passes a fault record once it has been performed, and the partition's MSI-X vector is signalled. -/
def Port.passed (p : Port) (x : Posted) : Port :=
  match x.fq with
  | none => p
  | some i =>
    let q := p.fq[i.toNat]'i.isLt
    { p with fq := p.fq.set i.toNat { q with head := q.head + 1 } i.isLt, msix := p.msix ||| BitVec.ofNat 8 (2 ^ i.toNat) }

/-- Every posted write of a port reaches its host, in order. -/
def State.drainPort (s : State) (k : PortId) : State :=
  let p := s.port k
  { s with mem := p.posted.foldl (fun m (x : Posted) => x.perform k m) s.mem }.setPort k
    { p.posted.foldl Port.passed p with posted := [] }

def State.drain (s : State) : State := (s.drainPort .p0).drainPort .p1

/-- The parts of a write into located pieces that go to the host behind a port. -/
def hostParts (k : PortId) : List Piece → List Byte → List (DWord × List Byte)
  | [], _ => []
  | p :: r, b =>
    (if p.host? == some k then [(BitVec.ofNat 64 p.key, b.take p.len)] else []) ++ hostParts k r (b.drop p.len)

/-- A write's parts for a host are posted as one (R159). -/
def State.postParts (s : State) (k : PortId) : List (DWord × List Byte) → State
  | [] => s
  | x :: r => s.post k x.1 x.2 r

/-- The parts of a write into located pieces that stay in the package, in the domain, or in CXL memory. -/
def storeHere (m : List Host.Cell) : List Piece → List Byte → List Host.Cell
  | [], _ => m
  | p :: r, b => storeHere (if p.host?.isSome then m else Memory.write m p.key (b.take p.len)) r (b.drop p.len)

/-- Perform a write of bytes into located pieces (R39, R239). -/
def State.store (s : State) (ps : List Piece) (b : List Byte) : State :=
  (({ s with mem := storeHere s.mem ps b }).postParts .p0 (hostParts .p0 ps b)).postParts .p1 (hostParts .p1 ps b)

/-- R411: the lines that a leg's stores cover whole lose their poison. -/
def coveredLines (ks : List (Nat × Nat)) (ls : List Nat) : List Nat :=
  ls.filter fun l => (List.range 128).all fun o =>
    ks.any fun k => decide (k.1 ≤ 128 * l + o) && decide (128 * l + o < k.1 + k.2)

/-- Perform a leg's stores in program order, then clear the poison of the lines they cover together (R39, R411). -/
def State.performStores (s : State) (st : List HeldStore) : State :=
  let s' := st.foldl (fun s h => s.store h.pieces h.bytes) s
  if s'.poison.isEmpty && s'.errs.isEmpty then s' else
    let ks := st.flatMap fun h => h.pieces.map fun p => (p.key, p.len)
    let ls := coveredLines ks (s'.poison ++ s'.errs)
    { s' with poison := s'.poison.filter fun l => !ls.contains l, errs := s'.errs.filter fun l => !ls.contains l }

/-! ## Words that a fetch may still return as they were (R67) -/

/-- The words of located pieces that a write has changed, as they were. Log entry 14: where a wave writes a host's page, the
fetch returns the new word once the posted write is performed, though R67 would allow the old one until a CINV. -/
def State.changedWords (s : State) (ps : List Piece) (mem : List Host.Cell) : List OldWord :=
  ps.flatMap fun p => if p.host?.isSome || p.len = 0 then [] else
    ((List.range ((p.key + p.len - 1) / 4 - p.key / 4 + 1)).map (· + p.key / 4)).filterMap fun k =>
      let old := Memory.read s.mem (4 * k) 4
      if old == Memory.read mem (4 * k) 4 then none else some ⟨k, BitVec.ofNat 32 (leNat old), []⟩

/-- A write to located pieces that left `s` stands in `mem`. -/
def State.written (s : State) (ps : List Piece) (mem : List Host.Cell) : State :=
  { s with mem := mem, olds := s.olds ++ s.changedWords ps mem }

/-- Later drops of an old word. -/
def OldWord.drop (o : OldWord) (ds : List CacheDrop) : OldWord := { o with drops := o.drops ++ ds }

/-- The old words that a leg's stores leave, each with the leg's CINVs that follow its store. -/
def State.storeOlds (s : State) (drops : List (CacheDrop × Nat)) : Nat → List HeldStore → List OldWord
  | _, [] => []
  | n, h :: r =>
    let t := s.store h.pieces h.bytes
    ((s.changedWords h.pieces t.mem).map fun o => o.drop ((drops.filter fun d => decide (n < d.2)).map (·.1)))
      ++ t.storeOlds drops (n + 1) r

/-- R39, R67, R250: a leg's stores and its CINVs at the commit. -/
def State.commitStores (s : State) (w : Wave) (cinvs : List (DWord × Word × Nat)) (st : List HeldStore) : State :=
  let drops := cinvs.map fun x => ((⟨some w.core, w.asid, x.1, x.2.1.toNat⟩ : CacheDrop), x.2.2)
  let o := s.storeOlds drops 0 st
  let t := s.performStores st
  if cinvs.isEmpty && o.isEmpty then t else { t with olds := (s.olds.map fun x => x.drop (drops.map (·.1))) ++ o }

/-! ## Shoot-downs (R378, R379) -/

/-- Does a page of a size at an address overlap `[lo, lo + len)`? -/
def pageOverlaps (va : DWord) (size lo len : Nat) : Bool :=
  let base := va.toNat / pageBytes size * pageBytes size
  decide (base < lo + len) && decide (lo < base + pageBytes size)

/-- R378: a Porter chunk of the ASID that has still to write through translations is read again. -/
def PorterCmd.relocate (asid : BitVec 16) (c : PorterCmd) : PorterCmd :=
  if c.asid == asid && (match c.work with | some xs => xs.any fun x => x.1.leaf.isSome | none => false) then
    { c with work := none } else c

/-- R378, R380: the instruction lines that a shoot-down drops: those of every page that the range overlaps, larger pages whole. -/
def State.shotLines (s : State) (asid : BitVec 16) (lo len : Nat) : List CacheDrop :=
  let first := lo / 65536 * 65536
  ⟨none, asid, BitVec.ofNat 64 first, (lo + len + 65535) / 65536 * 65536 - first⟩
    :: (s.leaves.filter fun l => l.asid == asid && pageOverlaps l.va l.size lo len).map fun l =>
      ⟨none, asid, l.va, pageBytes l.size⟩

/-- R378: take the next sequence number, drop the TLB entries of the range and its instruction lines. Cached data lines are
transparent in this model (log entry 3). -/
def State.shootDown (s : State) (asid : BitVec 16) (lo len : Nat) : State :=
  { s with shootSeq := s.shootSeq + 1, shoots := ⟨s.shootSeq + 1, asid, lo, len⟩ :: s.shoots,
           tlb := s.tlb.filter fun e => !(e.leaf.asid == asid && pageOverlaps e.leaf.va e.leaf.size lo len),
           porter := s.porter.map (PorterCmd.relocate asid),
           olds := s.olds.map fun o => o.drop (s.shotLines asid lo len) }

/-! ## Tokens and records -/

/-- R394: the next token of a core's die. -/
def State.freshToken (s : State) (core : Nat) : State × DWord :=
  let d := core / 128 % 8
  let c := s.tokens[d]'(Nat.mod_lt _ (by decide))
  ({ s with tokens := s.tokens.set d (c + 1) (Nat.mod_lt _ (by decide)) },
    BitVec.ofNat 64 (2 ^ 63 + d * 2 ^ 60 + c % 2 ^ 60))

/-- R406: is the queue usable? -/
def FaultQueue.enabled (q : FaultQueue) : Bool :=
  q.addr != 0 && ((List.range 11).any fun k => q.size.toNat == 64 * 2 ^ k)

/-- R406: has a partition's queue room for one more beside the records on their way to it? -/
def Port.room (p : Port) (i : BitVec 3) : Bool :=
  let q := p.fq[i.toNat]'i.isLt
  q.enabled && q.head + BitVec.ofNat 32 (p.posted.filter (·.fq == some i)).length - q.tail != q.size

/-- R406: the port whose queue takes a partition's records. -/
def State.recPort (s : State) (p : BitVec 3) : PortId :=
  if (s.port0.fq[p.toNat]'p.isLt).addr != 0 then .p0 else .p1

/-- R406: send one record to its place in the queue, behind those on their way. -/
def State.writeRecord (s : State) (r : FRec) : State :=
  let k := s.recPort r.part
  let p := s.port k
  let q := p.fq[r.part.toNat]'r.part.isLt
  let n := q.head + BitVec.ofNat 32 (p.posted.filter (·.fq == some r.part)).length
  s.post k (q.addr + BitVec.ofNat 64 (64 * (n.toNat % q.size.toNat))) r.bytes [] (some r.part)

/-- R406: a record of kind 3 to 6 that finds neither queue nor held place is counted. -/
def State.loseRecord (s : State) (p : BitVec 3) : State :=
  let lose := fun (s : State) (k : PortId) =>
    let po := s.port k
    let q := po.fq[p.toNat]'p.isLt
    let q' : FaultQueue := { q with lost := if q.lost == 0xFFFF_FFFF then q.lost else q.lost + 1 }
    s.setPort k { po with fq := po.fq.set p.toNat q' p.isLt }
  if (s.port0.fq[p.toNat]'p.isLt).enabled then lose s .p0
  else if (s.port1.fq[p.toNat]'p.isLt).enabled then lose s .p1
  else lose (lose s .p0) .p1

/-- R407: the 64 bytes of a record. -/
def recordBytes (kind : Nat) (fcode : BitVec 16) (seq : Word) (faddr key : DWord) (asid : BitVec 16) (unit : Nat)
    (wid : Word) (lrec : DWord) (mask : Mask) (rpc : DWord) : List Byte :=
  leBytes kind 2 ++ leBytes fcode.toNat 2 ++ leBytes seq.toNat 4 ++ leBytes faddr.toNat 8 ++ leBytes key.toNat 8
    ++ leBytes asid.toNat 2 ++ leBytes unit 1 ++ leBytes 0 1 ++ leBytes wid.toNat 4 ++ leBytes lrec.toNat 8
    ++ leBytes mask.toNat 12 ++ leBytes rpc.toNat 8 ++ leBytes 0 4

/-- R406: post a record: into the queue when it has room and nothing is held before it, else into the Guide's store of
4,096 held records; a record of kind 1 or 2 beyond that waits, another is lost. -/
def State.postRecord (s : State) (p : BitVec 3) (kind : Nat) (mk : Word → List Byte) : State :=
  let seq := s.recNum[p.toNat]'p.isLt
  let r : FRec := ⟨p, kind, mk seq⟩
  let held := (s.heldRecs.filter (·.part == p)).length
  let s1 := { s with recNum := s.recNum.set p.toNat (seq + 1) p.isLt }
  if held = 0 && (s.port (s.recPort p)).room p then s1.writeRecord r
  else if held < 4096 then { s1 with heldRecs := s.heldRecs ++ [r] }
  else if kind ≤ 2 then { s1 with waitRecs := s.waitRecs ++ [r] }
  else s.loseRecord p

/-- R405: a wait-table entry for a path; past 4,096 entries of the die it goes to the overflow set. -/
def State.addWait (s : State) (w : Wave) (k : SlotId) (key : DWord) : State :=
  let die := w.core.toNat / 128
  let full := decide (4096 ≤ (s.waits.filter fun e => e.die == die && !e.overflow).length)
  { s with waits := s.waits ++ [⟨key, w.asid, w.part, die, w.id, k, full⟩] }

/-! ## The save area (R323, R324) and the Hamper (R325 to R327) -/

/-- T of R323: the tile footprint, rounded up to 4,096 bytes. -/
def LaunchRec.tileBytes (r : LaunchRec) : Nat := (2048 * r.ocnt + 4096 * r.zcnt + 4095) / 4096 * 4096

/-- FB of R323. -/
def State.frameBase (s : State) (w : Wave) : Nat :=
  w.spb.toNat + 20480 + ((s.recOf w).map LaunchRec.tileBytes).getD 0

/-- R323: does the image of depth `d` fit below the divergence stack? -/
def State.imageFits (s : State) (w : Wave) (d : Nat) : Bool :=
  decide (s.frameBase w + 17408 * (d + 1) + 6144 ≤ w.spl.toNat)

/-- R327: where a Hamper access of save-area bytes of one page goes. -/
def State.savePiece (s : State) (w : Wave) (va : DWord) (n : Nat) (write : Bool) : Except (BitVec 16 × DWord) Piece :=
  match s.leaf? w.asid va with
  | none => .error (0x1001, va)
  | some l =>
    if !l.p then .error (0x1001, va)
    else if l.fmt != 0 || decide (2 ≤ l.loc.toNat) then .error (0x0402, va)
    else if write && !l.w then .error (if l.cw then 0x1003 else 0x0402, va)
    else .ok ⟨l.key va, n, some l⟩

/-- R327: where a Hamper access of save-area bytes goes; an odd tile footprint puts a z tile across two pages (R323). -/
def State.saveArea (s : State) (w : Wave) (va : DWord) (n : Nat) (write : Bool) : Except (BitVec 16 × DWord) (List Piece) := do
  let n0 := min n (65536 - va.toNat % 65536)
  let p ← s.savePiece w va n0 write
  if n = n0 then return [p]
  else return [p, ← s.savePiece w (va + BitVec.ofNat 64 n0) (n - n0) write]

/-- R324: a register record. -/
def regRecord (r : LReg) : List Byte :=
  leBytes r.length 4 ++ leBytes 0 4 ++ (r.flatMap fun x => leBytes x.val.toNat 4)
    ++ leBytes 0 (4 * (96 - r.length)) ++ (r.flatMap fun x => leBytes x.cnt 1) ++ leBytes 0 (96 - r.length)
    ++ leBytes 0 24

/-- R324: a link-vector record. -/
def linkRecord (r : List LinkRun) : List Byte :=
  leBytes r.length 4 ++ leBytes 0 4 ++ (r.flatMap fun x => leBytes x.addr.toNat 8)
    ++ leBytes 0 (8 * (96 - r.length)) ++ (r.flatMap fun x => leBytes x.cnt 1) ++ leBytes 0 (96 - r.length)
    ++ leBytes 0 152

/-- R119, R324: read a register record back; none when a check fails. -/
def readRegRecord (ww : Nat) (b : List Byte) : Option LReg :=
  let n := recNat b 0 4
  let rs : LReg := (List.range n).map fun i => ⟨BitVec.ofNat 32 (recNat b (8 + 4 * i) 4), recNat b (392 + i) 1⟩
  if 1 ≤ n && n ≤ 96 && recZero b 4 4 && recZero b 488 24 && rs.all (fun r => 1 ≤ r.cnt && r.cnt ≤ 96)
      && (rs.map (·.cnt)).sum == ww then some rs else none

/-- R119, R324: read a link-vector record back. -/
def readLinkRecord (ww : Nat) (b : List Byte) : Option (List LinkRun) :=
  let n := recNat b 0 4
  let rs : List LinkRun :=
    (List.range n).map fun i => ⟨BitVec.ofNat 64 (recNat b (8 + 8 * i) 8), recNat b (776 + i) 1⟩
  if 1 ≤ n && n ≤ 96 && recZero b 4 4 && recZero b 872 152 && rs.all (fun r => 1 ≤ r.cnt && r.cnt ≤ 96)
      && (rs.map (·.cnt)).sum == ww then some rs else none

/-- R323: the address of a record. -/
def State.recAddr (s : State) (w : Wave) : SaveRec → DWord
  | .low i => w.spb + BitVec.ofNat 64 (12288 + 512 * i.toNat)
  | .reg d i => BitVec.ofNat 64 (s.frameBase w + 17408 * d + 512 * i.toNat)
  | .link d => BitVec.ofNat 64 (s.frameBase w + 17408 * d + 16384)

/-- The registers of a depth's image, or an empty image past the last. -/
def Regs.img (r : Regs) (d : Nat) : Image := r.imgs.getD d ⟨Vector.replicate 32 [], [], 0xFFFF_FFFF, true⟩

def Regs.setImg (r : Regs) (d : Nat) (i : Image) : Regs := { r with imgs := r.imgs.set d i }

/-- Is a record resident in the run store? -/
def Regs.resident (r : Regs) : SaveRec → Bool
  | .low i => r.lowRes.getLsbD i.toNat
  | .reg d i => (r.img d).res.getLsbD i.toNat
  | .link d => (r.img d).lres

/-- Run slots a record takes (R114). -/
def Regs.slots (r : Regs) : SaveRec → Nat
  | .low i => (r.low[i.toNat]'i.isLt).length
  | .reg d i => ((r.img d).regs[i.toNat]'i.isLt).length
  | .link d => 2 * (r.img d).link.length

/-- Every record of a wave's registers, in the order of R325. -/
def Regs.records (r : Regs) : List SaveRec :=
  ((List.range 16).map fun i => .low (BitVec.ofNat 4 i))
    ++ (List.range r.imgs.length).flatMap fun d =>
        ((List.range 32).map fun i => SaveRec.reg d (BitVec.ofNat 5 i)) ++ (if d = 0 then [] else [.link d])

/-- Is a record in the working set of a path at a depth (R115)? -/
def SaveRec.inSet (d : Nat) : SaveRec → Bool
  | .low _ => d == 0
  | .reg e i => e == d || (e + 1 == d && decide (16 ≤ i.toNat))
  | .link e => e == d && e != 0

/-- Depths of the occupied slots. -/
def Wave.depths (w : Wave) : List Nat :=
  (match w.s0.path with | some p => [p.dep.toNat] | none => [])
    ++ (match w.s1.path with | some p => [p.dep.toNat] | none => [])

/-- Is a record in the wave's working set (R115)? -/
def Wave.inWorkingSet (w : Wave) (r : SaveRec) : Bool := w.depths.any fun d => r.inSet d

/-- Runs of v48 to v63. -/
def Regs.globSlots (r : Regs) : Nat := (r.glob.toList.map (·.length)).sum

/-- Run slots of the working set (R115, R116). -/
def Wave.workingSlots (w : Wave) : Nat :=
  w.regs.globSlots + ((w.regs.records.filter w.inWorkingSet).map w.regs.slots).sum

/-- Run slots of the resident registers (R114). -/
def Wave.residentSlots (w : Wave) : Nat :=
  w.regs.globSlots + ((w.regs.records.filter w.regs.resident).map w.regs.slots).sum

/-- RFREE (R114). -/
def Wave.rfree (w : Wave) : Nat := w.rb - w.residentSlots

/-- Mark a record resident or not. -/
def Regs.setResident (r : Regs) (b : Bool) : SaveRec → Regs
  | .low i =>
    let bit := BitVec.ofNat 16 (2 ^ i.toNat)
    { r with lowRes := if b then r.lowRes ||| bit else r.lowRes &&& ~~~bit }
  | .reg d i =>
    let bit := BitVec.ofNat 32 (2 ^ i.toNat)
    r.setImg d { r.img d with res := if b then (r.img d).res ||| bit else (r.img d).res &&& ~~~bit }
  | .link d => r.setImg d { r.img d with lres := b }

/-- Run slots that the wave's open legs have reserved (R117). -/
def Slot.resv (x : Slot) : Nat := match x.leg with | some l => l.resv | none => 0

def Wave.reserved (w : Wave) : Nat := w.s0.resv + w.s1.resv

/-- Record a stopped Hamper access with its token (R327, R394). -/
def State.stopHamper (s : State) (w : Wave) (acc : HamperAcc) (e : BitVec 16 × DWord) : State × Wave :=
  match w.hamper with
  | some _ => (s, w)
  | none =>
    let (s, tok) := s.freshToken w.core.toNat
    (s, { w with hamper := some ⟨acc, e.1, e.2, tok, false⟩ })

/-- The bytes of a record as it is held (R324). -/
def Regs.recBytes (g : Regs) : SaveRec → List Byte
  | .low i => regRecord (g.low[i.toNat]'i.isLt)
  | .reg d i => regRecord ((g.img d).regs[i.toNat]'i.isLt)
  | .link d => linkRecord (g.img d).link

/-- Spill one record (R325): write it exactly as held and free its slots; a fault, that of a CXL port whose link is down among
them (R419), stops the wave's Hamper traffic. -/
def State.spill (s : State) (w : Wave) (r : SaveRec) : State × Wave :=
  let bytes := w.regs.recBytes r
  match s.saveArea w (s.recAddr w r) bytes.length true with
  | .error e => s.stopHamper w (.spill r) e
  | .ok ps => match s.deadFault ps with
    | some e => (s.markPoison e.2).stopHamper w (.spill r) (e.1, s.recAddr w r)
    | none => ({ s with mem := writePieces s.mem ps bytes }, { w with regs := w.regs.setResident false r })

/-- The candidates of R325 in order. -/
def Wave.candidates (w : Wave) : List SaveRec :=
  w.regs.records.filter fun r => w.regs.resident r && !w.inWorkingSet r

/-- Does an open leg write a record's register? -/
def Wave.writes (w : Wave) (r : SaveRec) : Bool :=
  [w.s0, w.s1].any fun x => match x.leg with
    | some l => l.vw.any fun y => match y.1, r with
      | .low i, .low j => i == j
      | .img d i, .reg e j => d == e && i == j
      | _, _ => false
    | none => false

/-- Spill candidates, oldest depth first, until `need` slots are free beside the resident registers (R117, R325); records
that the operation itself needs, or an open leg writes, are kept. -/
def State.makeRoom (s : State) (w : Wave) (need : Nat) (keep : SaveRec → Bool := fun _ => false) : State × Wave :=
  if w.residentSlots + need ≤ w.rb then (s, w)
  else (w.candidates.filter fun r => !keep r && !w.writes r).foldl (fun sw r =>
    if sw.2.residentSlots + need ≤ sw.2.rb || sw.2.hamper.isSome then sw else sw.1.spill sw.2 r) (s, w)

/-- Spill every candidate (WFLUSH, R328). -/
def State.spillAll (s : State) (w : Wave) : State × Wave :=
  w.candidates.foldl (fun sw r => if sw.2.hamper.isSome then sw else sw.1.spill sw.2 r) (s, w)

/-- What ends a fill: a fault with the record's address and the lines it poisons; a fault that stops the wave's Hamper
traffic, or traffic that stands stopped (R327); or slots that the other slot's leg has reserved (R117), with the slots that
are wanted and what would stand without the wait. -/
inductive FillStop where
  | fault (code : BitVec 16) (addr : DWord) (poison : List Nat)
  | hamper (s : State) (w : Wave)
  | room (need : Nat) (s : State) (w : Wave)

/-- R116, R326: the demand of a fill: the resident records of the working set and of what the fill is for. -/
def Wave.fillDemand (w : Wave) (keep : SaveRec → Bool) : Nat :=
  w.regs.globSlots
    + ((w.regs.records.filter fun r => w.regs.resident r && (w.inWorkingSet r || keep r)).map w.regs.slots).sum

/-- R119, R324: the registers with a record read back into the run store. -/
def Wave.loadRecord (w : Wave) (r : SaveRec) (b : List Byte) : Option Regs :=
  match r with
  | .low i => (readRegRecord w.ww b).map fun x => { w.regs with low := w.regs.low.set i.toNat x i.isLt }.setResident true r
  | .reg d i => (readRegRecord w.ww b).map fun x =>
      (w.regs.setImg d { w.regs.img d with regs := (w.regs.img d).regs.set i.toNat x i.isLt }).setResident true r
  | .link d => (readLinkRecord w.ww b).map fun x => (w.regs.setImg d { w.regs.img d with link := x }).setResident true r

/-- Fill one record (R326, R119) for a leg with `resv` slots reserved. A failed check names the record's address; a fill that
would pass RB is not started; one that finds no free slots spills (R117), and waits where the spill stops (R327). -/
def State.fill (s : State) (w : Wave) (r : SaveRec) (resv : Nat) (keep : SaveRec → Bool) : Except FillStop (State × Wave) :=
  let va := s.recAddr w r
  if w.hamper.isSome then .error (.hamper s w)
  else match s.saveArea w va (match r with | .link _ => 1024 | _ => 512) false with
  | .error e => let x := s.stopHamper w (.fill r) e; .error (.hamper x.1 x.2)
  | .ok ps =>
    match s.readFault ps with
    | some e => .error (.fault e.1 va e.2)
    | none => match w.loadRecord r (readPieces s.mem ps) with
      | none => .error (.fault 0x0302 va [])
      | some g =>
        let w' := { w with regs := g }
        if w.rb < w'.fillDemand keep + resv then .error (.fault 0x0301 va [])
        else
          let x := s.makeRoom w' w.reserved keep
          if x.2.hamper.isSome then .error (.hamper x.1 { x.2 with regs := x.2.regs.setResident false r })
          else if x.2.rb < x.2.residentSlots + w.reserved && decide (resv < w.reserved) then
            .error (.room (w'.residentSlots - w.residentSlots) x.1 x.2)
          else .ok x

/-- The records of a depth's working set that are not resident (R115, R317). -/
def Wave.missing (w : Wave) (d : Nat) : List SaveRec := w.regs.records.filter fun r => r.inSet d && !w.regs.resident r

/-- Fill the records of a path's working set that are not resident (R317, R326). -/
def State.fillSet (s : State) (w : Wave) (d resv : Nat) : Except FillStop (State × Wave) :=
  (w.missing d).foldl
    (fun acc r => match acc with
      | .error e => .error e
      | .ok x => x.1.fill x.2 r resv (SaveRec.inSet d)) (.ok (s, w))

/-- The wave with a slot's path at another depth. -/
def Wave.atDepth (w : Wave) (k : SlotId) (d : BitVec 16) : Wave :=
  w.setSlot k { w.slot k with path := (w.slot k).path.map fun p => { p with dep := d } }

/-- R332, R326: the fills of a RET from depth `d`. WDEP is lowered first, so that the working set is that of the depth below,
and the image of the depth it leaves may make room. -/
def State.fillBelow (s : State) (w : Wave) (k : SlotId) (d : BitVec 16) (resv : Nat) : Except FillStop (State × Wave) :=
  match s.fillSet (w.atDepth k (d - 1)) (d - 1).toNat resv with
  | .ok x => .ok (x.1, x.2.atDepth k d)
  | .error (.hamper s w) => .error (.hamper s (w.atDepth k d))
  | .error (.room n s w) => .error (.room n s (w.atDepth k d))
  | .error e => .error e

/-- R316: the bytes of a stack entry or of a slot (KIND 0 for an empty slot). -/
def entryBytes (p : Path) (join : Option (DWord × Mask)) : List Byte :=
  leBytes p.pc.toNat 8 ++ leBytes p.p.toNat 12 ++ leBytes p.e.toNat 12 ++ leBytes p.dep.toNat 2
    ++ leBytes (if join.isSome then 2 else 1) 1 ++ leBytes (if p.brk.isSome then 1 else 0) 1
    ++ leBytes ((p.brk.map (·.world.toNat)).getD 0) 1 ++ leBytes ((p.brk.map (·.seq.toNat)).getD 0) 3
    ++ leBytes ((join.map (·.1.toNat)).getD 0) 8 ++ leBytes ((join.map (·.2.toNat)).getD 0) 12 ++ leBytes 0 4

/-- R316: read an entry back: its path and join, or an empty slot (KIND 0); none for a value outside its field's range. A PC
has bits 1 and 0 zero (R65), but for a computed target `jump` whose check is still to come (R322). -/
def readEntry (ww : Nat) (jump : Option DWord) (b : List Byte) (o : Nat) : Option (Option (Path × Option (DWord × Mask))) :=
  let d := fun k n => recNat b (o + k) n
  let brk : Option Bracket := if d 35 1 = 1 then some ⟨BitVec.ofNat 8 (d 36 1), BitVec.ofNat 24 (d 37 3)⟩ else none
  let p : Path := ⟨BitVec.ofNat 64 (d 0 8), BitVec.ofNat 96 (d 8 12), BitVec.ofNat 96 (d 20 12), BitVec.ofNat 16 (d 32 2), brk, none⟩
  let m : Mask := BitVec.ofNat 96 (d 48 12)
  if d 60 4 != 0 || 1 < d 35 1 then none
  else if d 34 1 = 0 then some none
  else if (d 35 1 == 0 && d 37 3 != 0) || (d 35 1 == 1 && d 37 3 == 0)
      || (p.pc.extractLsb' 0 2 != 0 && jump != some p.pc) || p.p &&& ~~~Mask.below ww != 0 || p.p == 0
      || p.e &&& ~~~p.p != 0 then none
  else match d 34 1 with
    | 1 => some (some (p, none))
    | 2 => if d 40 8 % 4 = 0 then some (some (p, some (BitVec.ofNat 64 (d 40 8), m))) else none
    | _ => none

/-- R322: a path that comes back keeps the target check its first leg has still to take. -/
def Path.keepTarget (p : Path) (old : Option Path) : Path :=
  { p with jumped := match old with | some o => if o.pc == p.pc then o.jumped else none | none => none }

/-- R316: the address of entry `i`. -/
def Wave.entryAddr (w : Wave) (i : Nat) : DWord := w.spl - BitVec.ofNat 64 (64 * (i + 1))

/-- R316: what the Hamper writes as an entry: an entry that moves up is copied, a new one comes from the slot. -/
def State.entryNow (s : State) (w : Wave) (e : StackEntry) : List Byte :=
  match e.mem with
  | none => entryBytes e.path e.join
  | some i => match s.saveArea w (w.entryAddr i) 64 false with
    | .ok ps => readPieces s.mem ps
    | .error _ => entryBytes e.path e.join

/-- R316, R317: the Hamper writes the divergence stack's entries that memory does not hold in their places; a fault stops
the wave's Hamper traffic (R327), and an entry that could not be written is held. -/
def State.syncStack (s : State) (w : Wave) : State × Wave :=
  let r := (w.stack.zipIdx).foldl (fun (x : (State × Wave) × List StackEntry) e =>
    let e' := { e.1 with held := e.1.held || e.1.mem.isNone }
    if e.1.mem == some e.2 then (x.1, x.2 ++ [e.1])
    else if x.1.2.hamper.isSome then (x.1, x.2 ++ [e'])
    else match x.1.1.saveArea x.1.2 (x.1.2.entryAddr e.2) 64 true with
      | .error c => (x.1.1.stopHamper x.1.2 .entries c, x.2 ++ [e'])
      | .ok ps => match x.1.1.deadFault ps with
        | some d => ((x.1.1.markPoison d.2).stopHamper x.1.2 .entries (d.1, x.1.2.entryAddr e.2), x.2 ++ [e'])
        | none => (({ x.1.1 with mem := writePieces x.1.1.mem ps (x.1.1.entryNow x.1.2 e.1) }, x.1.2),
          x.2 ++ [{ e.1 with mem := some e.2, held := false }])) ((s, w), [])
  (r.1.1, { r.1.2 with stack := r.2 })

/-! ## Slots, rotation and paths -/

/-- R391: what a path takes with it when it leaves its slot: the faults due after its last leg. -/
def Slot.dueOf (x : Slot) : Slot :=
  let f := { HFrame.none with swcode := x.frame.swcode, defer := x.frame.defer, dmask := x.frame.dmask,
                              daddr := x.frame.daddr }
  { Slot.empty with frame := f, swaddr := x.swaddr, qaddr := x.qaddr, qtag := x.qtag, pend := x.pend, hmask := x.hmask,
                    haddr := x.haddr, sup := x.sup }

/-- Faults due after the last leg of a path that joins the slot's path (R318, R391). -/
def Slot.addDue (x d : Slot) : Slot :=
  if d.frame.defer = 0 && d.pend = 0 then x
  else if x.frame.defer = 0 then
    let f := { x.frame with swcode := d.frame.swcode, defer := d.frame.defer, dmask := d.frame.dmask, daddr := d.frame.daddr }
    { x with frame := f, swaddr := d.swaddr, qaddr := d.qaddr, qtag := d.qtag, pend := x.pend ||| d.pend, hmask := d.hmask,
             haddr := d.haddr, sup := x.sup ||| d.sup }
  else { x with frame := { x.frame with defer := x.frame.defer ||| d.frame.defer }, pend := x.pend ||| d.pend,
                sup := x.sup ||| d.sup }

/-- A path may name a depth that no call has made, where a program has rewritten WDEP in the save area: the depth's image then
stands there and nothing of it is resident, so that a fill checks it (R119, R317). -/
def Wave.reach (w : Wave) (d : Nat) : Wave :=
  if d < w.regs.imgs.length then w
  else
    let img : Image := ⟨Vector.replicate 32 [], [], 0, false⟩
    { w with regs := { w.regs with imgs := w.regs.imgs ++ List.replicate (d + 1 - w.regs.imgs.length) img } }

/-- A path takes a slot (R317): the leg count starts again. -/
def Wave.take (w : Wave) (k : SlotId) (p : Path) (bar : List (BitVec 6)) (due : Slot := Slot.empty)
    (took : Option Nat := none) : Wave :=
  w.setSlot k { due with path := some p, waitBar := bar, took := took }

/-- Is it an entry that may take a slot: of KIND 1, and not held (R317)? -/
def StackEntry.runs (e : StackEntry) : Bool := e.join.isNone && !e.held

/-- R317: the entry that an empty slot takes: the oldest that runs. With no other path left it is a held one, whose fault the
path then takes before its first leg. -/
def Wave.nextEntry (w : Wave) (k : SlotId) : Option Nat :=
  match w.stack.findIdx? StackEntry.runs with
  | some i => some i
  | none => if (w.slot k.other).path.isSome then none else w.stack.findIdx? (·.join.isNone)

/-- R317: an empty slot takes an entry of the stack, if there is one. -/
def Wave.refill (w : Wave) (k : SlotId) : Wave :=
  match w.nextEntry k with
  | none => w.setSlot k Slot.empty
  | some i =>
    match w.stack[i]? with
    | some e => { w with stack := w.stack.eraseIdx i }.take k e.path e.waitBar e.due e.mem
    | none => w.setSlot k Slot.empty

/-- Has the stack an entry that runs? -/
def Wave.hasRunning (w : Wave) : Bool := w.stack.any StackEntry.runs

/-- R311: the slot's path goes to the newest end and the oldest running entry takes the slot. -/
def Wave.rotate (w : Wave) (k : SlotId) : Wave :=
  match (w.slot k).path with
  | none => w
  | some p =>
    let e : StackEntry := ⟨p, none, (w.slot k).waitBar, (w.slot k).dueOf, none, false⟩
    { w with stack := w.stack ++ [e] }.refill k

/-- An entry goes back to its place among the entries that memory holds. -/
def Wave.putBack (w : Wave) (e : StackEntry) : Wave :=
  let j := w.stack.findIdx fun x => match x.mem, e.mem with
    | some a, some b => decide (b < a)
    | _, _ => true
  { w with stack := w.stack.take j ++ e :: w.stack.drop j }

/-- R317: the Hamper reads the entry whose path has taken a slot. An entry it cannot read is held, unless the wave has no
other path: then the slot keeps the path, and the fault surfaces before its first leg. Log entry 27: bytes that are no entry
of KIND 1 leave the path as it is. -/
def State.readTaken (s : State) (w : Wave) (k : SlotId) : State × Wave :=
  let x := { w.slot k with took := none }
  match (w.slot k).took, x.path with
  | some i, some p =>
    let back := fun (y : State × Wave) =>
      (y.1, if (w.slot k.other).path.isNone then y.2.setSlot k x
        else (y.2.putBack ⟨p, none, x.waitBar, x.dueOf, some i, true⟩).setSlot k Slot.empty)
    if w.hamper.isSome then back (s, w)
    else match s.saveArea w (w.entryAddr i) 64 false with
      | .error e => back (s.stopHamper w (.take k i) e)
      | .ok ps => match s.readFault ps with
        | some e => back ((s.markPoison e.2).stopHamper w (.take k i) (e.1, w.entryAddr i))
        | none => (s, match readEntry w.ww (x.path.bind (·.jumped)) (readPieces s.mem ps) 0 with
          | some (some (q, none)) => (w.reach q.dep.toNat).setSlot k { x with path := some (q.keepTarget x.path) }
          | _ => w.setSlot k x)
  | _, _ => (s, w.setSlot k x)

/-- R316, R317: what the Hamper does after the paths of a wave have changed: it reads the entries taken and writes those
that memory does not hold. -/
def State.settleStack (s : State) (w : Wave) : State × Wave :=
  let x := s.readTaken w .s0
  let x := x.1.readTaken x.2 .s1
  x.1.syncStack x.2

/-- An empty slot takes an entry that waits (R317). -/
def Wave.refillEmpty (w : Wave) (k : SlotId) : Wave := if (w.slot k).path.isNone then w.refill k else w

/-- R317: the entry that could not be read in a place is read again: from the stack, or for the slot that has kept its path. -/
def Wave.takeAgain (w : Wave) (k : SlotId) (i : Nat) : Wave :=
  if (w.slot k).path.isNone || w.stack.any fun e => e.held && e.mem == some i then w
  else w.setSlot k { w.slot k with took := some i }

/-- R327: the Hamper goes on with a stopped access, before any other traffic of the wave. The entries that were held wait no
longer (R317). -/
def State.resumeHamper (s : State) (w : Wave) : State × Wave :=
  match w.hamper with
  | none => (s, w)
  | some h =>
    let w := { w with hamper := none }
    let x := match h.acc with
      | .spill r => if w.candidates.contains r then s.spill w r else (s, w)
      | .fill r => if w.regs.resident r then (s, w) else match s.fill w r 0 (· == r) with
        | .ok x => x
        | .error (.hamper s w) => (s, w)
        | .error _ => (s, w)
      | .take k i => (s, w.takeAgain k i)
      | .entries | .image => (s, w)
    if x.2.hamper.isSome then x
    else
      let y := x.1.settleStack { x.2 with stack := x.2.stack.map fun e => { e with held := false } }
      if y.2.hamper.isSome then y else y.1.settleStack ((y.2.refillEmpty .s0).refillEmpty .s1)

/-- The lanes of every path of a wave: the live lanes (R314). -/
def Wave.live (w : Wave) : Mask :=
  (match w.s0.path with | some p => p.p | none => 0) ||| (match w.s1.path with | some p => p.p | none => 0)
    ||| w.stack.foldl (fun m e => m ||| e.path.p) 0

/-! ## The window (R27, R320) -/

/-- R320: write the link vector of depth `d + 1` on the lanes of P, making the depth's image if no path has made it. -/
def Wave.pushLink (w : Wave) (d : Nat) (p : Mask) (addrs : Nat → DWord) : Wave :=
  let flat := LReg.flat w.ww 0
  let regs := if w.regs.imgs.length ≤ d + 1 then
      { w.regs with imgs := w.regs.imgs ++ [⟨Vector.replicate 32 flat, linkRuns (List.replicate w.ww 0), 0xFFFF_FFFF, true⟩] }
    else w.regs
  let i := regs.img (d + 1)
  let old := linkExpand i.link
  -- R411: a link vector that is written whole holds no poison
  let regs := if p == Mask.below w.ww || w.regs.imgs.length ≤ d + 1 then
    { regs with bad := regs.bad.filter fun b => b.1 != .link (d + 1) } else regs
  let link := (List.range w.ww).map fun l => if p.getLsbD l then addrs l else laneAddr old l
  { w with regs := regs.setImg (d + 1) { i with link := linkRuns link, lres := true } }

/-- Runs that a call at depth `d` reserves (R116, R320): the new link vector's, two slots a run, and 32 registers when
the image is made. -/
def Wave.callSlots (w : Wave) (d : Nat) (p : Mask) (addrs : Nat → DWord) : Nat :=
  let w' := w.pushLink d p addrs
  2 * (w'.regs.img (d + 1)).link.length + (if w.regs.imgs.length ≤ d + 1 then 32 else 0)

/-- R320: may a call on the lanes of a path write its link vector without a fill? -/
def Wave.linkHere (w : Wave) (p : Path) : Bool :=
  decide (w.regs.imgs.length ≤ p.dep.toNat + 1) || w.regs.resident (.link (p.dep.toNat + 1)) || p.p == Mask.below w.ww

/-- R320, R326: a call on some of the lanes of a spilled link vector needs the other lanes' addresses: the Hamper fills it. -/
def State.fillLink (s : State) (w : Wave) (p : Path) (resv : Nat) : Except FillStop (State × Wave) :=
  if w.linkHere p then .ok (s, w) else s.fill w (.link (p.dep.toNat + 1)) resv (· == .link (p.dep.toNat + 1))

/-- R320: what refuses a call at depth `d` before anything commits. -/
def State.callRefused (s : State) (w : Wave) (d : Nat) : Bool :=
  d == 65535 || !s.imageFits w (d + 1)

/-! ## Taking a fault and returning from it -/

/-- R393: the supervisor page. -/
def supervisorPage : DWord := 0x000F_FFFF_FFFF_0000

def inSupervisor (pc : DWord) : Bool := pc >>> 16 == supervisorPage >>> 16

/-- R393: is the slot's path in its handler? -/
def Slot.inHandler (x : Slot) : Bool :=
  x.frame.active && (match x.path with | some p => inSupervisor p.pc | none => false)

/-- R36, R38: a leg begins. -/
def Leg.fresh (pc : DWord) (e : Mask) (g : Regs) (tprog : Word) : Leg :=
  { start := pc, next := pc, count := 0, memCount := 0, e0 := e, snap := g, temps := Vector.replicate 8 (LReg.flat 96 0),
    sw := [], aw := [], vw := [], resv := 0, stores := [], csat := 0, cftz := 0, cnan := 0, pwb := false, poisoned := 0,
    poisonAddr := 0, out := [], crossed := [], loads := [], cls := 0, passed := false, tprog := tprog, short := false,
    closing := none, closingAt := 0, parked := false, sent := false, reply := none, failed := 0, failBit := 0, failDone := 0,
    fences := [], cinvs := [], cwait := none, cstage := 0, cseq := 0 }

/-- Drop the slot's open leg (R39). -/
def Slot.discard (x : Slot) : Slot := { x with leg := none, wait := none }

/-- R348: a discarded leg takes its arrival at a GBAR with it. -/
def Slot.arrived (x : Slot) : Bool := match x.leg with
  | some l => l.closing == some .gbar
  | none => false

/-- Drop a slot's open leg with what it has told others (R39, R348). -/
def Wave.discard (w : Wave) (k : SlotId) : Wave :=
  { w with gbarAt := w.gbarAt && !(w.slot k).arrived }.setSlot k (w.slot k).discard

/-- A leg begins again. That of a TRAP whose wait-table entry has been made is neither committed nor discarded (R398, R312): it
keeps the registers that it began with, and its accesses are made again. -/
def Wave.restart (w : Wave) (k : SlotId) : Wave :=
  match (w.slot k).leg with
  | some leg =>
    if (w.slot k).frame.waiting then w.setSlot k { w.slot k with
      leg := some { Leg.fresh leg.start leg.e0 leg.snap leg.tprog with crossed := leg.crossed }, wait := none }
    else w.discard k
  | none => w.discard k

/-- R395: does a fault of the slot wait for the other slot's handler? -/
def Wave.faultHolds (w : Wave) (k : SlotId) : Bool :=
  (w.slot k.other).inHandler && (match (w.slot k).path with | some p => !inSupervisor p.pc | none => false)

/-- A fault's registers (R394 step 2). -/
def Regs.setFault (r : Regs) (code : BitVec 16) (addr tok : DWord) : Regs :=
  { r with fcode := code.zeroExtend 32, faddr := addr, ftok := tok }

/-- R411: the error of a register has been found; later consumers take 0x2002. -/
def Regs.foundError (r : Regs) (n : Option RegName) : Regs :=
  match n with
  | none => r
  | some n => { r with bad := r.bad.map fun x => if x.1 == n then (n, true) else x }

/-- R396: a double fault: the leg is discarded, FCODE, FADDR and FTOK written, a wait-table entry made under the fresh
token, a record of kind 2 posted, and the path parks. -/
def State.doubleFault (s : State) (w : Wave) (k : SlotId) (code : BitVec 16) (addr : DWord) (mask : Mask) : State :=
  let (s, tok) := s.freshToken w.core.toNat
  let w := w.discard k
  let x := w.slot k
  let pc := match x.path with | some p => p.pc | none => 0
  let w := { w with regs := w.regs.setFault code addr tok }.setSlot k
    { x with dead := true, frame := { x.frame with waiting := true, waitkey := tok, woken := false } }
  let lrec := match s.launch? w.launch with | some l => l.addr | none => 0
  let s := (s.setWave w).addWait w k tok
  s.postRecord w.part 2 fun seq =>
    recordBytes 2 code seq addr tok w.asid (match k with | .s0 => 0 | .s1 => 1) w.wid lrec mask pc

/-- R394: can the handler's entry be fetched? -/
def State.handlerFetch (s : State) (w : Wave) : Bool :=
  match s.translate w.asid supervisorPage 4 .fetch with
  | .ok p => (s.readFault [p]).isNone
  | .error _ => false

/-- R116: the demand of a delivery's reservation. -/
def Wave.deliveryFits (w : Wave) (d : Nat) (p : Mask) (rpc : DWord) : Bool :=
  decide (w.workingSlots + w.callSlots d p (fun _ => rpc) ≤ w.rb)

/-- R149: the Sieve keeps nothing of a leg that is discarded. -/
def State.forgetSieve (s : State) (w : Wave) (k : SlotId) : State :=
  let c := s.core w.core.toNat
  let r : SieveReq := ⟨w.id, k, w.quad⟩
  if c.sieveGrant == some r then s.setCore { c with sieveGrant := none }
  else if c.sieveQ.contains r then s.setCore { c with sieveQ := c.sieveQ.filter (· != r) }
  else s

/-- R378, R379: what a slot's leg has located before a shoot-down of its ASID: such a leg, unless it has sent its side effect,
begins again, so that no access of it goes through the mapping as it was. -/
def Leg.located (leg : Leg) : Bool :=
  !leg.sent && (!leg.stores.isEmpty || !leg.loads.isEmpty || (match leg.closing with
    | some (.atomic ..) | some (.claim ..) => true
    | _ => false))

def State.restartLegs (s : State) (asid : BitVec 16) (keep : Option (Nat × SlotId)) : State :=
  let one := fun (s : State) (id : Nat) (k : SlotId) => match s.wave? id with
    | none => s
    | some w =>
      if w.asid == asid && keep != some (id, k) && (match (w.slot k).leg with | some leg => leg.located | none => false) then
        (s.forgetSieve w k).setWave (w.restart k)
      else s
  s.waves.foldl (fun s w => one (one s w.id .s0) w.id .s1) s

/-- R378: a shoot-down waits for the accesses of its ASID that have been sent and are not answered. -/
def State.shootHeld (s : State) (asid : BitVec 16) : Bool :=
  let out := fun (x : Slot) => match x.leg with
    | some leg => leg.sent && (match leg.closing with | some (.atomic ..) | some (.claim ..) => true | _ => false)
    | none => false
  s.waves.any fun w => w.asid == asid && (out w.s0 || out w.s1)

/-- R117, R394: room for the link vector of a delivery. The other slot's leg, where only its reservation is in the way and it
has sent nothing, begins again (log entry 75). -/
def State.roomForCall (s : State) (w : Wave) (k : SlotId) (need : Nat) (keep : SaveRec → Bool) : State × Wave :=
  let o := w.slot k.other
  let x := s.makeRoom w (need + o.resv) keep
  if x.2.rb < x.2.residentSlots + need + o.resv && x.2.hamper.isNone && !(match o.leg with | some l => l.sent | none => false) then
    (x.1.forgetSieve x.2 k.other, x.2.restart k.other)
  else x

/-- R394: what a delivery does: the frame, FCODE, FADDR and FTOK, the CALL to the supervisor page, E. -/
def State.enterHandler (s : State) (w : Wave) (k : SlotId) (p : Path) (t : Trap) (resume : DWord) : State :=
  let (s, tok) := match t.tok with
    | some tok => (s, tok)
    | none => s.freshToken w.core.toNat
  let (s, w) := s.roomForCall w k (w.callSlots p.dep.toNat p.p fun _ => resume) (· == .link (p.dep.toNat + 1))
  let x := w.slot k
  let w := { w with regs := w.regs.setFault t.code t.addr tok }.pushLink p.dep.toNat p.p fun _ => resume
  let frame := { x.frame with
    rpc := resume, se := p.e, sdep := p.dep, active := true, defer := 0, fmask := t.mask &&& p.p, jumped := p.jumped }
  s.setWave (w.setSlot k { x with
    frame := frame, pend := x.pend ||| x.frame.defer,
    path := some { p with pc := supervisorPage, e := t.mask &&& p.p, dep := p.dep + 1, jumped := none } })

/-- R391, R394 to R396: A PATH TAKES A FAULT. The slot's open leg is discarded. A fault of a leg in the supervisor page,
or one that cannot be delivered, is a double fault. A fault while the other slot is in its handler parks the slot until
that handler's SVRET. Otherwise the handler frame receives the resume address, E and WDEP; FCODE, FADDR and FTOK are
written; the path acts as a CALL to the supervisor page on the lanes of P, spills that this needs included, and E becomes
the fault mask. Faults that are
still due after the last leg wait in `pend` until the return (R391: the others follow one per leg boundary). -/
def State.takeFault (s : State) (w : Wave) (k : SlotId) (t : Trap) (resume : DWord) : State :=
  let s := s.forgetSieve w k
  match (w.slot k).path with
  | none => (s.markPoison t.poison).setWave w
  | some p =>
    if w.faultHolds k then
      let w := w.discard k
      s.setWave (w.setSlot k { w.slot k with held := true })
    else
      let s := s.markPoison t.poison
      let w := { w with regs := w.regs.foundError t.reg }.discard k
      if t.sup.getD (inSupervisor p.pc) || s.callRefused w p.dep.toNat || !s.handlerFetch w
          || !w.deliveryFits p.dep.toNat p.p resume then
        s.doubleFault w k t.code t.addr t.mask
      else match s.fillLink w p 0 with
      | .ok (s, w) => s.enterHandler w k p t resume
      | .error (.room _ s w) => s.enterHandler w k p t resume
      | .error _ => s.doubleFault w k t.code t.addr t.mask

/-- R327: a stopped Hamper access surfaces on the path of a slot. -/
def State.reportHamper (s : State) (w : Wave) (k : SlotId) (p : Path) : State :=
  match w.hamper with
  | none => s.setWave w
  | some h =>
    let w := if w.faultHolds k then w else { w with hamper := some { h with reported := true } }
    s.takeFault w k { code := h.code, addr := h.addr, mask := p.e, tok := some h.tok } p.pc

/-- R327: after the SVRET of the handler that a stopped access was reported to, the Hamper goes on. -/
def State.hamperGate (s : State) (w : Wave) : State × Wave :=
  match w.hamper with
  | some h => if h.reported && !w.s0.inHandler && !w.s1.inHandler then s.resumeHamper w else (s, w)
  | none => (s, w)

/-- R399: THE RETURN FROM A FAULT on the path of a slot: PC, E and WDEP come back from the frame, which becomes
inactive; a slot that waited for this handler may issue again (R395). -/
def Wave.svret (w : Wave) (k : SlotId) : Wave :=
  let x := w.slot k
  match x.path with
  | none => w
  | some p =>
    let w := (w.reach x.frame.sdep.toNat).setSlot k { x with
      path := some { p with pc := x.frame.rpc, e := x.frame.se &&& p.p, dep := x.frame.sdep, jumped := x.frame.jumped },
      frame := { x.frame with active := false, defer := x.frame.defer ||| x.pend }, pend := 0 }
    w.setSlot k.other { w.slot k.other with held := false }

end Sys2Proof.Machine
end

