-- ==== Sys2Proof/Machine/Operands.lean ====
section
/-! DEFINITION. Reading and writing operands inside a leg: scalar, address, mask and lane registers, temporaries,
the immediate, 64-bit pairs, and the reservation of run slots (spec/02_wave_state.md R25 to R30, R38;
spec/06_runs.md R105, R106, R110, R116). -/

namespace Sys2Proof.Machine

/-- What an instruction sees as it issues: the state, its wave, slot, path and open leg, and its own address. -/
structure Ctx where
  s : State
  w : Wave
  k : SlotId
  path : Path
  leg : Leg
  pc : DWord

/-- R391: a fault of the whole instruction: the mask is the path's E as the leg began. -/
def Ctx.trap (c : Ctx) (code : BitVec 16) (addr : DWord) : Trap := { code := code, addr := addr, mask := c.leg.e0 }

/-- A fault with FADDR at the instruction itself. -/
def Ctx.trapHere (c : Ctx) (code : BitVec 16) : Trap := c.trap code c.pc

/-- R411: reading a register whose error nobody has found takes 0x2001, a poisoned one 0x2002. -/
def Ctx.clean (c : Ctx) (n : RegName) : Except Trap Unit :=
  match c.w.regs.bad.find? (·.1 == n) with
  | none => .ok ()
  | some x => .error { code := if x.2 then 0x2002 else 0x2001, addr := Config.poisonAddr c.s.tick, mask := c.leg.e0,
                       reg := some n }

/-- R23, R25: a scalar register as the leg began; s0 reads zero, s61 to s63 read E. -/
def Regs.readS (g : Regs) (e : Mask) (r : SReg) : Word :=
  if h : r.toNat < 61 then (if r.toNat = 0 then 0 else g.s[r.toNat]'h)
  else e.group (r.toNat - 61)

def Ctx.getS (c : Ctx) (r : SReg) : Except Trap Word := do
  c.clean (.s r)
  return c.leg.snap.readS c.leg.e0 r

/-- An address register as the leg began. -/
def Ctx.getA (c : Ctx) (r : AReg) : Except Trap DWord := do
  c.clean (.a r)
  return c.leg.snap.a[r.toNat]'r.isLt

/-- R25: the mask operand `sN.m`. -/
def Ctx.getM (c : Ctx) (n : MBase) : Except Trap Mask := do
  let g0 ← c.getS n
  let g1 ← c.getS (n + 1)
  let g2 ← c.getS (n + 2)
  return Mask.ofGroups g2 g1 g0

/-- R38: a pending scalar result. -/
def Ctx.setS (c : Ctx) (r : SReg) (v : Word) : Ctx := { c with leg := { c.leg with sw := (r, v) :: c.leg.sw } }

/-- R38: a pending address result. -/
def Ctx.setA (c : Ctx) (r : AReg) (v : DWord) : Ctx := { c with leg := { c.leg with aw := (r, v) :: c.leg.aw } }

/-- R134: a pending mask result. -/
def Ctx.setM (c : Ctx) (n : MBase) (m : Mask) : Ctx :=
  ((c.setS n (m.group 0)).setS (n + 1) (m.group 1)).setS (n + 2) (m.group 2)

/-! ## Lane registers -/

/-- R27: where a lane register's name leads at a depth. -/
def vkey (d : Nat) (r : VReg) : VKey :=
  let n := r.toNat
  if n < 16 then (if d = 0 then .low (BitVec.ofNat 4 n) else .img (d - 1) (BitVec.ofNat 5 (16 + n)))
  else if n < 48 then .img d (BitVec.ofNat 5 (n - 16))
  else .glob (BitVec.ofNat 4 (n - 48))

/-- The lane register a key names. -/
def Regs.getV (g : Regs) : VKey → LReg
  | .low i => g.low[i.toNat]'i.isLt
  | .img d i => (g.img d).regs[i.toNat]'i.isLt
  | .glob i => g.glob[i.toNat]'i.isLt

def Regs.setV (g : Regs) (k : VKey) (r : LReg) : Regs :=
  match k with
  | .low i => { g with low := g.low.set i.toNat r i.isLt }
  | .img d i => g.setImg d { g.img d with regs := (g.img d).regs.set i.toNat r i.isLt }
  | .glob i => { g with glob := g.glob.set i.toNat r i.isLt }

def Ctx.key (c : Ctx) (r : VReg) : VKey := vkey c.path.dep.toNat r

/-- A lane source: its lanes and the boundaries it adds (R105). -/
structure Lanes where
  vals : List Word
  bnd : Mask

/-- A 64-bit lane source (R110). -/
structure Lanes64 where
  vals : List DWord
  bnd : Mask

/-- R71, R38, R30: a 32-bit lane source. -/
def Ctx.lanes (c : Ctx) (x : Sel) (imm : Word) : Except Trap Lanes :=
  match x with
  | .v r => do
    c.clean (.v (c.key r))
    let g := c.leg.snap.getV (c.key r)
    return ⟨g.expand, g.bounds⟩
  | .t r => .ok ⟨(c.leg.temps[r.toNat]'r.isLt).expand, (c.leg.temps[r.toNat]'r.isLt).bounds⟩
  | .s r => do return ⟨List.replicate c.w.ww (← c.getS r), 0⟩
  | .imm => .ok ⟨List.replicate c.w.ww imm, 0⟩

/-- The next register of a pair (R28). -/
def selNext : Sel → Sel
  | .v r => .v (r + 1)
  | .t r => .t (r + 1)
  | .s r => .s (r + 1)
  | .imm => .imm

/-- R28, R72: a 64-bit lane source; the immediate is sign-extended for `.i64` and zero-extended for `.n64`. -/
def Ctx.lanes64 (c : Ctx) (x : Sel) (imm : Word) (signed : Bool) : Except Trap Lanes64 :=
  match x with
  | .imm => .ok ⟨List.replicate c.w.ww (if signed then imm.sext else imm.zext), 0⟩
  | x => do
    let lo ← c.lanes x imm
    let hi ← c.lanes (selNext x) imm
    return ⟨List.zipWith (fun a b => DWord.mk b a) lo.vals hi.vals, lo.bnd ||| hi.bnd⟩

/-- A destination's value before the instruction (R105): an earlier write of the leg, or the value from before it. -/
def Ctx.oldDst (c : Ctx) (x : Sel) : LReg :=
  match x with
  | .v r =>
    match c.leg.vw.find? (·.1 == c.key r) with
    | some e => e.2
    | none => c.leg.snap.getV (c.key r)
  | .t r => c.leg.temps[r.toNat]'r.isLt
  | _ => []

/-- R116, R117: reserve run slots for a write. A demand above RB raises 0x0301; otherwise the Hamper spills what the
reservation needs, and where the slots are still not free the instruction is held up: by the other slot's reservation, or by a
spill that has stopped on a fault. Log entry 73: a handler's leg goes on, since no spill is made before it returns (R327). -/
def Ctx.reserve (c : Ctx) (n : Nat) : Except Trap Ctx :=
  let resv := c.leg.resv + n
  let need := resv + (c.w.slot c.k.other).resv
  if c.w.rb < c.w.workingSlots + resv then .error (c.trapHere 0x0301)
  else
    let c := { c with leg := { c.leg with resv := resv } }
    if c.w.residentSlots + need ≤ c.w.rb then .ok c
    else
      let (s, w) := c.s.makeRoom c.w need
      let short := decide (w.rb < w.residentSlots + need) && (w.hamper.isNone || !(w.slot c.k).inHandler)
      .ok { c with s := s, w := w, leg := { c.leg with short := c.leg.short || short } }

/-- What a load of the leg has read (log entry 74). -/
def Ctx.noteLoads (c : Ctx) (ps : List (List Piece)) : Ctx :=
  { c with leg := { c.leg with loads := c.leg.loads ++ ps.map fun p => (p, readPieces c.s.mem p) } }

/-- Is a lane below WW inactive? -/
def Ctx.partialMask (c : Ctx) : Bool := c.leg.e0 &&& Mask.below c.w.ww != Mask.below c.w.ww

/-- R105, R106: the run form of a result: the sources' boundaries, the mask's, and the destination's where a lane is
inactive. -/
def Ctx.result (c : Ctx) (x : Sel) (vals : List Word) (bnd : Mask) : LReg :=
  let old := c.oldDst x
  buildRuns (bnd ||| maskBounds c.leg.e0 ||| (if c.partialMask then old.bounds else 0))
    (mergeLanes c.leg.e0 vals old.expand)

/-- Put a result into a lane destination. -/
def Ctx.putV (c : Ctx) (x : Sel) (r : LReg) : Ctx :=
  match x with
  | .v n => { c with leg := { c.leg with vw := (c.key n, r) :: c.leg.vw.filter (·.1 != c.key n) } }
  | .t n => { c with leg := { c.leg with temps := c.leg.temps.set n.toNat r n.isLt } }
  | _ => c

def selIsV : Sel → Bool
  | .v _ => true
  | _ => false

/-- Write a 32-bit lane result whose runs are known as it issues (R106, R116). -/
def Ctx.setLanes (c : Ctx) (x : Sel) (vals : List Word) (bnd : Mask) : Except Trap Ctx := do
  let r := c.result x vals bnd
  let c ← if selIsV x then c.reserve r.length else .ok c
  return c.putV x r

/-- Write a 64-bit lane result; each half merges on its own over the boundaries of both (R110). -/
def Ctx.setLanes64 (c : Ctx) (x : Sel) (vals : List DWord) (bnd : Mask) : Except Trap Ctx := do
  let b := bnd ||| (if c.partialMask then (c.oldDst x).bounds ||| (c.oldDst (selNext x)).bounds else 0)
  let lo := c.result x (vals.map DWord.lo) b
  let hi := c.result (selNext x) (vals.map DWord.hi) b
  let c ← if selIsV x then c.reserve (lo.length + hi.length) else .ok c
  return (c.putV x lo).putV (selNext x) hi

/-- R116: reserve for results that are not known as the instruction issues: WW slots a register. -/
def Ctx.reserveUnknown (c : Ctx) (x : Sel) (regs : Nat) : Except Trap Ctx :=
  if selIsV x then c.reserve (regs * c.w.ww) else .ok c

/-- Write a lane result after `reserveUnknown`: one segment a lane. R105 gives that form to the instructions that name
R109 or R238, and VLDP, VATOM and QNEW, which name neither, take it too (log entry 72). -/
def Ctx.fillLanes (c : Ctx) (x : Sel) (vals : List Word) : Ctx := c.putV x (c.result x vals perLane)

/-- Active lanes of the instruction, in increasing order (R38, R24). -/
def Ctx.active (c : Ctx) : List Nat := lanesOf c.leg.e0 c.w.ww

end Sys2Proof.Machine
end

