-- ==== Sys2Proof/WellFormed.lean ====
section
/-! DEFINITION. Which instructions are well formed: the conditions that spec/04_encoding.md R69 to R81 and the
entries of the instructions put on their fields. A word that breaks one is an undefined encoding (R81). -/

namespace Sys2Proof

/-- The control registers of R32: `some true` for a 64-bit register, `some false` for any other, `none` for a number
that is not in the table. -/
def csrWide (n : BitVec 12) : Option Bool :=
  match n.toNat with
  | 0x000 | 0x001 | 0x002 | 0x003 | 0x004 | 0x005 | 0x006 | 0x007 => some false
  | 0x010 | 0x011 | 0x021 | 0x022 | 0x023 | 0x070 => some true
  | 0x020 | 0x040 | 0x041 | 0x042 | 0x043 | 0x050 | 0x060 | 0x061 => some false
  | 0x030 | 0x031 | 0x032 | 0x033 | 0x034 | 0x035 | 0x036 | 0x037 => some false
  | _ => none

/-- What a selector position of an entry accepts (R71, R72). -/
inductive SelKind where
  /-- not used: the field holds 0x00 -/
  | unused
  /-- any lane source: v, t, s or the immediate -/
  | src
  /-- v or t -/
  | vt
  /-- v, t or s -/
  | vts
  /-- v only -/
  | v
  /-- s only -/
  | s
  /-- s or the immediate -/
  | sImm
  /-- s, or not used -/
  | sOpt
  deriving DecidableEq, Repr

/-- Does the selector name a register kind that the position accepts? -/
def SelKind.accepts : SelKind → Sel → Bool
  | .unused, x => x == .v 0
  | .src, _ => true
  | .vt, .v _ | .vt, .t _ => true
  | .vts, .v _ | .vts, .t _ | .vts, .s _ => true
  | .v, .v _ => true
  | .s, .s _ => true
  | .sImm, .s _ | .sImm, .imm => true
  | .sOpt, .s _ => true
  | .sOpt, x => x == .v 0
  | _, _ => false

/-- The register number of a selector is a multiple of `k`; the immediate always is (R28, R72). -/
def Sel.aligned (k : Nat) : Sel → Bool
  | .v r => r.toNat % k == 0
  | .t r => r.toNat % k == 0
  | .s r => r.toNat % k == 0
  | .imm => true

/-- Is the selector the immediate 0xC0? -/
def Sel.isImm : Sel → Bool
  | .imm => true
  | _ => false

/-- A 64-bit lane type (R73). -/
def LTy.wide : LTy → Bool
  | .i64 | .n64 => true
  | _ => false

/-- A floating-point lane type (R73). -/
def LTy.isFloat : LTy → Bool
  | .f32 | .bf16x2 | .f16x2 => true
  | _ => false

/-- A mask base names a triple inside s0 to s63 (R25, R69). -/
def MBase.ok (b : MBase) : Bool := b.toNat ≤ 61

/-- The LA row of an entry (R135): kinds of DST, SA, SB, SC; whether MK is used; the types it accepts; the types that
take a rounding mode and `.sat`; whether SB stays 32 bits wide under a 64-bit type. -/
structure LaRow where
  dst : SelKind
  sa  : SelKind := .unused
  sb  : SelKind := .unused
  sc  : SelKind := .unused
  mask : Bool := false
  tys : List LTy := [.f32]
  rmTys : List LTy := []
  satTys : List LTy := []
  sbNarrow : Bool := false

def allTys : List LTy := [.f32, .bf16x2, .f16x2, .i32, .n32, .i64, .n64]
def floatTys : List LTy := [.f32, .bf16x2, .f16x2]
def intTys : List LTy := [.i32, .n32, .i64, .n64]
def redTys : List LTy := [.f32, .i32, .n32, .i64, .n64]

/-- The row's conditions on the fields of an LA word (R72, R73, R74, R135). -/
def LaRow.ok (r : LaRow) (f : LA) : Bool :=
  r.dst.accepts f.dst && r.sa.accepts f.sa && r.sb.accepts f.sb && r.sc.accepts f.sc
  && !f.dst.isImm
  && (if r.mask then f.mb.ok else f.mb == 0)
  && r.tys.contains f.ty
  && (f.rm == .rne || r.rmTys.contains f.ty)
  && (!f.sat || r.satTys.contains f.ty)
  && (!f.ty.wide || (f.dst.aligned 2 && f.sa.aligned 2 && (r.sbNarrow || f.sb.aligned 2) && f.sc.aligned 2))
  && (f.sa.isImm || f.sb.isImm || f.sc.isImm || f.imm == 0)

/-- The LM row of an entry (R237, R243, R244, R249). -/
structure LmRow where
  dv : SelKind
  sv : SelKind := .unused
  laneOff : Bool := true
  tys : List LTy := allTys
  /-- the orders the entry accepts beside none -/
  ords : List Ord := []
  /-- a scope is required (atomics, CLAIM), or stands only together with an order (loads, stores) -/
  needScope : Bool := false
  /-- parameter-window form: AREG 0 to 3, no space, order or scope -/
  window : Bool := false
  cas : Bool := false

/-- The width of an atomic in bytes: `.i64` of `.cas` is the 16-byte form (R244). -/
def LTy.casWidth : LTy → Nat
  | .i64 => 16
  | .n64 => 8
  | _ => 4

/-- The row's conditions on the fields of an LM word (R75, R76, R236, R243, R244). -/
def LmRow.ok (r : LmRow) (f : LM) : Bool :=
  r.dv.accepts f.dv && r.sv.accepts f.sv
  && !f.dv.isImm && !f.sv.isImm
  && (r.laneOff || (match f.am with | .v _ => false | _ => true))
  && r.tys.contains f.ty
  && (f.ord == .none || r.ords.contains f.ord)
  && (if r.needScope then f.scp != .none else ((f.ord == .none) == (f.scp == .none)))
  && (!r.window || (f.areg.toNat < 4 && f.spc == .x))
  && (if r.cas then f.cv.toNat % (f.ty.casWidth / 4) == 0 && f.dv.aligned (f.ty.casWidth / 4) && f.sv.aligned (f.ty.casWidth / 4)
      else f.cv == 0 && (!f.ty.wide || (f.dv.aligned 2 && f.sv.aligned 2)))

/-- The element codes of R151 that are legal. -/
def elemLegal (c : BitVec 5) : Bool :=
  (1 ≤ c.toNat && c.toNat ≤ 12) || 0x18 ≤ c.toNat

/-- A parameter word's field `[hi:lo]`. -/
def pfield (w : Word) (hi lo : Nat) : Nat := (w.toNat >>> lo) % 2 ^ (hi + 1 - lo)

/-- An s selector whose eight registers s(T) to s(T+7) lie in s1 to s60 (R158, R160, R163). -/
def Sel.tableBase : Sel → Bool
  | .s r => 1 ≤ r.toNat && r.toNat ≤ 53
  | _ => false

/-- R153: kinds, rounding and `.sat` of a Sieve row. -/
def lxKinds (d a b c : SelKind) (mods : Bool) (f : LX) : Bool :=
  d.accepts f.dst && a.accepts f.sa && b.accepts f.sb && c.accepts f.sc
  && !f.dst.isImm && !f.sa.isImm && !f.sb.isImm && !f.sc.isImm
  && (mods || (f.rm == .rne && !f.sat))

/-- XCVT (R153, R154). -/
def xcvtOk (f : LX) : Bool :=
  lxKinds .vt .vts .vts .unused true f && pfield f.param 31 15 == 0 && pfield f.param 1 0 == 0
  && elemLegal (f.param.extractLsb' 10 5) && elemLegal (f.param.extractLsb' 5 5)

/-- XQNT (R153, R157, R158). -/
def xqntOk (f : LX) : Bool :=
  lxKinds .unused .vt .s .sOpt true f && pfield f.param 31 7 == 0 && pfield f.param 1 0 != 3
  && (f.sc == .v 0 || f.sc.tableBase)

/-- XDQNT (R153, R155). A code that R151 marks illegal is no instruction (0x0101), though R155 gives 0x0104 to every other code
(log entry 53). -/
def xdqntOk (f : LX) : Bool :=
  lxKinds .vt .vts .vts .vts true f && pfield f.param 31 15 == 0 && pfield f.param 0 0 == 0
  && elemLegal (f.param.extractLsb' 10 5) && elemLegal (f.param.extractLsb' 5 5)

/-- XHAD (R153, R156). -/
def xhadOk (f : LX) : Bool :=
  lxKinds .vt .vt .unused .unused false f && (f.param == 1 || f.param == 2)

/-- XDEC (R153, R162, R163). -/
def xdecOk (f : LX) : Bool :=
  lxKinds .vt .s .sOpt .unused true f && pfield f.param 31 20 == 0 && pfield f.param 3 0 == 0
  && elemLegal (f.param.extractLsb' 4 5)
  && (if pfield f.param 15 14 == 3 then elemLegal (f.param.extractLsb' 9 5) else pfield f.param 13 9 == 0)
  && (if pfield f.param 15 14 == 2 then f.sb.tableBase else f.sb == .v 0)

/-- XTBL (R153, R160: an entry format other than 0x01 to 0x05 faults as the instruction runs). -/
def xtblOk (f : LX) : Bool :=
  lxKinds .s .s .unused .unused false f && f.dst.tableBase
  && pfield f.param 31 16 == 0 && pfield f.param 7 5 == 0
  && (pfield f.param 8 8 == 1 || (pfield f.param 15 10 == 0 && pfield f.param 9 9 == 0))

/-- The tile a selector names (R77); 0x90 to 0xFF name none. -/
def tileOf (b : BitVec 8) : Option Tile :=
  if b.toNat < 0x80 then some (.o (b.extractLsb' 0 7))
  else if b.toNat < 0x90 then some (.z (b.extractLsb' 0 4))
  else none

def isOTile (b : BitVec 8) : Bool := b.toNat < 0x80
def isZTile (b : BitVec 8) : Bool := 0x80 ≤ b.toNat && b.toNat < 0x90

/-- R180: the optional order and scope of a tile memory command stand together. -/
def ltOrder (o : Ord) (f : LT) : Bool :=
  (f.ord == .none && f.scp == .none) || (f.ord == o && f.scp != .none)

/-- R77, R180: AREG, AM, OX, order and scope all zero. -/
def ltNoMem (f : LT) : Bool :=
  f.areg == 0 && f.ox == none && f.ord == .none && f.scp == .none

/-- R77: with AM 1 the offset stands in OX and word 2 is zero. -/
def ltMem (f : LT) : Bool := f.ox == none || f.off == 0

/-- R178: the stride selector is 0x00 or an s register. -/
def ltStride (f : LT) : Bool := SelKind.sOpt.accepts f.sx

/-- R185: reserved fields and element codes of the matrix parameter word. -/
def mmaParam (grp : Bool) (f : LT) : Bool :=
  pfield f.off 31 24 == 0 && pfield f.off 19 18 == 0 && pfield f.off 11 10 == 0
  && (grp || pfield f.off 23 20 == 0)
  && elemLegal (f.off.extractLsb' 5 5) && elemLegal (f.off.extractLsb' 0 5)

def mmaK (f : LT) : Nat := pfield f.off 17 12 + 1
def mmaG (f : LT) : Nat := pfield f.off 23 20 + 1

def tldOk (f : LT) : Bool :=
  (isOTile f.td || isZTile f.td) && f.ta == 0 && f.tb == 0 && ltStride f && ltMem f && ltOrder .acq f
def tldWOk (f : LT) : Bool :=
  isOTile f.td && f.tb == 0 && ltStride f && ltMem f && ltOrder .acq f
def tldgOk (f : LT) : Bool :=
  isOTile f.td && f.ta == 0 && f.tb == 0 && SelKind.vt.accepts f.sx && ltMem f && ltOrder .acq f
def tstOk (f : LT) : Bool :=
  f.td == 0 && (isOTile f.ta || isZTile f.ta) && f.tb == 0 && ltStride f && ltMem f && ltOrder .rel f
def tzeroOk (f : LT) : Bool :=
  (isOTile f.td || isZTile f.td) && f.ta == 0 && f.tb == 0 && f.sx == .v 0 && ltNoMem f && f.off == 0
def tmmaOk (f : LT) : Bool :=
  isZTile f.td && isOTile f.ta && isOTile f.tb && f.sx == .v 0 && ltNoMem f && mmaParam false f
  && f.ta.toNat + mmaK f ≤ 128 && f.tb.toNat + mmaK f ≤ 128
def tgrpOk (f : LT) : Bool :=
  isZTile f.td && isOTile f.ta && isOTile f.tb && SelKind.vt.accepts f.sx && ltNoMem f && mmaParam true f
  && f.ta.toNat + mmaK f ≤ 128 && f.tb.toNat + mmaG f * mmaK f ≤ 128
def twaitOk (f : LT) : Bool :=
  (isOTile f.td || isZTile f.td) && f.ta == 0 && f.tb == 0 && f.sx == .v 0 && ltNoMem f && f.off == 0
def twaitAllOk (f : LT) : Bool :=
  f.td == 0 && f.ta == 0 && f.tb == 0 && f.sx == .v 0 && ltNoMem f && f.off == 1

/-- The LQ row of an entry (R282). -/
structure LqRow where
  dst : SelKind := .unused
  dstPair : Bool := false
  /-- SA is a handle pair, else a 32-bit lane source -/
  handle : Bool := false
  value : Bool := false
  mask : Bool := true
  ew : Bool := false
  ct : Bool := false

def LqRow.ok (r : LqRow) (f : LQ) : Bool :=
  r.dst.accepts f.dst && !f.dst.isImm && (!r.dstPair || f.dst.aligned 2)
  && (if r.handle then SelKind.vts.accepts f.sa && f.sa.aligned 2 else true)
  && (if r.value then true else f.sb == .v 0) && f.sc == .v 0
  && (if r.mask then f.mb.ok else f.mb == 0)
  && (r.ew || f.ew == 0) && (r.ct || f.ct == 0)
  && (f.sa.isImm || f.sb.isImm || f.imm == 0)

/-- Order and scope of PCOPY stand together (R253, R76). -/
def pcopyOk (o : Ord) (c : Scp) : Bool := (o == .none) == (c == .none)


/-- The fields of VADD, VSUB. -/
def rowVadd : LaRow := { dst := .vt, sa := .src, sb := .src, tys := allTys, rmTys := floatTys, satTys := allTys }

/-- The fields of VMUL. -/
def rowVmul : LaRow := { dst := .vt, sa := .src, sb := .src, tys := floatTys, rmTys := floatTys, satTys := floatTys }

/-- The fields of VFMA. -/
def rowVfma : LaRow := { dst := .vt, sa := .src, sb := .src, sc := .src, tys := floatTys, rmTys := floatTys, satTys := floatTys }

/-- The fields of VMIN, VMAX. -/
def rowVmin : LaRow := { dst := .vt, sa := .src, sb := .src, tys := allTys }

/-- The fields of VABS, VNEG. -/
def rowVabs : LaRow := { dst := .vt, sa := .src, tys := [.f32, .bf16x2, .f16x2, .i32, .i64], satTys := [.i32, .i64] }

/-- The fields of VRCP, VRSQ, VSQRT, VEXP2, VLOG2, VSIN, VCOS, VCVT_F2B, VCVT_F2H. -/
def rowVrcp : LaRow := { dst := .vt, sa := .src, satTys := [.f32] }

/-- The fields of VIMUL. -/
def rowVimul : LaRow := { dst := .vt, sa := .src, sb := .src, tys := intTys, satTys := intTys }

/-- The fields of VIMULH, VAND, VOR, VXOR. -/
def rowVimulh : LaRow := { dst := .vt, sa := .src, sb := .src, tys := intTys }

/-- The fields of VSHL, VSHR, VSRA. -/
def rowVshl : LaRow := { dst := .vt, sa := .src, sb := .src, tys := intTys, sbNarrow := true }

/-- The fields of VCMP_EQ, VCMP_NE, VCMP_LT, VCMP_LE, VCMP_GT, VCMP_GE. -/
def rowVcmpEq : LaRow := { dst := .unused, sa := .src, sb := .src, mask := true, tys := allTys }

/-- The fields of VCMP_UN, VCMP_ORD. -/
def rowVcmpUn : LaRow := { dst := .unused, sa := .src, sb := .src, mask := true, tys := floatTys }

/-- The fields of VSEL. -/
def rowVsel : LaRow := { dst := .vt, sa := .src, sb := .src, mask := true, tys := allTys }

/-- The fields of VMOV. -/
def rowVmov : LaRow := { dst := .vt, sa := .src, tys := allTys }

/-- The fields of VBCAST. -/
def rowVbcast : LaRow := { dst := .vt, sa := .src, sb := .sImm, tys := allTys }

/-- The fields of VIOTA. -/
def rowViota : LaRow := { dst := .vt, tys := [.i32, .n32] }

/-- The fields of VCVT_I2F, VCVT_N2F, VCVT_F2I, VCVT_F2N, VCVT_F2IR, VCVT_F2NR, VCVT_B2F, VCVT_H2F. -/
def rowVcvtI2f : LaRow := { dst := .vt, sa := .src }

/-- The fields of VSHFL. -/
def rowVshfl : LaRow := { dst := .vt, sa := .src, sb := .src, mask := true, tys := allTys, sbNarrow := true }

/-- The fields of VROT. -/
def rowVrot : LaRow := { dst := .vt, sa := .src, sb := .sImm, mask := true, tys := allTys }

/-- The fields of VRED_ADD. -/
def rowVredAdd : LaRow := { dst := .s, sa := .src, tys := redTys, rmTys := [.f32] }

/-- The fields of VRED_MIN, VRED_MAX. -/
def rowVredMin : LaRow := { dst := .s, sa := .src, tys := redTys }

/-- The fields of VRED_AND, VRED_OR, VRED_XOR. -/
def rowVredAnd : LaRow := { dst := .s, sa := .src, tys := intTys }

/-- The fields of VSCAN_ADD. -/
def rowVscanAdd : LaRow := { dst := .vt, sa := .src, tys := redTys, rmTys := [.f32] }

/-- The fields of VSCAN_MIN, VSCAN_MAX. -/
def rowVscanMin : LaRow := { dst := .vt, sa := .src, tys := redTys }

/-- The fields of VSCAN_AND, VSCAN_OR, VSCAN_XOR. -/
def rowVscanAnd : LaRow := { dst := .vt, sa := .src, tys := intTys }

/-- The fields of VCOAL. -/
def rowVcoal : LaRow := { dst := .v, sa := .v }

/-- The fields of VRUNS. -/
def rowVruns : LaRow := { dst := .s, sa := .v }

/-- The fields of VLD. -/
def rowVld : LmRow := { dv := .vt, ords := [.acq] }

/-- The fields of VLD_W. -/
def rowVldW : LmRow := { dv := .vt, ords := [.acq], tys := floatTys }

/-- The fields of VST. -/
def rowVst : LmRow := { dv := .vts, ords := [.rel] }

/-- The fields of SLD. -/
def rowSld : LmRow := { dv := .s, laneOff := false, ords := [.acq] }

/-- The fields of SST. -/
def rowSst : LmRow := { dv := .s, laneOff := false, ords := [.rel] }

/-- The fields of SLDP. -/
def rowSldp : LmRow := { dv := .s, laneOff := false, window := true }

/-- The fields of VLDP. -/
def rowVldp : LmRow := { dv := .vt, window := true }

/-- The fields of VATOM_ADD, VATOM_MIN, VATOM_MAX, VATOM_SWAP. -/
def rowVatomAdd : LmRow := { dv := .vt, sv := .vts, tys := redTys, ords := [.acq, .rel, .acqrel], needScope := true }

/-- The fields of VATOM_AND, VATOM_OR, VATOM_XOR. -/
def rowVatomAnd : LmRow := { dv := .vt, sv := .vts, tys := intTys, ords := [.acq, .rel, .acqrel], needScope := true }

/-- The fields of VATOM_CAS. -/
def rowVatomCas : LmRow := { dv := .vt, sv := .vts, tys := intTys, cas := true, ords := [.acq, .rel, .acqrel], needScope := true }

/-- The fields of SATOM_ADD, SATOM_MIN, SATOM_MAX, SATOM_SWAP. -/
def rowSatomAdd : LmRow := { dv := .s, sv := .s, laneOff := false, tys := redTys, ords := [.acq, .rel, .acqrel], needScope := true }

/-- The fields of SATOM_AND, SATOM_OR, SATOM_XOR. -/
def rowSatomAnd : LmRow := { dv := .s, sv := .s, laneOff := false, tys := intTys, ords := [.acq, .rel, .acqrel], needScope := true }

/-- The fields of SATOM_CAS. -/
def rowSatomCas : LmRow := { dv := .s, sv := .s, laneOff := false, tys := intTys, cas := true, ords := [.acq, .rel, .acqrel], needScope := true }

/-- The fields of CLAIM. -/
def rowClaim : LmRow := { dv := .s, sv := .s, laneOff := false, tys := [.f32], ords := [.acq, .rel, .acqrel], needScope := true }

/-- The fields of QRES. -/
def rowQres : LqRow := { dst := .vt, dstPair := true, handle := true }

/-- The fields of QLDC. -/
def rowQldc : LqRow := { dst := .vt, ew := true, ct := true }

/-- The fields of QLDC_H. -/
def rowQldcH : LqRow := { dst := .vt, handle := true, ew := true, ct := true }

/-- The fields of QSTC. -/
def rowQstc : LqRow := { value := true, ew := true, ct := true }

/-- The fields of QSTC_H. -/
def rowQstcH : LqRow := { handle := true, value := true, ew := true, ct := true }

/-- The fields of QLDH. -/
def rowQldh : LqRow := { dst := .vt, dstPair := true }

/-- The fields of QNEW. -/
def rowQnew : LqRow := { dst := .vt, dstPair := true, ct := true }

/-- The fields of QDEL. -/
def rowQdel : LqRow := { handle := true }

/-- The fields of QADD, QREM. -/
def rowQadd : LqRow := { handle := true, ct := true }

/-- The fields of QGEN. -/
def rowQgen : LqRow := { dst := .vt, handle := true, mask := false }

/-- Well-formed instructions: those that some word encodes (R69, R72 to R81 and the entries). An event of the device has no
word, so nothing is asked of it. -/
def Instr.wf : Instr → Bool
  | .sadd _ _ _ _ => true
  | .ssub _ _ _ _ => true
  | .smul _ _ _ _ => true
  | .smulh _ _ _ _ => true
  | .smulhn _ _ _ _ => true
  | .sdiv _ _ _ _ => true
  | .sdivn _ _ _ _ => true
  | .srem _ _ _ _ => true
  | .sremn _ _ _ _ => true
  | .sand _ _ _ _ => true
  | .sor _ _ _ _ => true
  | .sxor _ _ _ _ => true
  | .sshl _ _ _ _ => true
  | .sshr _ _ _ _ => true
  | .ssra _ _ _ _ => true
  | .smin _ _ _ _ => true
  | .smax _ _ _ _ => true
  | .sminn _ _ _ _ => true
  | .smaxn _ _ _ _ => true
  | .sclz _ _ _ => true
  | .scnt _ _ _ => true
  | .smov _ _ _ => true
  | .ssel _ _ _ _ => true
  | .saddImm _ _ _ _ => true
  | .smulImm _ _ _ _ => true
  | .sandImm _ _ _ _ => true
  | .sorImm _ _ _ _ => true
  | .sxorImm _ _ _ _ => true
  | .sshlImm _ _ _ _ => true
  | .sshrImm _ _ _ _ => true
  | .ssraImm _ _ _ _ => true
  | .sbfx _ _ _ pos len1 => pos.toNat + len1.toNat < 32
  | .sbfi _ _ _ pos len1 => pos.toNat + len1.toNat < 32
  | .sli _ _ _ => true
  | .slih _ _ _ => true
  | .ssetEq _ _ _ _ => true
  | .ssetNe _ _ _ _ => true
  | .ssetLt _ _ _ _ => true
  | .ssetLe _ _ _ _ => true
  | .ssetLtn _ _ _ _ => true
  | .ssetLen _ _ _ _ => true
  | .sfadd _ _ _ _ => true
  | .sfsub _ _ _ _ => true
  | .sfmul _ _ _ _ => true
  | .sffma _ _ _ _ => true
  | .scvtI2f _ _ _ => true
  | .scvtN2f _ _ _ => true
  | .scvtF2i _ _ _ => true
  | .scvtF2n _ _ _ => true
  | .scvtF2ir _ _ _ => true
  | .scvtF2nr _ _ _ => true
  | .scvtF2b _ _ _ => true
  | .scvtB2f _ _ _ => true
  | .scvtF2h _ _ _ => true
  | .scvtH2f _ _ _ => true
  | .aadd _ _ _ _ => true
  | .asub _ _ _ _ => true
  | .amov _ _ _ => true
  | .afrom _ _ _ _ => true
  | .ato _ _ _ _ => true
  | .alea1 _ _ _ _ => true
  | .alea2 _ _ _ _ => true
  | .alea4 _ _ _ _ => true
  | .alea8 _ _ _ _ => true
  | .alea16 _ _ _ _ => true
  | .aaddImm _ _ _ _ => true
  | .ali _ _ _ => true
  | .aspc _ _ _ => true
  | .acastG _ _ _ => true
  | .acastP _ _ _ => true
  | .acastS _ _ _ => true
  | .acastC _ _ _ => true
  | .agenP _ _ _ => true
  | .agenS _ _ _ => true
  | .agenC _ _ _ => true
  | .mand _ d a b => d.ok && a.ok && b.ok
  | .mor _ d a b => d.ok && a.ok && b.ok
  | .mxor _ d a b => d.ok && a.ok && b.ok
  | .mandn _ d a b => d.ok && a.ok && b.ok
  | .mnot _ d a => d.ok && a.ok
  | .mcnt _ _ a => a.ok
  | .mfirst _ _ a => a.ok
  | .mset _ d _ => d.ok
  | .mget _ _ a _ => a.ok
  | .br _ _ => true
  | .brz _ _ _ => true
  | .brv _ a _ => a.ok
  | .call _ _ => true
  | .jmp _ _ => true
  | .jmpv _ a => a.toNat % 2 == 0
  | .callv _ a => a.toNat % 2 == 0
  | .ret _ => true
  | .join _ a => a.ok
  | .land _ => true
  | .yield _ => true
  | .waitv _ _ _ _ => true
  | .exit _ => true
  | .nop _ => true
  | .launch _ _ _ => true
  | .launchq _ _ _ => true
  | .wsync _ => true
  | .wflush _ => true
  | .binit _ _ _ => true
  | .barv _ _ _ _ => true
  | .bexp _ _ _ _ => true
  | .bwait _ _ _ => true
  | .btest _ _ _ _ => true
  | .gbar _ => true
  | .pcopy _ _ ord scp => pcopyOk ord scp
  | .pbatch _ _ => true
  | .pwait _ _ => true
  | .fence _ pred succ scp => pred != 0 && succ != 0 && scp != .none
  | .cinv _ _ _ => true
  | .cwb _ _ _ => true
  | .pref _ _ _ => true
  | .qgrp _ _ => true
  | .qcommit _ => true
  | .qview _ _ _ => true
  | .qdrop _ _ => true
  | .cairn _ _ _ => true
  | .lksub _ _ _ _ => true
  | .lkcard _ _ _ _ => true
  | .lkstat _ _ _ _ => true
  | .trap _ _ _ _ => true
  | .svret _ => true
  | .rplay _ _ _ _ => true
  | .mapft _ _ _ => true
  | .mapcw _ _ _ => true
  | .tlbinv _ _ _ => true
  | .csrr _ csr r => (match csrWide csr with | some true => r.toNat < 16 | some false => true | none => false)
  | .csrw _ csr r => (match csrWide csr with | some true => r.toNat < 16 | some false => true | none => false)
  | .vadd _ f => rowVadd.ok f
  | .vsub _ f => rowVadd.ok f
  | .vmul _ f => rowVmul.ok f
  | .vfma _ f => rowVfma.ok f
  | .vmin _ f => rowVmin.ok f
  | .vmax _ f => rowVmin.ok f
  | .vabs _ f => rowVabs.ok f
  | .vneg _ f => rowVabs.ok f
  | .vrcp _ f => rowVrcp.ok f
  | .vrsq _ f => rowVrcp.ok f
  | .vsqrt _ f => rowVrcp.ok f
  | .vexp2 _ f => rowVrcp.ok f
  | .vlog2 _ f => rowVrcp.ok f
  | .vsin _ f => rowVrcp.ok f
  | .vcos _ f => rowVrcp.ok f
  | .vimul _ f => rowVimul.ok f
  | .vimulh _ f => rowVimulh.ok f
  | .vand _ f => rowVimulh.ok f
  | .vor _ f => rowVimulh.ok f
  | .vxor _ f => rowVimulh.ok f
  | .vshl _ f => rowVshl.ok f
  | .vshr _ f => rowVshl.ok f
  | .vsra _ f => rowVshl.ok f
  | .vcmpEq _ f => rowVcmpEq.ok f
  | .vcmpNe _ f => rowVcmpEq.ok f
  | .vcmpLt _ f => rowVcmpEq.ok f
  | .vcmpLe _ f => rowVcmpEq.ok f
  | .vcmpGt _ f => rowVcmpEq.ok f
  | .vcmpGe _ f => rowVcmpEq.ok f
  | .vcmpUn _ f => rowVcmpUn.ok f
  | .vcmpOrd _ f => rowVcmpUn.ok f
  | .vsel _ f => rowVsel.ok f
  | .vmov _ f => rowVmov.ok f
  | .vbcast _ f => rowVbcast.ok f
  | .viota _ f => rowViota.ok f
  | .vcvtI2f _ f => rowVcvtI2f.ok f
  | .vcvtN2f _ f => rowVcvtI2f.ok f
  | .vcvtF2i _ f => rowVcvtI2f.ok f
  | .vcvtF2n _ f => rowVcvtI2f.ok f
  | .vcvtF2ir _ f => rowVcvtI2f.ok f
  | .vcvtF2nr _ f => rowVcvtI2f.ok f
  | .vcvtF2b _ f => rowVrcp.ok f
  | .vcvtB2f _ f => rowVcvtI2f.ok f
  | .vcvtF2h _ f => rowVrcp.ok f
  | .vcvtH2f _ f => rowVcvtI2f.ok f
  | .vshfl _ f => rowVshfl.ok f
  | .vrot _ f => rowVrot.ok f
  | .vredAdd _ f => rowVredAdd.ok f
  | .vredMin _ f => rowVredMin.ok f
  | .vredMax _ f => rowVredMin.ok f
  | .vredAnd _ f => rowVredAnd.ok f
  | .vredOr _ f => rowVredAnd.ok f
  | .vredXor _ f => rowVredAnd.ok f
  | .vscanAdd _ f => rowVscanAdd.ok f
  | .vscanMin _ f => rowVscanMin.ok f
  | .vscanMax _ f => rowVscanMin.ok f
  | .vscanAnd _ f => rowVscanAnd.ok f
  | .vscanOr _ f => rowVscanAnd.ok f
  | .vscanXor _ f => rowVscanAnd.ok f
  | .vcoal _ f => rowVcoal.ok f
  | .vruns _ f => rowVruns.ok f
  | .vld _ f => rowVld.ok f
  | .vldW _ f => rowVldW.ok f
  | .vst _ f => rowVst.ok f
  | .sld _ f => rowSld.ok f
  | .sst _ f => rowSst.ok f
  | .sldp _ f => rowSldp.ok f
  | .vldp _ f => rowVldp.ok f
  | .vatomAdd _ f => rowVatomAdd.ok f
  | .vatomAnd _ f => rowVatomAnd.ok f
  | .vatomOr _ f => rowVatomAnd.ok f
  | .vatomXor _ f => rowVatomAnd.ok f
  | .vatomMin _ f => rowVatomAdd.ok f
  | .vatomMax _ f => rowVatomAdd.ok f
  | .vatomSwap _ f => rowVatomAdd.ok f
  | .vatomCas _ f => rowVatomCas.ok f
  | .satomAdd _ f => rowSatomAdd.ok f
  | .satomAnd _ f => rowSatomAnd.ok f
  | .satomOr _ f => rowSatomAnd.ok f
  | .satomXor _ f => rowSatomAnd.ok f
  | .satomMin _ f => rowSatomAdd.ok f
  | .satomMax _ f => rowSatomAdd.ok f
  | .satomSwap _ f => rowSatomAdd.ok f
  | .satomCas _ f => rowSatomCas.ok f
  | .claim _ f => rowClaim.ok f && f.dv.aligned 2
  | .xcvt _ f => xcvtOk f
  | .xqnt _ f => xqntOk f
  | .xdqnt _ f => xdqntOk f
  | .xhad _ f => xhadOk f
  | .xdec _ f => xdecOk f
  | .xtbl _ f => xtblOk f
  | .tld _ f => tldOk f
  | .tldW _ f => tldWOk f
  | .tldg _ f => tldgOk f
  | .tst _ f => tstOk f
  | .tzero _ f => tzeroOk f
  | .tmma _ f => tmmaOk f
  | .tgrp _ f => tgrpOk f
  | .twait _ f => twaitOk f
  | .twaitAll _ f => twaitAllOk f
  | .qres _ f => rowQres.ok f
  | .qldc _ f => rowQldc.ok f
  | .qldcH _ f => rowQldcH.ok f
  | .qstc _ f => rowQstc.ok f
  | .qstcH _ f => rowQstcH.ok f
  | .qldh _ f => rowQldh.ok f
  | .qnew _ f => rowQnew.ok f
  | .qdel _ f => rowQdel.ok f
  | .qadd _ f => rowQadd.ok f
  | .qrem _ f => rowQadd.ok f
  | .qgen _ f => rowQgen.ok f
  | .legCommit _ _ => true
  | .faultDelivery _ _ => true
  | .issueAgePriority _ _ => true
  | .slotRotation _ _ => true
  | .hamperSpill _ => true
  | .sieveServe _ => true
  | .basaltCommandStart _ => true
  | .basaltCommandFinish _ => true
  | .porterChunk _ => true
  | .waitvRecheck _ _ => true
  | .waveBind _ _ => true
  | .wavePreempt _ _ => true
  | .waveRebind _ _ _ => true
  | .cairnApply _ => true
  | .tlbWalk _ => true
  | .hostAtomicFailure _ _ _ _ => true
  | .completionTimeout _ _ _ _ => true
  | .lateCompletion _ => true
  | .postedWriteError _ _ => true
  | .cxlResponseTimeout _ _ => true
  | .domainResponseTimeout _ _ _ _ => true
  | .faultQueueFlush _ => true
  | .rootLaunch _ _ => true
  | .semaphoreAcquire _ => true
  | .semaphoreRelease _ => true
  | .partSet _ => true
  | .partRelease _ => true
  | .map _ => true
  | .unmap _ => true
  | .protect _ => true
  | .worldCreate _ => true
  | .worldDestroy _ => true
  | .headConfig _ => true
  | .identity _ => true
  | .attest _ => true
  | .lifecycle _ => true
  | .fwUpdate _ => true
  | .suspend _ => true
  | .resume _ => true
  | .workRequest _ => true
  | .portReplay _ _ => true
  | .apertureAccess _ _ => true
  | .inboundAtomicop _ _ => true
  | .portHotReset _ => true
  | .portLinkLoss _ => true
  | .fundamentalReset _ _ => true
  | .startTimeout => true
  | .powerThrottle _ _ => true
  | .thermalThrottle _ => true
  | .thermalStop _ => true
  | .refreshLatch _ => true
  | .bandStart _ => true
  | .bandProjection _ _ => true
  | .tier0Deadline _ => true
  | .tier1Cutoff _ => true
  | .bandDone _ => true
  | .lineScanout _ => true
  | .registerWrite _ _ _ => true
  | .domainInboundAccess _ _ => true
  | .jexkinLinkLoss _ => true
  | .cxlLinkLoss _ => true
  | .powerRailFault => true
  | .unknownOp _ => true
  | .bandLayerEnd _ _ => true
  | .lookoutAccessFault _ _ _ => true

/-- The rows of the table that are events of the device and have no word. -/
def Instr.isEvent : Instr → Bool
  | .sadd _ _ _ _ => false
  | .ssub _ _ _ _ => false
  | .smul _ _ _ _ => false
  | .smulh _ _ _ _ => false
  | .smulhn _ _ _ _ => false
  | .sdiv _ _ _ _ => false
  | .sdivn _ _ _ _ => false
  | .srem _ _ _ _ => false
  | .sremn _ _ _ _ => false
  | .sand _ _ _ _ => false
  | .sor _ _ _ _ => false
  | .sxor _ _ _ _ => false
  | .sshl _ _ _ _ => false
  | .sshr _ _ _ _ => false
  | .ssra _ _ _ _ => false
  | .smin _ _ _ _ => false
  | .smax _ _ _ _ => false
  | .sminn _ _ _ _ => false
  | .smaxn _ _ _ _ => false
  | .sclz _ _ _ => false
  | .scnt _ _ _ => false
  | .smov _ _ _ => false
  | .ssel _ _ _ _ => false
  | .saddImm _ _ _ _ => false
  | .smulImm _ _ _ _ => false
  | .sandImm _ _ _ _ => false
  | .sorImm _ _ _ _ => false
  | .sxorImm _ _ _ _ => false
  | .sshlImm _ _ _ _ => false
  | .sshrImm _ _ _ _ => false
  | .ssraImm _ _ _ _ => false
  | .sbfx _ _ _ _ _ => false
  | .sbfi _ _ _ _ _ => false
  | .sli _ _ _ => false
  | .slih _ _ _ => false
  | .ssetEq _ _ _ _ => false
  | .ssetNe _ _ _ _ => false
  | .ssetLt _ _ _ _ => false
  | .ssetLe _ _ _ _ => false
  | .ssetLtn _ _ _ _ => false
  | .ssetLen _ _ _ _ => false
  | .sfadd _ _ _ _ => false
  | .sfsub _ _ _ _ => false
  | .sfmul _ _ _ _ => false
  | .sffma _ _ _ _ => false
  | .scvtI2f _ _ _ => false
  | .scvtN2f _ _ _ => false
  | .scvtF2i _ _ _ => false
  | .scvtF2n _ _ _ => false
  | .scvtF2ir _ _ _ => false
  | .scvtF2nr _ _ _ => false
  | .scvtF2b _ _ _ => false
  | .scvtB2f _ _ _ => false
  | .scvtF2h _ _ _ => false
  | .scvtH2f _ _ _ => false
  | .aadd _ _ _ _ => false
  | .asub _ _ _ _ => false
  | .amov _ _ _ => false
  | .afrom _ _ _ _ => false
  | .ato _ _ _ _ => false
  | .alea1 _ _ _ _ => false
  | .alea2 _ _ _ _ => false
  | .alea4 _ _ _ _ => false
  | .alea8 _ _ _ _ => false
  | .alea16 _ _ _ _ => false
  | .aaddImm _ _ _ _ => false
  | .ali _ _ _ => false
  | .aspc _ _ _ => false
  | .acastG _ _ _ => false
  | .acastP _ _ _ => false
  | .acastS _ _ _ => false
  | .acastC _ _ _ => false
  | .agenP _ _ _ => false
  | .agenS _ _ _ => false
  | .agenC _ _ _ => false
  | .mand _ _ _ _ => false
  | .mor _ _ _ _ => false
  | .mxor _ _ _ _ => false
  | .mandn _ _ _ _ => false
  | .mnot _ _ _ => false
  | .mcnt _ _ _ => false
  | .mfirst _ _ _ => false
  | .mset _ _ _ => false
  | .mget _ _ _ _ => false
  | .br _ _ => false
  | .brz _ _ _ => false
  | .brv _ _ _ => false
  | .call _ _ => false
  | .jmp _ _ => false
  | .jmpv _ _ => false
  | .callv _ _ => false
  | .ret _ => false
  | .join _ _ => false
  | .land _ => false
  | .yield _ => false
  | .waitv _ _ _ _ => false
  | .exit _ => false
  | .nop _ => false
  | .launch _ _ _ => false
  | .launchq _ _ _ => false
  | .wsync _ => false
  | .wflush _ => false
  | .binit _ _ _ => false
  | .barv _ _ _ _ => false
  | .bexp _ _ _ _ => false
  | .bwait _ _ _ => false
  | .btest _ _ _ _ => false
  | .gbar _ => false
  | .pcopy _ _ _ _ => false
  | .pbatch _ _ => false
  | .pwait _ _ => false
  | .fence _ _ _ _ => false
  | .cinv _ _ _ => false
  | .cwb _ _ _ => false
  | .pref _ _ _ => false
  | .qgrp _ _ => false
  | .qcommit _ => false
  | .qview _ _ _ => false
  | .qdrop _ _ => false
  | .cairn _ _ _ => false
  | .lksub _ _ _ _ => false
  | .lkcard _ _ _ _ => false
  | .lkstat _ _ _ _ => false
  | .trap _ _ _ _ => false
  | .svret _ => false
  | .rplay _ _ _ _ => false
  | .mapft _ _ _ => false
  | .mapcw _ _ _ => false
  | .tlbinv _ _ _ => false
  | .csrr _ _ _ => false
  | .csrw _ _ _ => false
  | .vadd _ _ => false
  | .vsub _ _ => false
  | .vmul _ _ => false
  | .vfma _ _ => false
  | .vmin _ _ => false
  | .vmax _ _ => false
  | .vabs _ _ => false
  | .vneg _ _ => false
  | .vrcp _ _ => false
  | .vrsq _ _ => false
  | .vsqrt _ _ => false
  | .vexp2 _ _ => false
  | .vlog2 _ _ => false
  | .vsin _ _ => false
  | .vcos _ _ => false
  | .vimul _ _ => false
  | .vimulh _ _ => false
  | .vand _ _ => false
  | .vor _ _ => false
  | .vxor _ _ => false
  | .vshl _ _ => false
  | .vshr _ _ => false
  | .vsra _ _ => false
  | .vcmpEq _ _ => false
  | .vcmpNe _ _ => false
  | .vcmpLt _ _ => false
  | .vcmpLe _ _ => false
  | .vcmpGt _ _ => false
  | .vcmpGe _ _ => false
  | .vcmpUn _ _ => false
  | .vcmpOrd _ _ => false
  | .vsel _ _ => false
  | .vmov _ _ => false
  | .vbcast _ _ => false
  | .viota _ _ => false
  | .vcvtI2f _ _ => false
  | .vcvtN2f _ _ => false
  | .vcvtF2i _ _ => false
  | .vcvtF2n _ _ => false
  | .vcvtF2ir _ _ => false
  | .vcvtF2nr _ _ => false
  | .vcvtF2b _ _ => false
  | .vcvtB2f _ _ => false
  | .vcvtF2h _ _ => false
  | .vcvtH2f _ _ => false
  | .vshfl _ _ => false
  | .vrot _ _ => false
  | .vredAdd _ _ => false
  | .vredMin _ _ => false
  | .vredMax _ _ => false
  | .vredAnd _ _ => false
  | .vredOr _ _ => false
  | .vredXor _ _ => false
  | .vscanAdd _ _ => false
  | .vscanMin _ _ => false
  | .vscanMax _ _ => false
  | .vscanAnd _ _ => false
  | .vscanOr _ _ => false
  | .vscanXor _ _ => false
  | .vcoal _ _ => false
  | .vruns _ _ => false
  | .vld _ _ => false
  | .vldW _ _ => false
  | .vst _ _ => false
  | .sld _ _ => false
  | .sst _ _ => false
  | .sldp _ _ => false
  | .vldp _ _ => false
  | .vatomAdd _ _ => false
  | .vatomAnd _ _ => false
  | .vatomOr _ _ => false
  | .vatomXor _ _ => false
  | .vatomMin _ _ => false
  | .vatomMax _ _ => false
  | .vatomSwap _ _ => false
  | .vatomCas _ _ => false
  | .satomAdd _ _ => false
  | .satomAnd _ _ => false
  | .satomOr _ _ => false
  | .satomXor _ _ => false
  | .satomMin _ _ => false
  | .satomMax _ _ => false
  | .satomSwap _ _ => false
  | .satomCas _ _ => false
  | .claim _ _ => false
  | .xcvt _ _ => false
  | .xqnt _ _ => false
  | .xdqnt _ _ => false
  | .xhad _ _ => false
  | .xdec _ _ => false
  | .xtbl _ _ => false
  | .tld _ _ => false
  | .tldW _ _ => false
  | .tldg _ _ => false
  | .tst _ _ => false
  | .tzero _ _ => false
  | .tmma _ _ => false
  | .tgrp _ _ => false
  | .twait _ _ => false
  | .twaitAll _ _ => false
  | .qres _ _ => false
  | .qldc _ _ => false
  | .qldcH _ _ => false
  | .qstc _ _ => false
  | .qstcH _ _ => false
  | .qldh _ _ => false
  | .qnew _ _ => false
  | .qdel _ _ => false
  | .qadd _ _ => false
  | .qrem _ _ => false
  | .qgen _ _ => false
  | .legCommit _ _ => true
  | .faultDelivery _ _ => true
  | .issueAgePriority _ _ => true
  | .slotRotation _ _ => true
  | .hamperSpill _ => true
  | .sieveServe _ => true
  | .basaltCommandStart _ => true
  | .basaltCommandFinish _ => true
  | .porterChunk _ => true
  | .waitvRecheck _ _ => true
  | .waveBind _ _ => true
  | .wavePreempt _ _ => true
  | .waveRebind _ _ _ => true
  | .cairnApply _ => true
  | .tlbWalk _ => true
  | .hostAtomicFailure _ _ _ _ => true
  | .completionTimeout _ _ _ _ => true
  | .lateCompletion _ => true
  | .postedWriteError _ _ => true
  | .cxlResponseTimeout _ _ => true
  | .domainResponseTimeout _ _ _ _ => true
  | .faultQueueFlush _ => true
  | .rootLaunch _ _ => true
  | .semaphoreAcquire _ => true
  | .semaphoreRelease _ => true
  | .partSet _ => true
  | .partRelease _ => true
  | .map _ => true
  | .unmap _ => true
  | .protect _ => true
  | .worldCreate _ => true
  | .worldDestroy _ => true
  | .headConfig _ => true
  | .identity _ => true
  | .attest _ => true
  | .lifecycle _ => true
  | .fwUpdate _ => true
  | .suspend _ => true
  | .resume _ => true
  | .workRequest _ => true
  | .portReplay _ _ => true
  | .apertureAccess _ _ => true
  | .inboundAtomicop _ _ => true
  | .portHotReset _ => true
  | .portLinkLoss _ => true
  | .fundamentalReset _ _ => true
  | .startTimeout => true
  | .powerThrottle _ _ => true
  | .thermalThrottle _ => true
  | .thermalStop _ => true
  | .refreshLatch _ => true
  | .bandStart _ => true
  | .bandProjection _ _ => true
  | .tier0Deadline _ => true
  | .tier1Cutoff _ => true
  | .bandDone _ => true
  | .lineScanout _ => true
  | .registerWrite _ _ _ => true
  | .domainInboundAccess _ _ => true
  | .jexkinLinkLoss _ => true
  | .cxlLinkLoss _ => true
  | .powerRailFault => true
  | .unknownOp _ => true
  | .bandLayerEnd _ _ => true
  | .lookoutAccessFault _ _ _ => true

end Sys2Proof
end

