-- ==== Sys2Proof/Machine/Flags.lean ====
section
/-! DEFINITION. The machine's only record of exceptional results: the conversion counters CSAT, CFTZ and CNAN
(spec/05_formats.md R91, spec/07_arith_instr.md R132, spec/08_conversion.md R165, R166). There are no other flags
(R87). -/

namespace Sys2Proof.Machine

/-- Elements of a class. -/
def countEv (e : Ev) (evs : List Ev) : Nat := (evs.filter (· == e)).length

/-- R132: a leg's conversions add their classes to the leg's counts. -/
def Ctx.countEvents (c : Ctx) (evs : List Ev) : Ctx :=
  { c with leg := { c.leg with csat := c.leg.csat + countEv .sat evs, cftz := c.leg.cftz + countEv .flush evs,
                               cnan := c.leg.cnan + countEv .nan evs } }

/-- R32: a counter stops at 0xFFFF_FFFF. -/
def satAdd (w : Word) (n : Nat) : Word := if 4294967295 ≤ w.toNat + n then 0xFFFF_FFFF else w + BitVec.ofNat 32 n

/-- R165: does a commit that takes a counter from `before` to `after` pass its threshold? -/
def crosses (threshold before after : Word) : Bool :=
  threshold != 0 && decide (before.toNat ≤ threshold.toNat) && decide (threshold.toNat < after.toNat)

/-- Bits of DEFER (R410). -/
def deferBit (k : Nat) : BitVec 16 := BitVec.ofNat 16 (2 ^ k)

/-- R165, R132: counts that a commit adds to a wave's counters, with the excess traps they make due in the slot's
handler frame. `t` are the thresholds and `before` the counters before the commit. -/
def excessDefer (t before after : Word × Word × Word) : BitVec 16 :=
  (if crosses t.1 before.1 after.1 then deferBit 5 else 0)
    ||| (if crosses t.2.1 before.2.1 after.2.1 then deferBit 6 else 0)
    ||| (if crosses t.2.2 before.2.2 after.2.2 then deferBit 7 else 0)

/-- The thresholds of a wave's launch. -/
def State.thresholds (s : State) (w : Wave) : Word × Word × Word :=
  match s.recOf w with
  | some r => (r.thsat, r.thftz, r.thnan)
  | none => (0, 0, 0)

/-- The codes of DEFER's bits (R410), lowest code first. -/
def deferCode : Nat → BitVec 16
  | 0 => 0x2002 | 1 => 0x3001 | 2 => 0x3002 | 3 => 0x3003 | 4 => 0x4003 | 5 => 0x6001 | 6 => 0x6002 | 7 => 0x6003
  | _ => 0xA000

/-- The lowest due fault. -/
def lowestDefer (d : BitVec 16) : Option Nat := (List.range 9).find? fun k => d.getLsbD k

end Sys2Proof.Machine
end

