-- ==== Sys2Proof/Machine/Paths.lean ====
section
/-! DEFINITION. Paths: splits, groups of computed targets, calls, returns and joins (spec/16_divergence.md R314 to
R321). Each operation acts on a wave whose slot already holds the path that goes on after its leg. -/

namespace Sys2Proof.Machine

/-- Place a new path: the wave's other slot if it is empty, else the newest end of the divergence stack (R314, R315). -/
def Wave.place (w : Wave) (k : SlotId) (p : Path) : Wave :=
  match (w.slot k.other).path with
  | none => w.take k.other p []
  | some _ => { w with stack := w.stack ++ [⟨p, none, [], Slot.empty, none, false⟩] }

/-- Put a path at the newest end of the stack. -/
def Wave.pushPath (w : Wave) (p : Path) : Wave :=
  { w with stack := w.stack ++ [⟨p, none, [], Slot.empty, none, false⟩] }

/-- Change the path a slot holds. -/
def Wave.setPath (w : Wave) (k : SlotId) (p : Path) : Wave := w.setSlot k { w.slot k with path := some p }

/-- R314: BRV. `T` is the taken set and `e0` the active lanes as the leg began (R38); the path's PC already names the
next instruction. -/
def Wave.split (w : Wave) (k : SlotId) (p : Path) (e0 t : Mask) (target : DWord) : Wave :=
  if t = 0 then w
  else if t = e0 then w.setPath k { p with pc := target }
  else
    let taken := { p with pc := target, p := t, e := t }
    let fall := { p with p := p.p &&& ~~~t, e := p.e &&& ~~~t }
    if maskCount t ≤ maskCount (e0 &&& ~~~t) then (w.setPath k fall).place k taken
    else (w.setPath k taken).place k fall

/-- A group of lanes with one target (R315). -/
structure LaneGroup where
  target : DWord
  lanes : Mask
  deriving DecidableEq, Repr

/-- R315: the groups of lanes with equal targets, in the order in which their lowest lanes come. -/
def groupTargets (ts : List (Nat × DWord)) : List LaneGroup :=
  ts.foldl (fun gs x =>
    match gs.findIdx? (·.target == x.2) with
    | some i => gs.modify i fun g => { g with lanes := g.lanes ||| Mask.lane x.1 }
    | none => gs ++ [⟨x.2, Mask.lane x.1⟩]) []

/-- The lowest lane of a mask; 96 when it is empty. -/
def lowestLane (m : Mask) : Nat := ((lanesOf m 96).head?).getD 96

/-- R315: rank groups by active lanes, most first; then the lowest active lane; groups without an active lane last, by
their lowest lane. -/
def rankGroups (e : Mask) (gs : List LaneGroup) : List LaneGroup :=
  sortBy (fun a b =>
    let na := maskCount (a.lanes &&& e)
    let nb := maskCount (b.lanes &&& e)
    if na ≠ nb then decide (nb ≤ na)
    else if na = 0 then decide (lowestLane a.lanes ≤ lowestLane b.lanes)
    else decide (lowestLane (a.lanes &&& e) ≤ lowestLane (b.lanes &&& e))) gs

/-- R315: the first group keeps the slot, the second takes the empty slot if there is one, the others go to the stack in
increasing order of their lowest lane. -/
def Wave.spread (w : Wave) (k : SlotId) : List Path → Wave
  | [] => w
  | first :: rest =>
    let w := w.setPath k first
    match rest with
    | [] => w
    | second :: others =>
      let (w, others) := match (w.slot k.other).path with
        | none => (w.take k.other second [], others)
        | some _ => (w, second :: others)
      (sortBy (fun (a b : Path) => decide (lowestLane a.p ≤ lowestLane b.p)) others).foldl (fun w p => w.pushPath p) w

/-- R315, R331: JMPV, and CALLV after its link vector is written: lanes outside the active lanes `e0` join the first
group. -/
def Wave.jumpLanes (w : Wave) (k : SlotId) (p : Path) (e0 : Mask) (dep : BitVec 16) (ts : List (Nat × DWord)) : Wave :=
  match rankGroups e0 (groupTargets ts) with
  | [] => w
  | g :: gs =>
    w.spread k ({ p with pc := g.target, p := g.lanes ||| (p.p &&& ~~~e0), e := g.lanes, dep := dep, jumped := some g.target }
      :: gs.map fun g => { p with pc := g.target, p := g.lanes, e := g.lanes, dep := dep, jumped := some g.target })

/-- R65: a PC has bits 1 and 0 zero, whatever software has written into a link vector (log entry 81). -/
def returnTarget (a : DWord) : DWord := a &&& ~~~3

/-- R315, R320, R332: RET. Every lane of P goes to its link address of the current depth. -/
def Wave.returnLanes (w : Wave) (k : SlotId) (p : Path) (e0 : Mask) : Wave :=
  let link := linkExpand (w.regs.img p.dep.toNat).link
  let gs := rankGroups e0 (groupTargets ((lanesOf p.p w.ww).map fun l => (l, returnTarget (laneAddr link l))))
  w.spread k (gs.map fun g => { p with pc := g.target, p := g.lanes, e := p.e &&& g.lanes, dep := p.dep - 1 })

/-- Number of groups a RET forms. -/
def Wave.returnGroups (w : Wave) (p : Path) : Nat :=
  (groupTargets ((lanesOf p.p w.ww).map fun l =>
    (l, returnTarget (laneAddr (linkExpand (w.regs.img p.dep.toNat).link) l)))).length

/-! ## Joins -/

/-- R318: the KIND 2 entry of a JOIN address. -/
def Wave.joinEntry (w : Wave) (j : DWord) : Option (Nat × StackEntry × Mask) :=
  (w.stack.zipIdx).findSome? fun x =>
    match x.1.join with
    | some (pc, m) => if pc == j then some (x.2, x.1, m) else none
    | none => none

/-- R318, R293: the bracket of two paths that meet. -/
def joinBracket (a b : Option Bracket) : Option Bracket :=
  match a with
  | some x => some x
  | none => b

/-- R318 step 1 and the bracket rule: does the JOIN raise 0x0104? -/
def Wave.joinRefused (w : Wave) (p : Path) (j : DWord) : Bool :=
  match w.joinEntry j with
  | none => false
  | some (_, e, m) =>
    e.path.dep != p.dep || p.p &&& ~~~m != 0
      || (match p.brk, e.path.brk with
          | some a, some b => a != b
          | _, _ => false)

/-- R318: JOIN at `j` of a path whose PC is already the next instruction. -/
def Wave.joinAt (w : Wave) (k : SlotId) (p : Path) (m : Mask) (j : DWord) : Wave :=
  match w.joinEntry j with
  | none =>
    if m &&& w.live &&& ~~~p.p = 0 then w
    else
      let e : StackEntry := ⟨p, some (j, m), [], (w.slot k).dueOf, none, false⟩
      { w with stack := w.stack ++ [e] }.refill k
  | some (i, e, jm) =>
    let c := p.p ||| e.path.p
    let merged := { p with p := c, e := p.e ||| e.path.e, brk := joinBracket p.brk e.path.brk }
    if jm &&& w.live &&& ~~~c = 0 then
      ({ w with stack := w.stack.eraseIdx i }.setSlot k ((w.slot k).addDue e.due)).setPath k merged
    else
      let due := e.due.addDue (w.slot k).dueOf
      let e' : StackEntry := { e with path := { merged with pc := e.path.pc }, due := due, mem := none, held := false }
      { w with stack := w.stack.set i e' }.refill k

/-- R319: KIND 2 entries whose lanes now cover what they wait for become running; a free slot takes the first, the freed
one before the other. -/
def Wave.completeJoins (w : Wave) (k : SlotId) : Wave :=
  (List.range w.stack.length).foldl (fun w _ =>
    let live := w.live
    match w.stack.findIdx? fun e => match e.join with
        | some (_, m) => m &&& live &&& ~~~e.path.p == 0
        | none => false with
    | none => w
    | some i =>
      match w.stack[i]? with
      | none => w
      | some e =>
        let w := { w with stack := w.stack.eraseIdx i }
        match (w.slot k).path, (w.slot k.other).path with
        | none, _ => w.take k e.path [] e.due
        | _, none => w.take k.other e.path [] e.due
        | _, _ => { w with stack := w.stack ++ [⟨e.path, none, [], e.due, none, false⟩] }) w

/-- R319: when every live path waits at a JOIN and none can complete, the entry nearest the oldest end becomes a running
path at its JOIN; it then takes 0x0104 there. -/
def Wave.stuckJoin (w : Wave) : Option (Nat × StackEntry × DWord) :=
  if w.s0.path.isNone && w.s1.path.isNone && !w.stack.isEmpty && w.stack.all (·.join.isSome) then
    match w.stack with
    | e :: _ => match e.join with
      | some (j, _) => some (0, e, j)
      | none => none
    | [] => none
  else none

end Sys2Proof.Machine
end

