-- ==== Sys2Proof/Machine/Guide.lean ====
section
/-! DEFINITION. The Guide's launches: the launch record and its checks (spec/15_scheduling.md R299 to R302), placement and
binding (R303, R305 to R307), retirement (spec/17_control_instr.md R338, spec/08_conversion.md R167). -/

namespace Sys2Proof.Machine

/-! ## Tiles and bank roles -/

/-- R195: the key of byte `o` of a core's operand space; none past its banks. -/
def tileKey (c : Core) (o : Nat) : Option Nat :=
  ((banksOf c.roles 2)[o / 49152]?).map fun b => storeKey c.num b (o % 49152)

/-- R31: first byte and size of a tile in the tile space. -/
def tileSpan : Tile → Nat × Nat
  | .o n => (2048 * n.toNat, 2048)
  | .z n => (262144 + 4096 * n.toNat, 4096)

/-- R31: is the tile backed by the core's operand banks? -/
def tileBacked (c : Core) (t : Tile) : Bool :=
  decide ((tileSpan t).1 + (tileSpan t).2 ≤ (banksOf c.roles 2).length * 49152)

/-- The keys of a tile's bytes: a tile never crosses a bank, since 2,048 and 4,096 divide where banks meet; the pieces
say so anyway. -/
def tilePieces (c : Core) (o n : Nat) : List Piece :=
  let first := min n (49152 - o % 49152)
  let p := fun o k => match tileKey c o with | some key => [⟨key, k, none⟩] | none => []
  if first = n then p o n else p o first ++ p (o + first) (n - first)

/-- Number of a tile's poison bit (R172). -/
def tileBit : Tile → Nat
  | .o n => n.toNat
  | .z n => 128 + n.toNat

/-- R171: is a tile in a launch's footprint? -/
def LaunchRec.holdsTile (r : LaunchRec) : Tile → Bool
  | .o n => decide (r.ofirst ≤ n.toNat) && decide (n.toNat < r.ofirst + r.ocnt)
  | .z n => decide (r.zfirst ≤ n.toNat) && decide (n.toNat < r.zfirst + r.zcnt)

/-- The tiles of a footprint. -/
def LaunchRec.tiles (r : LaunchRec) : List Tile :=
  ((List.range r.ocnt).map fun i => Tile.o (BitVec.ofNat 7 (r.ofirst + i)))
    ++ ((List.range r.zcnt).map fun i => Tile.z (BitVec.ofNat 4 (r.zfirst + i)))

/-- R194: a legal split: no illegal role and at least one cache bank. -/
def rolesLegal (d : DWord) : Bool :=
  (List.range 32).all (fun k => d.extractLsb' (2 * k) 2 != 3) && (List.range 32).any fun k => d.extractLsb' (2 * k) 2 == 0

/-- R196, R197: do roles back a scratch size and a footprint? -/
def rolesBack (roles : DWord) (r : LaunchRec) : Bool :=
  decide (r.scr ≤ (banksOf roles 1).length * 49152)
    && r.tiles.all fun t => decide ((tileSpan t).1 + (tileSpan t).2 ≤ (banksOf roles 2).length * 49152)

/-! ## The record (R299, R300) -/

/-- Read the 256 bytes of a launch record. -/
def parseLaunch (b : List Byte) : LaunchRec :=
  let w := fun o => BitVec.ofNat 32 (recNat b o 4)
  let d := fun o => BitVec.ofNat 64 (recNat b o 8)
  let win := fun k => (d (64 + 16 * k), recNat b (72 + 16 * k) 4)
  { entry := d 0, nwave := w 8, ww := recNat b 12 1, prio := recNat b 13 1 % 4, rb := recNat b 14 2, flags := w 16,
    scr := recNat b 20 4, sab := d 24, sasz := recNat b 32 4, psz := recNat b 36 4, pvbase := d 40,
    ofirst := recNat b 48 1, ocnt := recNat b 49 1, zfirst := recNat b 50 1, zcnt := recNat b 51 1, kw := w 52,
    brs := d 56, pw := #v[win 0, win 1, win 2, win 3], thsat := w 128, thftz := w 132, thnan := w 136,
    qrec := d 168, prod := d 176, rset := BitVec.ofNat 256 (recNat b 192 32), wset := BitVec.ofNat 256 (recNat b 224 32),
    reserved := recNat b 13 1 / 4 != 0 || recNat b 16 4 / 16 != 0 || recNat b 52 4 / 512 != 0 || recNat b 140 4 != 0
      || recNat b 76 4 != 0 || recNat b 92 4 != 0 || recNat b 108 4 != 0 || recNat b 124 4 != 0 }

/-- FLAGS (R300). -/
def LaunchRec.all (r : LaunchRec) : Bool := r.flags.getLsbD 0
def LaunchRec.strict (r : LaunchRec) : Bool := r.flags.getLsbD 1
def LaunchRec.splits (r : LaunchRec) : Bool := r.flags.getLsbD 2
def LaunchRec.view (r : LaunchRec) : Bool := r.flags.getLsbD 3

/-- KW (R299): KWV and KWORLD. -/
def LaunchRec.kwv (r : LaunchRec) : Bool := r.kw.getLsbD 8
def LaunchRec.kworld (r : LaunchRec) : BitVec 8 := r.kw.extractLsb' 0 8

/-- A global virtual address (R190). -/
def isGlobal (a : DWord) : Bool := a.extractLsb' 52 12 == 0

/-- R299: the ranges of the record's fields; those of a query or view are checked under 0x0008 only (R302). -/
def LaunchRec.inRange (r : LaunchRec) (query : Bool) : Bool :=
  isGlobal r.entry && r.entry.toNat % 4 == 0
    && (if query then r.nwave == 0 else r.nwave != 0)
    && decide (1 ≤ r.ww) && decide (r.ww ≤ 96)
    && decide (128 ≤ r.rb) && decide (r.rb ≤ 32768) && r.rb % 128 == 0
    && decide (r.scr ≤ 1572864) && r.sab.toNat % 4096 == 0 && r.sasz % 4096 == 0
    && r.psz % 4 == 0 && decide (r.psz ≤ 16777216) && r.pvbase.toNat % 128 == 0
    && decide (r.ofirst ≤ 127) && decide (r.ocnt ≤ 128) && decide (r.ofirst + r.ocnt ≤ 128)
    && decide (r.zfirst ≤ 15) && decide (r.zcnt ≤ 16) && decide (r.zfirst + r.zcnt ≤ 16)
    && (r.splits || r.brs == 0) && r.pw.toList.all fun x => x.1.toNat % 16 == 0

/-- The cores of a partition (R367), lowest first. -/
def Part.cores (p : Part) : List Nat := (List.range 1024).filter fun c => p.cpmask.getLsbD (c / 16)

/-! ## Placement (R305) -/

/-- The waves resident on a core: bound and not suspended. -/
def State.resident (s : State) (core : Nat) : List Wave :=
  s.waves.filter fun w => w.core.toNat == core && w.state != .suspended

/-- The lowest free entry of a quadrant's sixteen (R305). -/
def State.freeEntry (s : State) (core quad : Nat) : Option Nat :=
  ((List.range 16).map (· + 16 * quad)).find? fun e => (s.resident core).all fun w => w.entry != e

/-- Where a scratchpad allocation of a size goes: after the allocations of the core, or nowhere (R197). -/
def allocBase (c : Core) (size : Nat) : Option Nat :=
  let starts := 0 :: c.allocs.map fun a => (a.base + a.size + 127) / 128 * 128
  starts.find? fun b => decide (b + size ≤ scratchBytes c) && c.allocs.all fun a =>
    decide (b + size ≤ a.base) || decide (a.base + a.size ≤ b) || size == 0

/-- R196, R197, R305, R171: may a wave of a launch be bound on a core's quadrant? -/
def State.coreFits (s : State) (l : Launch) (core quad : Nat) : Bool :=
  let c := s.core core
  let here := s.resident core
  let roles := if l.lr.splits then l.lr.brs else c.roles
  (c.roles == roles || here.isEmpty) && rolesBack roles l.lr
    && ((c.alloc? l.id).isSome || (allocBase { c with roles := roles } l.lr.scr).isSome)
    && decide (((here.filter fun w => w.quad.toNat == quad).map (·.rb)).sum + l.lr.rb ≤ 32768)
    && here.all (fun w => match s.recOf w with
        | some r => l.lr.tiles.all fun t => !r.holdsTile t
        | none => true)
    && (s.freeEntry core quad).isSome

/-- Every core and quadrant of a launch's partition that a wave fits. -/
def State.placesOf (s : State) (l : Launch) : List (Nat × Nat) :=
  match s.part? l.part with
  | none => []
  | some p => p.cores.flatMap fun c => ((List.range 4).map fun q => (c, q)).filter fun x => s.coreFits l x.1 x.2

/-- R22: every register of a new wave. -/
def Regs.start (ww : Nat) : Regs :=
  let flat := LReg.flat ww 0
  { s := Vector.replicate 61 0, a := Vector.replicate 16 0, low := Vector.replicate 16 flat, lowRes := 0xFFFF,
    imgs := [⟨Vector.replicate 32 flat, [], 0xFFFF_FFFF, true⟩], glob := Vector.replicate 16 flat,
    fcode := 0, faddr := 0, ftok := 0, qabt := 0, nf := Vector.replicate 8 0, csat := 0, cftz := 0, cnan := 0,
    pwb := false, bad := [] }

/-- R196: the Guide writes a core's bank roles: banks that change role become zero and lose their poison. -/
def State.setRoles (s : State) (core : Nat) (roles : DWord) : State :=
  let c := s.core core
  let s := (List.range 32).foldl (fun s k =>
    if c.roles.extractLsb' (2 * k) 2 == roles.extractLsb' (2 * k) 2 then s else s.wipe (storeKey core k 0) 49152) s
  s.setCore { c with roles := roles, tilePoison := if c.roles == roles then c.tilePoison else 0 }

/-- R197: grant the launch's allocation on a core if it has none; its bytes are zero. -/
def State.grantAlloc (s : State) (l : Launch) (core : Nat) : State :=
  let c := s.core core
  if (c.alloc? l.id).isSome then s
  else match allocBase c l.lr.scr with
    | none => s
    | some b =>
      let s := (scratchPieces c b l.lr.scr).foldl (fun s p => s.wipe p.key p.len) s
      s.setCore { c with allocs := c.allocs ++ [⟨l.id, b, l.lr.scr⟩] }

/-- R171: the tiles of a footprint become +0 with poison clear. -/
def State.clearTiles (s : State) (core : Nat) (ts : List Tile) : State :=
  ts.foldl (fun s t =>
    let c := s.core core
    let s := (tilePieces c (tileSpan t).1 (tileSpan t).2).foldl (fun s p => s.wipe p.key p.len) s
    s.setCore { c with tilePoison := c.tilePoison &&& ~~~BitVec.ofNat 144 (2 ^ tileBit t) }) s

/-- R269: the stratum and first row of wave `i` of a launch over strata with rows. -/
def waveRows (ww : Nat) : List (Nat × Nat) → Nat → Option (Nat × Nat × Nat)
  | [], _ => none
  | (t, rows) :: r, i =>
    let n := (rows + ww - 1) / ww
    if i < n then some (t, ww * i, rows) else waveRows ww r (i - n)

/-- Waves of a launch over strata (R269). -/
def queryWaves (ww : Nat) (st : List (Nat × Nat)) : Nat := (st.map fun x => (x.2 + ww - 1) / ww).sum

/-- R269, R279, R341: the lanes of a query or view wave whose row exists and is no tombstone. -/
def State.startLanes (s : State) (world : BitVec 8) (strat first limit ww : Nat) : Mask :=
  match s.world? world with
  | none => 0
  | some w => match w.strata.find? (·.num == strat) with
    | none => 0
    | some t => maskOf ((List.range ww).filter fun l =>
        decide (first + l < limit) && (match t.rows[first + l]? with | some (some _) => true | _ => false))

/-- R303, R305: bind the next wave of a launch to a quadrant of a core. -/
def State.bindWave (s : State) (l : Launch) (core quad : Nat) : State :=
  match s.freeEntry core quad with
  | none => s
  | some entry =>
    let w := l.next
    let s := if l.lr.splits then s.setRoles core l.lr.brs else s
    let s := s.grantAlloc l core
    let s := s.clearTiles core l.lr.tiles
    let rows : Option RowCtx × Mask := match l.query with
      | none => (none, Mask.below l.lr.ww)
      | some q => match q.strata with
        | none => (none, 0)
        | some st => match waveRows l.lr.ww st w with
          | none => (none, 0)
          | some (t, first, limit) =>
            (some ⟨q.world, t, BitVec.ofNat 32 first, if q.view.isSome then some limit else none⟩,
              s.startLanes q.world t first limit l.lr.ww)
    let spb := l.lr.sab + BitVec.ofNat 64 (w * l.lr.sasz)
    let path : Path := ⟨l.lr.entry, Mask.below l.lr.ww, rows.2, 0, none, none⟩
    let wave : Wave :=
      { id := s.nextId, launch := l.id, wid := BitVec.ofNat 32 w, core := BitVec.ofNat 10 core,
        quad := BitVec.ofNat 2 quad, entry := entry, state := .bound, ww := l.lr.ww, rb := l.lr.rb, spb := spb,
        spl := spb + BitVec.ofNat 64 l.lr.sasz, pvb := l.lr.pvbase + BitVec.ofNat 64 (w * 96 * l.lr.psz),
        asid := l.asid, part := l.part, regs := Regs.start l.lr.ww, s0 := { Slot.empty with path := some path },
        s1 := Slot.empty, stack := [], brkSeq := 0, hamper := none, rows := rows.1, batch := 0, gbars := 0,
        gbarAt := false, kept := false, started := false, fences := [], refusedFit := false, unread := false }
    { s with waves := s.waves ++ [wave], nextId := s.nextId + 1 }.setLaunch { l with next := w + 1 }

/-! ## Acceptance (R302) -/

/-- Bytes of one record in an ASID, read in units of 16 bytes: none when a page is missing or a line is damaged. -/
def State.readUnits (s : State) (asid : BitVec 16) (a : DWord) : Nat → Option (List Byte)
  | 0 => some []
  | n + 1 => match s.translate asid a 16 .read with
    | .error _ => none
    | .ok p =>
      if (s.readFault [p]).isSome then none
      else match s.readUnits asid (a + 16) n with
        | none => none
        | some r => some (Memory.read s.mem p.key 16 ++ r)

def State.readRecord (s : State) (asid : BitVec 16) (a : DWord) (n : Nat) : Option (List Byte) :=
  if a.extractLsb' 52 12 != 0 then none else s.readUnits asid a (n / 16)

/-- R294: a query record: REQ, EXC and WORLD, none when it is malformed. -/
def parseQuery (b : List Byte) : Option (BitVec 256 × BitVec 256 × BitVec 8) :=
  let req := BitVec.ofNat 256 (recNat b 0 32)
  let exc := BitVec.ofNat 256 (recNat b 32 32)
  if req &&& exc == 0 && recZero b 65 15 then some (req, exc, BitVec.ofNat 8 (recNat b 64 1)) else none

/-- The component types of a stratum as a mask. -/
def Stratum.mask (t : Stratum) : BitVec 256 := t.comps.foldl (fun m c => m ||| BitVec.ofNat 256 (2 ^ c.1)) 0

/-- R269: the strata that a query matches, with their rows, in increasing number. -/
def World.matching (w : World) (req exc : BitVec 256) : List (Nat × Nat) :=
  sortBy (fun a b => decide (a.1 ≤ b.1))
    ((w.strata.filter fun t => t.mask &&& req == req && t.mask &&& exc == 0).map fun t => (t.num, t.rows.length))

/-- R271: systems submitted to a stage of a world; one that is refused as its stage begins keeps its index. -/
def State.stageSubs (s : State) (w : World) (stage : Nat) : Nat :=
  if stage == w.stage then w.subs
  else (s.launches.filter fun l => (match l.query with
    | some q => q.view.isNone && q.world == w.id && q.stage == stage
    | none => false)).length

/-- R341: a LAUNCHQ's query or view, or none when it does not fit (0x0008). `stage` is the world's stage when the LAUNCHQ
reached the hub die, where it has then waited for a cairn (R271, R277). -/
def State.launchQuery (s : State) (asid : BitVec 16) (part : BitVec 3) (stage : Option Nat) (r : LaunchRec) :
    Option LaunchQuery :=
  if !r.kwv then none
  else if r.view then
    match s.world? (r.qrec.extractLsb' 6 8) with
    | none => none
    | some w =>
      if w.part != part || w.id != r.kworld || r.rset != 0 || r.wset != 0 || r.qrec.extractLsb' 14 50 != 0 then none
      else match w.views.find? (·.idx == (r.qrec.extractLsb' 0 6).toNat) with
        | none => none
        | some v => some ⟨w.id, 0, 0, some v.idx, 0, 0, some (v.pins.filter fun x => x.2 != 0), false⟩
  else if r.qrec.toNat % 16 != 0 then none
  else match s.readRecord asid r.qrec 80 with
    | none => none
    | some b => match parseQuery b with
      | none => none
      | some (req, exc, wid) => match s.world? wid with
        | none => none
        | some w =>
          let st := stage.getD w.stage
          let sub := s.stageSubs w st
          if w.part != part || wid != r.kworld || decide (4294967295 ≤ sub) then none
          else
            -- R341: the strata are fixed when the stage begins: now, if no earlier stage's cairn is outstanding
            some ⟨wid, req, exc, none, st, sub,
              if w.cairns.all fun c => decide (st ≤ c.stage) then some ((w.matching req exc).filter fun x => x.2 != 0) else none, false⟩

/-- R340: LAUNCH takes no query fields. -/
def LaunchRec.plainOk (r : LaunchRec) : Bool :=
  !r.view && r.qrec == 0 && r.kw == 0 && r.rset == 0 && r.wset == 0

/-- R302: the first reason that refuses a launch; what 0x0004 and 0x0008 test is decided by the caller. `granted` is false
for a root launch whose partition or ASID its port was not granted (0x000A). -/
def State.launchReason (s : State) (part : BitVec 3) (query granted : Bool) (r : LaunchRec) (allFits queryFits : Bool) :
    Option (BitVec 16) :=
  if r.reserved then some 1
  else if !r.inRange query then some 2
  else if r.splits && !rolesLegal r.brs then some 3
  else if !allFits then some 4
  else if !((match s.part? part with | some p => p.cores | none => []).any fun c =>
      rolesBack (if r.splits then r.brs else (s.core c).roles) r) then some 5
  else if decide (r.sasz < (44032 + r.tileBytes + 4095) / 4096 * 4096) then some 6
  else if r.prod != 0 && !(s.launches.any fun l => l.addr == r.prod && l.part == part && l.state != .refused) then some 7
  else if (if query then !queryFits else !r.plainOk) then some 8
  else if !granted then some 10
  else none

/-- R301: the device writes STATUS, where the record lies in an ASID the launch may use. A page that R202 lets no store write
keeps its bytes (log entry 88). -/
def State.writeStatus (s : State) (l : Launch) : State :=
  match s.translate l.asid (l.addr + 184) 8 .write with
  | .error _ => s
  | .ok p =>
    let st := match l.state with | .accepted => 1 | .complete => 2 | .refused => 3
    s.store [p] (leBytes (st + 256 * l.reason.toNat + 4294967296 * l.retired) 8)

/-- R15, R276, R278, R295: is a cairn ready: have the systems of the stage it ends retired, and the launches over dropped
views? -/
def State.cairnDue (s : State) (w : World) (c : Cairn) : Bool :=
  s.launches.all fun l => match l.query with
    | none => true
    | some q => q.world != w.id || l.state != .accepted
        || (match q.view with | none => decide (c.stage < q.stage) | some _ => !q.dropped)

/-- R15: cairns that have become ready take their numbers. -/
def State.markReady (s : State) : State :=
  s.worlds.foldl (fun s w => w.cairns.foldl (fun s c =>
    if c.ready.isSome || !s.cairnDue w c then s
    else
      let mark := fun (x : Cairn) => if x == c then { x with ready := some s.readySeq } else x
      { s with readySeq := s.readySeq + 1, worlds := s.worlds.map fun x =>
          if x.id == w.id then { x with cairns := x.cairns.map mark } else x }) s) s

/-- R301, R341: a launch whose waves have all retired is complete; a cairn that waited for it is ready (R15). -/
def State.finishLaunch (s : State) (id : Nat) : State :=
  match s.launch? id with
  | none => s
  | some l =>
    let started := match l.query with | some q => q.strata.isSome | none => true
    if l.state == .accepted && started && l.retired == l.total then
      let l := { l with state := .complete }
      ((s.setLaunch l).writeStatus l).markReady
    else s

/-! ## Conditions on binding (R271, R306, R307) -/

/-- Waves of a launch that are neither retired nor bound and running. -/
def State.unstarted (s : State) (l : Launch) : Nat :=
  (l.total - l.next) + (s.waves.filter fun w => w.launch == l.id && w.state == .suspended).length

/-- R271: has a system of the same stage, submitted earlier and in conflict, a wave left? Has its stage begun? -/
def State.stageOpen (s : State) (l : Launch) : Bool :=
  match l.query with
  | none => true
  | some q =>
    q.strata.isSome && (q.view.isSome || s.launches.all fun o =>
      match o.query with
      | none => true
      | some p => o.id == l.id || p.view.isSome || p.world != q.world || p.stage != q.stage || decide (q.sub ≤ p.sub)
          || o.state != .accepted
          || ((o.lr.wset &&& (l.lr.rset ||| l.lr.wset)) == 0 && (l.lr.wset &&& (o.lr.rset ||| o.lr.wset)) == 0))

/-- R307: how many waves of a launch the free slots could bind at once: on a quadrant as many as it has free entries and
its free run slots cover (R305); on a core one at most when the launch has a tile footprint (R171). -/
def State.slotsFor (s : State) (l : Launch) : Nat :=
  let room := fun (x : Nat × Nat) =>
    let here := (s.resident x.1).filter fun w => w.quad.toNat == x.2
    min (((List.range 16).map (· + 16 * x.2)).filter fun e => here.all fun w => w.entry != e).length
      ((32768 - (here.map (·.rb)).sum) / max 1 l.lr.rb)
  let places := s.placesOf l
  (((places.map (·.1)).eraseDups).map fun c =>
    let n := ((places.filter (·.1 == c)).map room).sum
    if l.lr.tiles.isEmpty then n else min 1 n).sum

/-- R307: does the producer leave the consumer a place? Free slots that could bind the producer's waves are counted. -/
def State.producerLeaves (s : State) (l : Launch) : Bool :=
  if l.lr.prod == 0 then true
  else match s.launches.find? fun o => o.addr == l.lr.prod && o.part == l.part && o.state != .refused with
    | none => true
    | some p => p.state == .complete || s.unstarted p == 0 || decide (s.unstarted p < s.slotsFor p)

/-- R306: bind every wave of a launch at once; none when R271 or R307 holds a wave back or one finds no place. -/
def State.bindAll (s : State) (id : Nat) : Nat → Option State
  | 0 => some s
  | n + 1 => match s.launch? id with
    | none => none
    | some l =>
      if !(s.stageOpen l && s.producerLeaves l) then none
      else match s.placesOf l with
        | [] => none
        | (c, q) :: _ => (s.bindWave l c q).bindAll id n

/-- R302: STATUS of a wave's launch whose record could not be read, where it can be written. -/
def State.unreadLaunch (s : State) (asid : BitVec 16) (part : BitVec 3) (addr : DWord) : State :=
  s.writeStatus ⟨s.nextId, addr, asid, part, parseLaunch [], none, .refused, 0, 9, 0, 0, false⟩

/-- R299 to R306, R339: the Guide takes a launch record of an ASID. The answer is 0, or the reason of the refusal; a launch
that may not use its ASID writes no STATUS, nor one whose record could not be read. -/
def State.acceptLaunch (s : State) (asid : BitVec 16) (part : BitVec 3) (query granted : Bool) (stage : Option Nat)
    (addr : DWord) : State × BitVec 16 :=
  match s.readRecord asid addr 256 with
  | none => (s, 9)
  | some b =>
    let r := parseLaunch b
    let q := if query then s.launchQuery asid part stage r else none
    let total := match q with
      | some q => match q.strata with | some st => queryWaves r.ww st | none => 0
      | none => r.nwave.toNat
    let l : Launch := ⟨s.nextId, addr, asid, part, r, q, .accepted, 0, 0, 0, total, false⟩
    let begun := match q with | some q => q.strata.isSome | none => true
    let s1 := { s with nextId := s.nextId + 1, launches := s.launches ++ [l] }
    let bound : Option State := if r.all && begun then s1.bindAll l.id total else some s1
    match s.launchReason part query granted r (!(r.all && begun) || bound.isSome) q.isSome with
    | some c =>
      let l := { l with query := none, state := .refused, reason := c }
      let s1 := { s with nextId := s.nextId + 1, launches := s.launches ++ [l] }
      (if granted then s1.writeStatus l else s1, c)
    | none =>
      let s2 := bound.getD s1
      let s2 := match q with
        | some q => if q.view.isNone && (match s2.world? q.world with | some x => x.stage == q.stage | none => false) then
            (match s2.world? q.world with | some w => s2.setWorld { w with subs := w.subs + 1 } | none => s2) else s2
        | none => s2
      ((s2.writeStatus l).finishLaunch l.id, 0)

/-! ## Retirement (R338, R167, R197, R345, R301) -/

/-- R167: add a counter into an 8-byte total of the launch record, stopping at 2^64 - 1. A page that R202 lets no store write
keeps its bytes (log entry 88). -/
def State.addTotal (s : State) (l : Launch) (off n : Nat) : State :=
  match s.translate l.asid (l.addr + BitVec.ofNat 64 off) 8 .write with
  | .error _ => s
  | .ok p =>
    let old := leNat (readPieces s.mem [p])
    s.store [p] (leBytes (min (old + n) (2 ^ 64 - 1)) 8)

/-- R197, R345: release what a launch holds on a core that none of its waves is on. -/
def State.leaveCore (s : State) (launch core : Nat) : State :=
  if (s.waves.any fun w => w.launch == launch && w.core.toNat == core && w.state != .suspended) then s
  else
    let c := s.core core
    s.setCore { c with allocs := c.allocs.filter (fun a => a.launch != launch),
                       bars := c.bars.filter (fun b => b.2.hold != some launch) }

/-- R293, R274: the brackets a retiring wave leaves open are closed, and their groups abort. -/
def World.closeWave (w : World) (wave : Nat) : World :=
  let close := fun (g : Group) =>
    if g.wave == wave && g.closed.isNone then { g with closed := some w.seq, aborted := true } else g
  { w with groups := w.groups.map close, seq := w.seq + 1 }

/-- R338: the wave retires. -/
def State.retire (s : State) (w : Wave) : State :=
  match s.launch? w.launch with
  | none => { s with waves := s.waves.filter (·.id != w.id) }
  | some l =>
    let s := s.addTotal l 144 w.regs.csat.toNat
    let s := s.addTotal l 152 w.regs.cftz.toNat
    let s := s.addTotal l 160 w.regs.cnan.toNat
    let again := fun (x : Wave) => if x.part == w.part then { x with refusedFit := false } else x
    let s := { s with waves := List.map again (s.waves.filter fun x => x.id != w.id), worlds := s.worlds.map (fun (x : World) =>
        if x.groups.any (fun g => g.wave == w.id && g.closed.isNone) then x.closeWave w.id else x) }
    let s := s.leaveCore l.id w.core.toNat
    let l := { l with retired := l.retired + 1 }
    ((s.setLaunch l).writeStatus l).finishLaunch l.id

end Sys2Proof.Machine
end

