-- ==== Sys2Proof/Machine/Barriers.lean ====
section
/-! DEFINITION. What a closing instruction finds at its marker, and core barriers (spec/17_control_instr.md R344 to
R348). -/

namespace Sys2Proof.Machine

/-- What the closing instruction of a parked leg finds: it may commit; it waits; it is an unsatisfied wait of R311, on a
barrier or not; it faults at the leg; or it is a double fault (R395, R396). -/
inductive Ready where
  | go
  | wait
  | unsat (bar : Option (BitVec 6))
  | trap (t : Trap)
  | double (code : BitVec 16) (addr : DWord)
  deriving DecidableEq, Repr

/-- R344: an operation that leaves ARR and BYT zero completes the phase. -/
def Barrier.settle (b : Barrier) : Barrier :=
  if b.arr == 0 && b.byt == 0 then { b with ph := !b.ph, arr := b.exp } else b

/-- R346: is a wave of the core waiting on the barrier? -/
def State.barWaited (s : State) (core : Nat) (b : BitVec 6) : Bool :=
  s.waves.any fun w => w.core.toNat == core && w.state != .suspended &&
    (w.s0.waitBar.contains b || w.s1.waitBar.contains b || w.stack.any fun e => e.waitBar.contains b)

/-- R346: the identifier in a register, none above 63. -/
def barId (id : Word) : Option (BitVec 6) := if id.toNat < 64 then some (id.extractLsb' 0 6) else none

/-- A fault of the leg at its closing instruction: mask E, FADDR the instruction (R391). -/
def Leg.trapClosing (leg : Leg) (code : BitVec 16) : Trap := { code := code, addr := leg.closingAt, mask := leg.e0 }

/-- R346: the barrier a leg names, when the wave's launch holds it. -/
def State.heldBar (s : State) (w : Wave) (id : Word) : Option (BitVec 6 × Barrier) :=
  match barId id with
  | none => none
  | some b =>
    let x := (s.core w.core.toNat).bar b
    if x.hold == some w.launch then some (b, x) else none

/-- R346: the check of BINIT. -/
def State.binitOk (s : State) (w : Wave) (id n : Word) : Bool :=
  match barId id with
  | none => false
  | some b =>
    let x := (s.core w.core.toNat).bar b
    decide (1 ≤ n.toNat) && decide (n.toNat ≤ 65535)
      && (x.hold == none
        || (x.hold == some w.launch && x.arr == x.exp && x.byt == 0 && !s.barWaited w.core.toNat b))

/-- Put a barrier of the wave's core. -/
def State.putBar (s : State) (w : Wave) (b : BitVec 6) (x : Barrier) : State :=
  s.setCore ((s.core w.core.toNat).setBar b x)

/-- R346: BINIT's update. -/
def State.binit (s : State) (w : Wave) (id n : Word) : State :=
  match barId id with
  | none => s
  | some b => s.putBar w b ⟨some w.launch, false, n.extractLsb' 0 16, n.extractLsb' 0 16, 0⟩

/-- R346: arrivals of BARV: 1 when sB is 0. -/
def barvCount (n : Word) : Nat := if n.toNat = 0 then 1 else n.toNat

/-- R346: BARV's update; the parity the arrival joined. -/
def State.barv (s : State) (w : Wave) (id n : Word) : State × Word :=
  match s.heldBar w id with
  | none => (s, 0)
  | some (b, x) =>
    (s.putBar w b { x with arr := x.arr - BitVec.ofNat 16 (barvCount n) }.settle, if x.ph then 1 else 0)

/-- R346: BEXP's update. -/
def State.bexp (s : State) (w : Wave) (id n : Word) : State × Word :=
  match s.heldBar w id with
  | none => (s, 0)
  | some (b, x) => (s.putBar w b { x with byt := x.byt + n, arr := x.arr - 1 }.settle, if x.ph then 1 else 0)

/-- R258, R345: Porter counts bytes into a barrier the launch holds. -/
def State.countBytes (s : State) (core launch : Nat) (b : BitVec 6) (n : Nat) : State :=
  let c := s.core core
  let x := c.bar b
  if x.hold == some launch then s.setCore (c.setBar b { x with byt := x.byt - BitVec.ofNat 32 n }.settle) else s

/-- R348: waves of the launch that have not retired and have not arrived at the GBAR count of this one. -/
def State.gbarDone (s : State) (w : Wave) : Bool :=
  (match s.launch? w.launch with | some l => l.next == l.total | none => true)
    && s.waves.all fun x => x.launch != w.launch || decide (w.gbars < x.gbars) || (x.gbars == w.gbars && x.gbarAt) || x.id == w.id

/-- R348: the wave has arrived. -/
def Wave.arriveGbar (w : Wave) : Wave := { w with gbarAt := true }

/-- R348: the wave passes the GBAR. -/
def Wave.passGbar (w : Wave) : Wave := { w with gbars := w.gbars + 1, gbarAt := false }

end Sys2Proof.Machine
end

