-- ==== Sys2Proof/Machine/Porter.lean ====
section
/-! DEFINITION. Porter (spec/12_memory_instr.md R253 to R262): descriptors and their checks, chunks, suspension, batches. -/

namespace Sys2Proof.Machine

/-- R254, R255, R256: decode a descriptor; none when the first row of R256's table fails. -/
def parseDesc (b : List Byte) : Option PDesc :=
  let ctl := recNat b 16 4
  let kind := ctl % 4
  let ben := ctl / 16384 % 2 == 1
  let bar := BitVec.ofNat 6 (ctl / 256)
  let d := fun o => BitVec.ofNat 64 (recNat b o 8)
  let w := fun o => BitVec.ofNat 32 (recNat b o 4)
  let n0 := recNat b 20 4
  if kind == 3 || ctl / 32768 != 0 || ctl / 4 % 64 != 0 || (!ben && bar != 0) then none
  else if kind == 0 then
    if recZero b 24 40 then some ⟨0, d 0, d 8, ben, bar, n0, 1, 1, 1, 0, #v[0, 0, 0], #v[0, 0, 0]⟩ else none
  else if kind == 1 then
    if recZero b 60 4 then
      some ⟨1, d 0, d 8, ben, bar, n0, recNat b 24 4, recNat b 28 4, recNat b 32 4, 0, #v[w 36, w 40, w 44], #v[w 48, w 52, w 56]⟩
    else none
  else
    if recZero b 40 24 && decide (1 ≤ n0) && decide (n0 ≤ 16777216) then
      some ⟨2, d 0, d 8, ben, bar, n0, recNat b 24 4, recNat b 28 4, 1, d 32, #v[0, 0, 0], #v[0, 0, 0]⟩
    else none

/-- Destination bytes of a command (R257). -/
def PDesc.total (p : PDesc) : Nat :=
  match p.kind with
  | 0 => p.n0
  | 1 => p.n0 * p.n1 * p.n2 * p.n3
  | _ => p.n0 * p.n1

/-- R257: offset of destination byte `j` from DST, modulo 2^64. -/
def PDesc.dstOff (p : PDesc) (j : Nat) : DWord :=
  match p.kind with
  | 1 => BitVec.ofNat 64 (j % p.n0) + BitVec.ofNat 64 (j / p.n0 % p.n1) * (p.ds[0]).sext
      + BitVec.ofNat 64 (j / p.n0 / p.n1 % p.n2) * (p.ds[1]).sext + BitVec.ofNat 64 (j / p.n0 / p.n1 / p.n2) * (p.ds[2]).sext
  | _ => BitVec.ofNat 64 j

/-- R257: offset of the source of destination byte `j` from SRC; a walk's comes from its table entry `e`. -/
def PDesc.srcOff (p : PDesc) (j : Nat) (e : Word) : DWord :=
  match p.kind with
  | 0 => BitVec.ofNat 64 j
  | 1 => BitVec.ofNat 64 (j % p.n0) + BitVec.ofNat 64 (j / p.n0 % p.n1) * (p.ss[0]).sext
      + BitVec.ofNat 64 (j / p.n0 / p.n1 % p.n2) * (p.ss[1]).sext + BitVec.ofNat 64 (j / p.n0 / p.n1 / p.n2) * (p.ss[2]).sext
  | _ => BitVec.ofNat 64 (p.n0 * e.toNat + j % p.n0)

/-- R256: window and locality of an address a descriptor names. -/
def State.descAddr (_s : State) (w : Wave) (a : DWord) : Option (BitVec 16) :=
  match windowOf a with
  | none => some 0x1103
  | some .priv => some 0x1104
  | some .glob => none
  | some .scr => if (a.extractLsb' 40 10).toNat == w.core.toNat then none else some 0x1101
  | some .clus => if (a.extractLsb' 42 7).toNat == w.core.toNat / 8 then none else some 0x1102

/-- Core and offset of a scratchpad or cluster-shared address. -/
def localSpot (a : DWord) : Option (Nat × Nat) :=
  match windowOf a with
  | some .scr => some ((a.extractLsb' 40 10).toNat, (a.extractLsb' 0 21).toNat)
  | some .clus => some ((a.extractLsb' 42 7).toNat * 8 + (a.extractLsb' 21 3).toNat, (a.extractLsb' 0 21).toNat)
  | _ => none

/-- R256: is `n` bytes from an address inside the launch's allocation, where the address is in a local store? -/
def State.inOwnAlloc (s : State) (launch : Nat) (a : DWord) (n : Nat) : Bool :=
  match localSpot a with
  | none => true
  | some (c, o) => match (s.core c).alloc? launch with
    | none => false
    | some x => decide (x.base ≤ o) && decide (o + n ≤ x.base + x.size)

/-- The core or the cluster that a local address names. -/
def localUnit (a : DWord) : Option Nat :=
  match windowOf a with
  | some .scr => some (a.extractLsb' 40 10).toNat
  | some .clus => some (a.extractLsb' 42 7).toNat
  | _ => none

/-- R256, R197: are the bytes of the row at an offset of a range in an allocation of the launch? The rows of a cluster-shared
range may lie on several cores of its cluster. -/
def State.rowInAlloc (s : State) (launch : Nat) (a o : DWord) (n : Nat) : Bool :=
  windowOf (a + o) == windowOf a && localUnit (a + o) == localUnit a && s.inOwnAlloc launch (a + o) n

/-- R256: are a strided range's bytes inside the launch's allocations? Where the corners of its rows lie on one core every row
does (an allocation has no gaps); else every row is tried. -/
def State.stridedInAlloc (s : State) (launch : Nat) (a : DWord) (p : PDesc) (st : Vector Word 3) : Bool :=
  let at_ := fun i1 i2 i3 =>
    BitVec.ofNat 64 i1 * (st[0]).sext + BitVec.ofNat 64 i2 * (st[1]).sext + BitVec.ofNat 64 i3 * (st[2]).sext
  let rows := fun (is1 is2 is3 : List Nat) (ok : DWord → Bool) =>
    is1.all fun i1 => is2.all fun i2 => is3.all fun i3 => ok (at_ i1 i2 i3)
  (localSpot a).isNone
    || (rows [0, p.n1 - 1] [0, p.n2 - 1] [0, p.n3 - 1] fun o =>
        s.rowInAlloc launch a o p.n0 && (localSpot (a + o)).map (·.1) == (localSpot a).map (·.1))
    || rows (List.range p.n1) (List.range p.n2) (List.range p.n3) fun o => s.rowInAlloc launch a o p.n0

/-- R256: the checks of PCOPY at issue, in the order of its table. -/
def State.descFault (s : State) (w : Wave) (p : PDesc) : Option (BitVec 16 × DWord) :=
  let addrs := if p.kind = 2 then [p.src, p.dst, p.table] else [p.src, p.dst]
  match addrs.findSome? fun a => if windowOf a == none then some (0x1103, a) else none with
  | some e => some e
  | none =>
    match addrs.findSome? fun a => (s.descAddr w a).map fun c => (c, a) with
    | some e => some e
    | none =>
      if p.total = 0 then none
      else
        let bad := fun (a : DWord) (ok : Bool) => if ok then none else some ((0x0104 : BitVec 16), a)
        match p.kind with
        | 0 => (bad p.src (s.inOwnAlloc w.launch p.src p.n0)).or (bad p.dst (s.inOwnAlloc w.launch p.dst p.n0))
        | 1 => (bad p.src (s.stridedInAlloc w.launch p.src p p.ss)).or (bad p.dst (s.stridedInAlloc w.launch p.dst p p.ds))
        | _ => ((bad p.dst (s.inOwnAlloc w.launch p.dst p.total)).or (bad p.table (s.inOwnAlloc w.launch p.table (4 * p.n1)))).or
            (bad p.src (p.n2 == 0 || s.inOwnAlloc w.launch p.src (p.n2 * p.n0)))

/-- R259: the key of one byte of a command; a byte address that is non-canonical takes 0x1103, one whose window differs
from its base's 0x1104. -/
def State.engineByte (s : State) (c : PorterCmd) (base a : DWord) (u : Use) : Except (BitVec 16) Piece :=
  if windowOf a == none then .error 0x1103
  else if windowOf a != windowOf base then .error 0x1104
  else match localSpot a with
    | none => s.translate c.asid a 1 u
    | some (core, o) =>
      if s.inOwnAlloc c.launch a 1 then
        match scratchPieces (s.core core) o 1 with
        | [p] => .ok p
        | _ => .error 0x0104
      else .error 0x0104

/-- Read one byte of a command's source or table, with the faults of R259. -/
def State.engineRead (s : State) (c : PorterCmd) (base a : DWord) : Except (BitVec 16 × DWord × List Nat) Byte :=
  match s.engineByte c base a .read with
  | .error e => .error (e, a, [])
  | .ok p => match s.readFault [p] with
    | some e => .error (e.1, a, e.2)
    | none => .ok (Memory.get s.mem p.key)

/-- The table entry of a walk for destination byte `j` (R257). -/
def State.walkEntry (s : State) (c : PorterCmd) (j : Nat) : Except (BitVec 16 × DWord × List Nat) Word :=
  let a := c.desc.table + BitVec.ofNat 64 (4 * (j / c.desc.n0))
  match s.engineRead c c.desc.table a, s.engineRead c c.desc.table (a + 1), s.engineRead c c.desc.table (a + 2),
      s.engineRead c c.desc.table (a + 3) with
  | .ok b0, .ok b1, .ok b2, .ok b3 =>
    let e := BitVec.ofNat 32 (leNat [b0, b1, b2, b3])
    let block := c.desc.src + BitVec.ofNat 64 (c.desc.n0 * e.toNat)
    if e == 0xFFFF_FFFF then .ok e
    else if c.desc.n2 != 0 && decide (c.desc.n2 ≤ e.toNat) then .error (0x0104, a, [])
    else if c.desc.n2 == 0 && (localSpot c.desc.src).isSome &&
        !((localSpot block).isSome && s.inOwnAlloc c.launch block c.desc.n0) then
      .error (0x0104, a, [])
    else .ok e
  | .error e, _, _, _ => .error e
  | _, .error e, _, _ => .error e
  | _, _, .error e, _ => .error e
  | _, _, _, .error e => .error e

/-- One destination byte of a chunk: where it goes and its value (R257, R258). -/
def State.chunkByte (s : State) (c : PorterCmd) (j : Nat) : Except (BitVec 16 × DWord × List Nat) (Piece × Byte) :=
  let dst := c.desc.dst + c.desc.dstOff j
  let src : Except (BitVec 16 × DWord × List Nat) Byte :=
    if c.desc.kind = 2 then
      match s.walkEntry c j with
      | .error e => .error e
      | .ok e => if e == 0xFFFF_FFFF then .ok 0 else s.engineRead c c.desc.src (c.desc.src + c.desc.srcOff j e)
    else s.engineRead c c.desc.src (c.desc.src + c.desc.srcOff j 0)
  match src with
  | .error e => .error e
  | .ok b => match s.engineByte c c.desc.dst dst .write with
    | .error e => .error (e, dst, [])
    | .ok p =>
      match s.deadFault [p] with
      | some e => if p.host?.isSome then .ok (p, b) else .error (e.1, dst, e.2)
      | none => .ok (p, b)

/-- The bytes of a chunk, from destination byte `j` on; the first fault in this order stops it (R258, R259). -/
def State.chunkBytes (s : State) (c : PorterCmd) (j : Nat) : Nat → Except (BitVec 16 × DWord × List Nat) (List (Piece × Byte))
  | 0 => .ok []
  | n + 1 => match s.chunkByte c j with
    | .error e => .error e
    | .ok x => match s.chunkBytes c (j + 1) n with
      | .error e => .error e
      | .ok xs => .ok (x :: xs)

def State.setPorter (s : State) (c : PorterCmd) : State :=
  { s with porter := s.porter.map fun x => if x.tok == c.tok then c else x }

/-- R226: may a command start its accesses? Every command a fence puts before it has finished. -/
def State.tokensDone (s : State) (ts : List DWord) : Bool :=
  ts.all fun t => (s.porter.all fun c => c.tok != t) && s.basalt.all fun c => c.tok != t || c.done

/-- R227: of a byte that two commands of one wave write, the later command's write stands: the earlier commands note the
bytes. -/
def State.noteOver (s : State) (c : PorterCmd) (ks : List Nat) : State :=
  let old := ((s.porter.takeWhile fun x => x.tok != c.tok).filter (·.wave == c.wave)).map (·.tok)
  if old.isEmpty then s
  else { s with porter := s.porter.map fun x => if old.contains x.tok then { x with rewritten := x.rewritten ++ ks } else x }

/-- Is the command a load with a source? -/
def TileCmd.isLoad : TileCmd → Bool
  | .load .. | .loadW .. | .gather .. => true
  | _ => false

/-- R179: may a load of a wave still read its source? One that has read it may have to read it again (R176). -/
def BasaltCmd.reads (c : BasaltCmd) (w : Nat) : Bool := c.wave == w && c.cmd.isLoad && !c.done

/-- Bytes of memory as they stand, kept for a load that has not kept them yet. -/
def BasaltCmd.keep (c : BasaltCmd) (bs : List (Nat × Byte)) : BasaltCmd :=
  { c with kept := c.kept ++ bs.filter fun x => !c.kept.any (·.1 == x.1) }

/-- R179: a wave stores to bytes that its loads may still read. -/
def State.keepFor (s : State) (w : Nat) (mem : List Host.Cell) (ps : List Piece) : State :=
  if s.basalt.any (·.reads w) then
    let bs := ps.flatMap fun p => (List.range p.len).map fun i => (p.key + i, Memory.get mem (p.key + i))
    { s with basalt := s.basalt.map fun c => if c.reads w then c.keep bs else c }
  else s

/-- R179, R226: a Porter command writes bytes that its wave's loads may still read. A load that a fence puts behind the command
reads them as it writes them; one that was committed before it reads them as they were. -/
def State.keepForCopy (s : State) (p : PorterCmd) (xs : List (Piece × Byte)) : State :=
  if s.basalt.any (·.reads p.wave) then
    let now := xs.map fun x => (x.1.key, Memory.get s.mem x.1.key)
    let one := fun (c : BasaltCmd) =>
      if !c.reads p.wave then c
      else if c.after.contains p.tok then
        { c with kept := c.kept.map fun y => ((xs.find? (·.1.key == y.1)).map fun x => (y.1, x.2)).getD y }
      else if c.early.contains p.tok then c else c.keep now
    { s with basalt := s.basalt.map one }
  else s

/-- Bytes of a command's chunk are performed. -/
def State.performBytes (s : State) (c : PorterCmd) (all : List (Piece × Byte)) : State :=
  let s := (s.noteOver c (all.map fun x => x.1.key)).keepForCopy c all
  let xs := all.filter fun x => !c.rewritten.contains x.1.key
  let t := xs.foldl (fun s x => s.store [x.1] [x.2]) s
  { t with olds := s.olds ++ s.changedWords (xs.map Prod.fst) t.mem }

/-- Destination bytes of the command's next chunk (R258). -/
def PorterCmd.chunk (c : PorterCmd) : Nat := min 4096 (c.desc.total - c.done)

/-- R258, R259: the command's next chunk reads its bytes, or the command suspends at its start. -/
def State.chunkRead (s : State) (c : PorterCmd) : State :=
  if c.work.isSome then s
  else match s.chunkBytes c c.done c.chunk with
    | .error (code, a, ls) => (s.markPoison ls).setPorter { c with susp := some (code, a) }
    | .ok all => s.setPorter { c with work := some all }

/-- R258: the chunk in work is written, and counted. -/
def State.chunkWrite (s : State) (c : PorterCmd) : State :=
  match c.work with
  | none => s
  | some xs =>
    let s := s.performBytes c xs
    let s := if c.desc.ben then s.countBytes c.core c.launch c.desc.bar c.chunk else s
    if c.desc.total ≤ c.done + c.chunk then { s with porter := s.porter.filter (·.tok != c.tok) }
    else s.setPorter { c with done := c.done + c.chunk, work := none, rewritten := ((s.porter.find? (·.tok == c.tok)).map (·.rewritten)).getD [] }

/-- R258, R259: the command's next chunk is performed, or the command suspends at its start. -/
def State.porterChunk (s : State) (c : PorterCmd) : State :=
  let s := s.chunkRead c
  match s.porter.find? (·.tok == c.tok) with
  | some d => if d.susp.isSome then s else s.chunkWrite d
  | none => s

/-- R312: a Porter command runs on to its end or to a suspension. -/
def State.runPorter (s : State) (tok : DWord) : Nat → State
  | 0 => s
  | n + 1 => match s.porter.find? (·.tok == tok) with
    | none => s
    | some c => if c.susp.isSome || !s.tokensDone c.after then s else (s.porterChunk c).runPorter tok n

/-- A copy run to its end: no more chunks than its total can fill, each chunk but the last being 4,096 bytes (R258). -/
def State.endCopy (s : State) (c : PorterCmd) : State := s.runPorter c.tok (c.desc.total / 4096 + 2)

/-- R161: bytes are read while a chunk may be writing them: each, by a free value, has been written by now or has not. -/
def State.raceChunk (s : State) (ps : List Piece) (c : PorterCmd) : State :=
  match c.work with
  | none => s
  | some xs =>
    let hit := fun (k : Nat) => ps.any (fun p => decide (p.key ≤ k) && decide (k < p.key + p.len)) && Config.copied s.tick k
    let now := xs.filter fun x => hit x.1.key
    if now.isEmpty then s
    else
      let s := s.performBytes c now
      { s with porter := s.porter.map fun x =>
          if x.tok == c.tok then { x with work := some (xs.filter fun y => !hit y.1.key) } else x }

/-- R161, R210: the chunks in work write some of the bytes that are read. -/
def State.race (s : State) (ps : List Piece) : State := s.porter.foldl (fun s c => s.raceChunk ps c) s

/-! ## Batches and reports -/

/-- Unfinished commands of a wave. -/
def State.porterOf (s : State) (w : Nat) : List PorterCmd := s.porter.filter (·.wave == w)

/-- R261: close the wave's open commands into a batch; its number. -/
def State.closeBatch (s : State) (w : Wave) : State × Wave × Word :=
  let n := if w.batch == 0xFFFF_FFFF then 1 else w.batch + 1
  ({ s with porter := s.porter.map fun c => if c.wave == w.id && c.batch.isNone then { c with batch := some n } else c },
    { w with batch := n }, n)

/-- R261: batches of a wave with a command unfinished. -/
def State.openBatches (s : State) (w : Nat) : Nat := (((s.porterOf w).filterMap (·.batch)).eraseDups).length

/-- R262: does PWAIT of `n` cover a batch? -/
def batchCovered (n b : Word) : Bool := decide ((n - b).toNat < 2147483648)

/-- R259: report the earliest suspended command of a wave that the leg covers, or resume the one reported before. While the
handler that services the report runs in the other slot, the command stays suspended. -/
def State.reportPorter (s : State) (w : Wave) (k : SlotId) (leg : Leg) (covers : PorterCmd → Bool) : State × Option Trap :=
  match (s.porterOf w.id).find? fun c => c.susp.isSome && covers c with
  | none => (s, none)
  | some c => match c.susp with
    | none => (s, none)
    | some (code, a) =>
      if c.reported then
        (if (w.slot k.other).inHandler then s else s.setPorter { c with susp := none, reported := false }, none)
      else (s.setPorter { c with reported := true },
        some { code := code, addr := a, mask := leg.e0, tok := some c.tok })

/-- R253: the command reaches Porter. -/
def State.sendPorter (s : State) (w : Wave) (d : PDesc) : State :=
  let (s, tok) := s.freshToken w.core.toNat
  if d.total = 0 then s
  else
    let after := (w.fences.filter fun f => f.2 &&& 0b001100 != 0).flatMap (·.1)
    { s with porter := s.porter ++ [⟨tok, w.core.toNat, w.id, w.launch, w.asid, w.part, d, none, 0, none, false, after, [], none⟩] }

end Sys2Proof.Machine
end

