-- ==== Sys2Proof/Machine/Sieve.lean ====
section
/-! DEFINITION. The Sieve (spec/08_conversion.md R147 to R164): its queue, containers, blocks, bit streams and tables. -/

namespace Sys2Proof.Machine

/-! ## The pipe (R147, R148, R150) -/

/-- R148: the oldest waiting request of the next quadrant in the rotation. -/
def Core.nextSieve (c : Core) : Option SieveReq :=
  ([1, 2, 3, 4].filterMap fun k => c.sieveQ.find? fun r => r.quad == c.sieveLast + BitVec.ofNat 2 k).head?

/-- R148: the pipe becomes free and takes the next request of the rotation; its slot then issues it. A request already
taken and not yet issued keeps the pipe. -/
def Core.serveSieve (c : Core) : Core :=
  if c.sieveGrant.isSome then c
  else match c.nextSieve with
    | none => { c with sieveBusy := false }
    | some r => { c with sieveBusy := true, sieveLast := r.quad, sieveGrant := some r, sieveQ := c.sieveQ.filter (· != r) }

/-- R148: may a slot's Sieve instruction enter the pipe? It has been taken by the rotation, or the pipe is free and
nobody waits. -/
def Core.sieveAdmits (c : Core) (r : SieveReq) : Bool :=
  c.sieveGrant == some r || (!c.sieveBusy && c.sieveGrant.isNone && c.sieveQ.isEmpty)

/-- The slot's instruction enters the pipe. -/
def Core.sieveEnter (c : Core) (r : SieveReq) : Core :=
  { c with sieveBusy := true, sieveGrant := none, sieveLast := r.quad }

/-- The slot's request waits. -/
def Core.sieveWait (c : Core) (r : SieveReq) : Core :=
  if c.sieveQ.contains r then c else { c with sieveQ := c.sieveQ ++ [r] }

/-- R149: nothing of a wave stays in the Sieve when it leaves the core. -/
def Core.sieveForget (c : Core) (wave : Nat) : Core :=
  { c with sieveQ := c.sieveQ.filter (·.wave != wave),
           sieveGrant := match c.sieveGrant with
             | some r => if r.wave == wave then none else some r
             | none => none }

/-! ## Containers (R152, R154, R155) -/

/-- R154: N elements a step, and the slots of source and destination of element `i`. -/
def slotsPerStep (cs cd : Nat) : Nat := 32 / max cs cd
def slotGap (cs cd : Nat) : Nat := max cs cd / min cs cd
def srcSlot (cs cd part i : Nat) : Nat := i + (if cs < cd then part * slotsPerStep cs cd else 0)
def dstSlot (cs cd part i : Nat) : Nat := i + (if cd < cs then part * slotsPerStep cs cd else 0)

/-- Replace slot `i` of container width `c` by an encoding. -/
def putSlot (w : Word) (c i enc : Nat) : Word :=
  (w &&& ~~~(BitVec.ofNat 32 ((2 ^ c - 1) * 2 ^ (c * i)))) ||| BitVec.ofNat 32 (enc * 2 ^ (c * i))

/-- The element in slot `i` of container width `c` (R152). -/
def getSlot (w : Word) (c i width : Nat) : Nat := w.toNat / 2 ^ (c * i) % 2 ^ width

/-- R154, R155: one lane: each element's value converted into its slot of `b`; the event classes. -/
def convLane (se de : Elem) (part : Nat) (rm : Rm) (sat : Bool) (val : Nat → Val) (a b : Word) : Word × List Ev :=
  let cs := se.container
  let cd := de.container
  (List.range (slotsPerStep cs cd)).foldl (fun r i =>
    let e := de.encode rm sat (val (getSlot a cs (srcSlot cs cd part i) se.width))
    (putSlot r.1 cd (dstSlot cs cd part i) e.1, r.2 ++ [e.2])) (b, [])

/-- Write a lane result after its slots are reserved, cut at boundaries. -/
def Ctx.fillBnd (c : Ctx) (x : Sel) (vals : List Word) (bnd : Mask) : Ctx := c.putV x (c.result x vals bnd)

/-- R151: the format of an element code the decoder has found legal; an invalid description raises 0x0104 (R93). -/
def Ctx.elem (c : Ctx) (code : BitVec 5) : Except Trap Elem :=
  match elemOf c.leg.snap.nf code with
  | some e => .ok e
  | none => .error (c.trapHere 0x0104)

/-- R154: XCVT. -/
def Ctx.xcvt (c : Ctx) (f : LX) : Except Trap Ctx := do
  let de ← c.elem (f.param.extractLsb' 10 5)
  let se ← c.elem (f.param.extractLsb' 5 5)
  let part := pfield f.param 4 2
  if slotGap se.container de.container ≤ part then .error (c.trapHere 0x0104)
  else
    let a ← c.lanes f.sa 0
    let b ← c.lanes f.sb 0
    let c ← c.reserveUnknown f.dst 1
    let r := List.zipWith (fun x y => convLane se de part f.rm f.sat se.value x y) a.vals b.vals
    let c := c.countEvents (c.active.flatMap fun l => (r.getD l (0, [])).2)
    return c.fillBnd f.dst (r.map (·.1)) (a.bnd ||| b.bnd)

/-- R155: XDQNT. -/
def Ctx.xdqnt (c : Ctx) (f : LX) : Except Trap Ctx := do
  let dc := pfield f.param 14 10
  let sc := pfield f.param 9 5
  if !(decide (1 ≤ dc) && decide (dc ≤ 3)) || !((decide (2 ≤ sc) && decide (sc ≤ 10)) || decide (24 ≤ sc)) then
    .error (c.trapHere 0x0104)
  else
    let de ← c.elem (f.param.extractLsb' 10 5)
    let se ← c.elem (f.param.extractLsb' 5 5)
    let part := pfield f.param 4 2
    if slotGap se.container de.container ≤ part then .error (c.trapHere 0x0104)
    else
      let a ← c.lanes f.sa 0
      let b ← c.lanes f.sb 0
      let d ← c.lanes f.sc 0
      let c ← c.reserveUnknown f.dst 1
      let scale := fun (w : Word) =>
        if f.param.getLsbD 1 then e4m3.decode (w.toNat % 256) else e8m0 (w.toNat % 256)
      let r := List.zipWith (fun (x : Word × Word) y =>
        convLane se de part f.rm f.sat (fun raw => scaled (se.value raw) (scale x.2)) x.1 y)
        (List.zip a.vals b.vals) d.vals
      let c := c.countEvents (c.active.flatMap fun l => (r.getD l (0, [])).2)
      return c.fillBnd f.dst (r.map (·.1)) (a.bnd ||| b.bnd ||| d.bnd)

/-- The order that a HAD field names (R156); 0 for none. -/
def hadOrder (h : Nat) : Nat := if h = 1 then 16 else if h = 2 then 32 else 0

/-- R156: XHAD. -/
def Ctx.xhad (c : Ctx) (f : LX) : Except Trap Ctx := do
  let a ← c.lanes f.sa 0
  let c ← c.reserveUnknown f.dst 1
  return c.fillBnd f.dst (hadamardLanes (hadOrder (pfield f.param 1 0)) c.leg.e0 a.vals) perLane

/-! ## Quantising stores (R157 to R159) -/

/-- The largest finite value of an element format, or its maximum (R158). -/
def Elem.largest (e : Elem) : Val :=
  match e with
  | .flt f => f.decode f.maxMag
  | .int w signed => ofInt (intRange w signed).2 0

/-- floor(log2 v) of a positive finite value. -/
def Val.log2 : Val → Int
  | .fin _ m e => (Nat.log2 m : Int) + e
  | _ => 0

/-- A positive finite quotient with a sticky bit below every rounding point. -/
def Val.div (v d : Val) : Val :=
  match v, d with
  | .fin s m e, .fin t n f =>
    if m = 0 then .fin (s != t) 0 0
    else
      let k := Nat.log2 n + 320
      .fin (s != t) (sticky (m * 2 ^ k / n) (m * 2 ^ k % n == 0)) (e - f - k - 1)
  | v, _ => v

/-- The magnitude of a value. -/
def Val.abs : Val → Val
  | .fin _ m e => .fin false m e
  | .inf _ => .inf false
  | .nan => .nan

/-- R158: the largest magnitude of a block's numbers; 0 when there are none. -/
def amax (xs : List Val) : Val :=
  (xs.filter fun x => !x.isNan).foldl (fun m x => if m.compare x.abs == .lt then x.abs else m) (.fin false 0 0)

/-- Has an element format no finite value but zero (R92)? -/
def Elem.zeroOnly (e : Elem) : Bool := match e.largest with | .fin _ 0 _ => true | _ => false

/-- R158: scale and record of a block. Where the element format has no finite value but zero, the scale of a block with a
finite magnitude is a free value within the kind's limits (log entry 84). -/
def blockScale (scl : Nat) (e : Elem) (xs : List Val) : Val × List Byte :=
  let m := amax xs
  match scl with
  | 1 =>
    let k : Int := match m with
      | .fin _ 0 _ => 0
      | .fin s n q =>
        if e.zeroOnly then max (-127) (min 127 ((Config.scaleOfZero scl n q : Int) - 127))
        else max (-127) (min 127 ((Val.fin s n q).log2 - e.largest.log2))
      | _ => 127
    (.fin false 1 k, leBytes (k + 127).toNat 1)
  | 2 =>
    let code : Nat := match m with
      | .fin _ 0 _ => 0x38
      | .fin s n q =>
        if e.zeroOnly then max 1 (min 0x7E (Config.scaleOfZero scl n q))
        else max 1 (e4m3.round .rup true ((Val.fin s n q).div e.largest))
      | _ => 0x7E
    (e4m3.decode code, leBytes code 1)
  | _ => (.fin false 1 0, [])

/-- Elements packed into a bit stream (R97). -/
def packBits (w : Nat) : List Nat → Nat
  | [] => 0
  | x :: xs => x % 2 ^ w + 2 ^ w * packBits w xs

/-- R158: one scaled or unscaled block: its bytes, its record, its event classes. -/
def quantBlock (scl : Nat) (e : Elem) (rm : Rm) (sat : Bool) (xs : List Val) : List Byte × List Byte × List Ev :=
  let sc := blockScale scl e xs
  let q := xs.map fun x => e.encode rm sat (x.div sc.1)
  (leBytes (packBits e.width (q.map (·.1))) (e.width * xs.length / 8), sc.2, q.map (·.2))

/-- R158: one codebook block from 32 lanes and eight entries. -/
def codeBlock (e : Elem) (rm : Rm) (sat : Bool) (lanes : List Word) (entries : List Word) :
    List Byte × List Byte × List Ev :=
  let idx := lanes.flatMap fun w => [w.toNat % 8, w.toNat / 2 ^ 8 % 8, w.toNat / 2 ^ 16 % 8, w.toNat / 2 ^ 24 % 8]
  let q := entries.map fun w => e.encode rm sat (f32 w)
  (leBytes (packBits 3 idx) 48, q.flatMap fun x => leBytes x.1 (e.width / 8), q.map (·.2))

/-- R157, R192: which leaf an XQNT writes, or its fault at A. R192 gives a non-canonical address its 0x1103 before R157's rows
(log entry 86). -/
def Ctx.quantLeaf (c : Ctx) (a : DWord) : Except Trap Leaf :=
  if windowOf a == none then .error (c.trap 0x1103 a)
  else if windowOf a != some .glob then .error (c.trap 0x1104 a)
  else match c.s.leaf? c.w.asid a with
    | none => .error (c.trap 0x1001 a)
    | some l =>
      if !l.p then .error (c.trap 0x1001 a)
      else if !l.w then .error (c.trap (if l.cw then 0x1003 else 0x1002) a)
      else if l.fmt == 0 then .error (c.trap 0x1004 a)
      else .ok l

/-- R94: the narrow-format table of the wave's partition. -/
def State.nft (s : State) (p : BitVec 3) : Vector Word 16 :=
  match s.part? p with
  | some r => r.nft
  | none => Vector.replicate 16 0

/-- R158: the lane groups that are written: all `n` lanes active and below WW. -/
def Ctx.wholeGroups (c : Ctx) (n : Nat) : List Nat :=
  (List.range (c.w.ww / n)).filter fun g => (List.range n).all fun i => c.leg.e0.getLsbD (n * g + i)

/-- Registers sT to s(T+7). -/
def Ctx.table (c : Ctx) (x : Sel) : Except Trap (List Word) :=
  match x with
  | .s t => (List.range 8).mapM fun k => c.getS (t + BitVec.ofNat 6 k)
  | _ => .ok []

/-- A held store (R39). -/
def Ctx.hold (c : Ctx) (pieces : List Piece) (bytes : List Byte) (va : DWord) : Ctx :=
  { c with leg := { c.leg with stores := c.leg.stores ++ [⟨pieces, bytes, c.w.asid, va⟩] } }

/-- R419, R420: is a piece in CXL memory or in another device's, and behind which port or in which device? -/
def Piece.owner? (p : Piece) : Option (Bool × BitVec 4) :=
  match p.leaf with
  | some l => if l.loc == 1 || l.loc == 2 then some (l.loc == 1, l.dev) else none
  | none => none

/-- R419, R420: stores to other devices and to CXL memory are answered before the leg commits, or the leg faults: each lane with
its address and pieces; a scalar store, and each block or row of one instruction, has the mask `scalar`. -/
def Ctx.awaitOwner (c : Ctx) (scalar : Option Mask) (xs : List (Nat × DWord × List Piece)) : Ctx :=
  let units := (xs.flatMap fun x => x.2.2.filterMap Piece.owner?).eraseDups
  if units.isEmpty then c
  else { c with leg := { c.leg with out := c.leg.out ++ units.map fun u =>
    { host := false, dev := u.2, cxl := u.1, scalar := scalar,
      lanes := (xs.filter fun x => x.2.2.any fun p => p.owner? == some u).map fun x => (x.1, x.2.1) } } }

/-- R239, R419, R420: the fault of a store at its location; a host page's writes are posted. -/
def State.storeFault (s : State) (ps : List Piece) : Option (BitVec 16 × List Nat) :=
  if ps.any fun p => p.host?.isSome then none else s.deadFault ps

/-- R157, R158: for a page's SCL and layout and the BS field: the data bytes of a block, the blocks of the page, and the lanes
of a block. -/
def quantForm (scl : Nat) (bs : Bool) (p : PageLayout) : Nat × Nat × Nat :=
  let block := if scl = 0 then (if bs then 32 else 16) else p.block
  let data := if scl = 0 then block * p.width / 8 else p.data
  (data, if scl = 0 then p.bytes / data else p.blocks, if scl = 3 then 32 else block)

/-- R158, R159: the event classes and the store of the lane group `g` of an XQNT at `a`: the block's data, and its record, in
one write. -/
def Ctx.quantGroup (c : Ctx) (f : LX) (l : Leaf) (p : PageLayout) (a : DWord) (xs entries : List Word) (g : Nat) :
    List Ev × HeldStore :=
  let scl := l.scl.toNat
  let form := quantForm scl (f.param.getLsbD 2) p
  let ls := (List.range form.2.2).map fun i => lane xs (form.2.2 * g + i)
  let r := if scl = 3 then codeBlock p.elem f.rm f.sat ls entries else quantBlock scl p.elem f.rm f.sat (ls.map f32)
  let at_ := a.toNat % p.bytes
  let base := a - BitVec.ofNat 64 at_
  let b := at_ / form.1 + g
  let va := base + BitVec.ofNat 64 (b * form.1)
  let pieces : List Piece := ⟨l.key va, form.1, some l⟩ ::
    (if r.2.1.isEmpty then [] else [⟨l.key (base + BitVec.ofNat 64 (p.recAt b)), r.2.1.length, some l⟩])
  (r.2.2, ⟨pieces, r.1 ++ r.2.1, c.w.asid, va⟩)

/-- R157, R158, R159: XQNT. -/
def Ctx.xqnt (c : Ctx) (f : LX) : Except Trap Ctx := do
  let areg := f.param.extractLsb' 3 4
  let bs := f.param.getLsbD 2
  let had := pfield f.param 1 0
  let off ← (match f.sb with | .s r => c.getS r | _ => .ok 0)
  let a := (← c.getA areg) + off.sext
  let l ← c.quantLeaf a
  let scl := l.scl.toNat
  let coded := scl == 3
  if (bs && scl != 0) || (had != 0 && coded) || coded != (f.sc != .v 0) then .error (c.trap 0x0104 a)
  else
    match l.layout (c.s.nft c.w.part) with
    | none => .error (c.trap 0x0104 a)
    | some p =>
      let form := quantForm scl bs p
      let groups := c.wholeGroups form.2.2
      let at_ := a.toNat % p.bytes
      let j := at_ / form.1
      if at_ % form.1 != 0 || decide (form.2.1 ≤ j) || groups.any (fun g => decide (form.2.1 ≤ j + g)) then
        .error (c.trap 0x0201 a)
      else
        let v ← c.lanes f.sa 0
        let xs := if had = 0 then v.vals else hadamardLanes (hadOrder had) c.leg.e0 v.vals
        let entries ← c.table f.sc
        let qs := groups.map (c.quantGroup f l p a xs entries)
        if qs.any fun q => c.s.piecesRefused l q.2.pieces then .error (c.trap 0x1002 a)
        else match qs.findSome? fun q => c.s.storeFault q.2.pieces with
          | some e => .error { c.trap e.1 a with poison := e.2 }
          | none =>
            let c := qs.foldl (fun c q => (c.countEvents q.1).hold q.2.pieces q.2.bytes q.2.va) c
            return c.awaitOwner (some c.leg.e0) (qs.map fun q => (0, q.2.va, q.2.pieces))

/-! ## Bit streams and tables (R160 to R164) -/

/-- R160, R163: `n` bytes at an offset of the launch's allocation on the wave's core: the bytes, or none when no
allocation is held or step 5 of R192 refuses them. -/
def Ctx.allocBytes (c : Ctx) (off n : Nat) : Option (List Piece) :=
  let core := c.s.core c.w.core.toNat
  match core.alloc? c.w.launch with
  | none => none
  | some x => if c.s.scratchAllowed core c.w.part (x.base + off) n then some (scratchPieces core (x.base + off) n) else none

/-- R163: the field at stream bit `b`, `k` bits wide. -/
def Ctx.streamField (c : Ctx) (b k : Nat) : Except Trap Nat :=
  let lo := b / 8
  let n := (b + k - 1) / 8 - lo + 1
  match c.allocBytes lo n with
  | none => .error (c.trapHere 0x0104)
  | some ps => match c.s.readFault ps with
    | some e => .error { c.trapHere e.1 with poison := e.2 }
    | none => .ok (leNat (readPieces c.s.mem ps) / 2 ^ (b % 8) % 2 ^ k)

/-- R163: the value of a field under MODE. -/
def Ctx.fieldValue (c : Ctx) (mode k : Nat) (ee : Option Elem) (tbl : List Word) (f : Nat) : Val :=
  let _ := c
  match mode with
  | 0 => ofInt f 0
  | 1 => ofInt (sintOf k f) 0
  | 2 => f32 (tbl.getD f 0)
  | _ => match ee with
    | some e => e.value f
    | none => .nan

/-- R162, R163: XDEC. -/
def Ctx.xdec (c : Ctx) (f : LX) : Except Trap Ctx := do
  let k := pfield f.param 19 16 + 1
  let mode := pfield f.param 15 14
  let dc := pfield f.param 8 4
  if mode = 2 && decide (3 < k) then .error (c.trapHere 0x0104)
  else
    let ee ← (if mode = 3 then (do
        let e ← c.elem (f.param.extractLsb' 9 5)
        if e.width != k then .error (c.trapHere 0x0104) else return some e)
      else .ok none)
    if !(dc == 1 || dc == 2 || dc == 3 || dc == 11 || dc == 12) then .error (c.trapHere 0x0104)
    else
      let de ← c.elem (f.param.extractLsb' 4 5)
      let q := if dc = 2 || dc = 3 then 2 else 1
      let o := (← (match f.sa with | .s r => c.getS r | _ => .ok 0)).toNat
      let tbl ← c.table f.sb
      if ((c.s.core c.w.core.toNat).alloc? c.w.launch).isNone then .error (c.trapHere 0x0104)
      else
        let rs ← c.active.mapM fun l => (do
          let es ← (List.range q).mapM fun h => (do
            let x ← c.streamField (o + k * (q * l + h)) k
            return de.encode f.rm f.sat (c.fieldValue mode k ee tbl x))
          return (l, BitVec.ofNat 32 (packBits (32 / q) (es.map (·.1))), es.map (·.2)))
        let c ← c.reserveUnknown f.dst 1
        let vals := (List.range c.w.ww).map fun l => ((rs.find? (·.1 == l)).map (·.2.1)).getD 0
        let c := c.noteLoads (c.active.flatMap fun l => (List.range q).filterMap fun h =>
          let b := o + k * (q * l + h)
          c.allocBytes (b / 8) ((b + k - 1) / 8 - b / 8 + 1))
        return (c.countEvents (rs.flatMap (·.2.2))).fillBnd f.dst vals perLane

/-- R160: XTBL's table, widened exactly. -/
def Ctx.xtbl (c : Ctx) (f : LX) : Except Trap Ctx := do
  let code := pfield f.param 4 0
  if !(decide (1 ≤ code) && decide (code ≤ 5)) then .error (c.trapHere 0x0104)
  else
    let e ← c.elem (f.param.extractLsb' 0 5)
    let n := e.width / 8
    let off := (← (match f.sa with | .s r => c.getS r | _ => .ok 0)).toNat
    (List.range 8).foldlM (fun c j =>
      match c.allocBytes (off + j * n) n with
      | none => .error (c.trapHere 0x0104)
      | some ps => match c.s.readFault ps with
        | some t => .error { c.trapHere t.1 with poison := t.2 }
        | none =>
          let c := { c with s := c.s.race ps }
          let v := toF32 .rne false (e.value (leNat (readPieces c.s.mem ps)))
          .ok (match f.dst with | .s d => (c.noteLoads [ps]).setS (d + BitVec.ofNat 6 j) v | _ => c)) c

end Sys2Proof.Machine
end

