-- ==== Sys2Proof/Machine/Access.lean ====
section
/-! DEFINITION. Memory operands of lane and scalar instructions (spec/12_memory_instr.md R235 to R252): addresses, loads,
held stores, widening loads, parameter windows, the checks of atomics and CLAIM, and the records that an instruction
reads as it issues. -/

namespace Sys2Proof.Machine

/-! ## Addresses (R235, R236) -/

/-- Does a type name 64-bit operands (R237)? -/
def wideTy (t : LTy) : Bool := t == .i64 || t == .n64

/-- R237: bytes that each lane of a load or store accesses. -/
def tyBytes (t : LTy) : Nat := if wideTy t then 8 else 4

/-- R235: is a base private? -/
def privateBase (spc : Spc) (a : DWord) : Bool := spc == .p || a.extractLsb' 56 8 == 0xF0

/-- R235: the base of an operand; a per-lane offset is not in it. -/
def Ctx.base (c : Ctx) (f : LM) : Except Trap DWord := do
  let a ← c.getA f.areg
  match f.am with
  | .off o => return a + o.sext
  | .s r => return a + (← c.getS r).sext
  | .v _ => return a

/-- R235: the address of every active lane. -/
def Ctx.laneAddrs (c : Ctx) (f : LM) (n : Nat) : Except Trap (List (Nat × DWord)) := do
  let a ← c.base f
  match f.am with
  | .v r => do
    let v ← c.lanes (.v r) 0
    return c.active.map fun l => (l, a + (lane v.vals l).sext)
  | _ => return c.active.map fun l => (l, if privateBase f.spc a then a else a + BitVec.ofNat 64 (n * l))

/-- Check the addresses of lanes (R192, R236) and then a check of the located bytes. -/
def Ctx.locate (c : Ctx) (f : LM) (scalar : Bool) (as : List (Nat × DWord)) (n : Nat) (u : Use)
    (after : List Piece → Option (BitVec 16 × List Nat)) : Except Trap (List (Nat × Place)) :=
  joinLanes (as.map fun x =>
    (x.1, reported f.spc x.2, match c.s.locate c.w f.spc scalar x.1 x.2 n n u with
      | .error e => .error (e.1, e.2, [])
      | .ok p => match after p.pieces with
        | some e => .error (7, e.1, e.2)
        | none => .ok p))

/-- The pieces of a lane. -/
def piecesOf (ps : List (Nat × Place)) (l : Nat) : List Piece := ((ps.find? (·.1 == l)).map (·.2.pieces)).getD []

/-- R193: the lanes' addresses as a fault reports them. -/
def reportedLanes (spc : Spc) (as : List (Nat × DWord)) : List (Nat × DWord) := as.map fun x => (x.1, reported spc x.2)

/-- R39, R240, R420: a load's reads: what it has read, and the outstanding reads of host and domain pages among the located
lanes; a scalar access stands for the path's active lanes (R391). `as` holds the addresses that a fault reports. -/
def Ctx.await (c : Ctx) (scalar : Bool) (as : List (Nat × DWord)) (ps : List (Nat × Place)) : Ctx :=
  let units := (ps.flatMap fun x => x.2.pieces.filterMap Piece.far?).eraseDups
  let outs := units.map fun u =>
    let ls := (ps.filter fun x => x.2.pieces.any fun p => p.far? == some u).map (·.1)
    ({ host := u.1, dev := u.2, lanes := as.filter fun x => ls.contains x.1,
       scalar := if scalar then some c.leg.e0 else none } : OutRead)
  let c := c.noteLoads (ps.map (·.2.pieces))
  if outs.isEmpty then c else { c with leg := { c.leg with out := c.leg.out ++ outs } }

/-! ## Values of one, two or four registers -/

/-- The `k`-th register after a selector's. -/
def selAt : Sel → Nat → Sel
  | .v r, k => .v (r + BitVec.ofNat 6 k)
  | .t r, k => .t (r + BitVec.ofNat 3 k)
  | .s r, k => .s (r + BitVec.ofNat 6 k)
  | .imm, _ => .imm

/-- The values of `n` consecutive registers joined lane by lane, the low word first (R28, R244). -/
def Ctx.laneNats (c : Ctx) (x : Sel) : Nat → Except Trap (List Nat)
  | 0 => .ok (List.replicate c.w.ww 0)
  | n + 1 => do
    let lo ← c.lanes x 0
    let hi ← c.laneNats (selAt x 1) n
    return List.zipWith (fun a b => a.toNat + 4294967296 * b) lo.vals hi

/-- The value of `n` consecutive scalar registers. -/
def Ctx.scalarNat (c : Ctx) (r : SReg) : Nat → Except Trap Nat
  | 0 => .ok 0
  | n + 1 => do
    let lo ← c.getS r
    let hi ← c.scalarNat (r + 1) n
    return lo.toNat + 4294967296 * hi

/-- Write the words of per-lane values into consecutive registers, one segment a lane (R238). -/
def Ctx.fillNats (c : Ctx) (x : Sel) (vals : List Nat) : Nat → Ctx
  | 0 => c
  | n + 1 => (c.fillLanes x (vals.map (BitVec.ofNat 32))).fillNats (selAt x 1) (vals.map (· / 4294967296)) n

/-- Write the words of a value into consecutive scalar registers. -/
def Ctx.setNat (c : Ctx) (r : SReg) (v : Nat) : Nat → Ctx
  | 0 => c
  | n + 1 => (c.setS r (BitVec.ofNat 32 v)).setNat (r + 1) (v / 4294967296) n

/-! ## Loads and stores (R238 to R240) -/

/-- Little-endian value of located bytes. -/
def State.valueAt (s : State) (ps : List Piece) : Nat := leNat (readPieces s.mem ps)

/-- R238: VLD. -/
def Ctx.vld (c : Ctx) (f : LM) : Except Trap Ctx := do
  let n := tyBytes f.ty
  let as ← c.laneAddrs f n
  let ps ← c.locate f false as n .read c.s.readFault
  let c ← c.reserveUnknown f.dv (n / 4)
  let vals := (List.range c.w.ww).map fun l => c.s.valueAt (piecesOf ps l)
  return (c.fillNats f.dv vals (n / 4)).await false (reportedLanes f.spc as) ps

/-- R238: SLD. -/
def Ctx.sld (c : Ctx) (f : LM) : Except Trap Ctx := do
  let n := tyBytes f.ty
  let a ← c.base f
  let ps ← scalarMask c.leg.e0 (c.locate f true [(0, a)] n .read c.s.readFault)
  match f.dv with
  | .s d => return (c.setNat d (c.s.valueAt (piecesOf ps 0)) (n / 4)).await true [(0, reported f.spc a)] ps
  | _ => return c

/-- R239: VST. -/
def Ctx.vst (c : Ctx) (f : LM) : Except Trap Ctx := do
  let n := tyBytes f.ty
  let v ← c.laneNats f.dv (n / 4)
  let as ← c.laneAddrs f n
  let ps ← c.locate f false as n .write c.s.storeFault
  let va := fun (l : Nat) => reported f.spc (((as.find? (·.1 == l)).map (·.2)).getD 0)
  return (ps.foldl (fun c p => c.hold p.2.pieces (leBytes (v.getD p.1 0) n) (va p.1)) c).awaitOwner none
    (ps.map fun p => (p.1, va p.1, p.2.pieces))

/-- R239: SST. -/
def Ctx.sst (c : Ctx) (f : LM) : Except Trap Ctx := do
  let n := tyBytes f.ty
  let v ← (match f.dv with | .s r => c.scalarNat r (n / 4) | _ => .ok 0)
  let a ← c.base f
  let ps ← scalarMask c.leg.e0 (c.locate f true [(0, a)] n .write c.s.storeFault)
  let va := reported f.spc a
  return (c.hold (piecesOf ps 0) (leBytes v n) va).awaitOwner (some c.leg.e0) [(0, va, piecesOf ps 0)]

/-! ## Widening loads (R241, R242, R104) -/

/-- Destination format and elements per lane of a widening load. -/
def widenElem (t : LTy) : Elem × Nat :=
  match t with
  | .bf16x2 => (.flt bf16, 2)
  | .f16x2 => (.flt fp16, 2)
  | _ => (.flt fp32, 1)

/-- R241: the page and the first element of a lane: the address decides the page, `skip` elements on. -/
def Ctx.widenLane (c : Ctx) (spc : Spc) (a : DWord) (skip q : Nat) : LaneCheck (Leaf × PageLayout × Nat) :=
  match (if canonical spc a then windowOf a else none) with
  | none => .error (1, 0x1103, [])
  | some win =>
    if win != .glob || (match spcWindow spc with | some x => x != .glob | none => false) then .error (2, 0x1104, [])
    else match c.s.leaf? c.w.asid a with
      | none => .error (6, 0x1001, [])
      | some l =>
        if !l.p then .error (6, 0x1001, [])
        else match (if l.fmt == 0 then none else l.layout (c.s.nft c.w.part)) with
          | none => .error (7, 0x0104, [])
          | some p =>
            let bits := 8 * (a.toNat % p.bytes)
            if bits % p.width != 0 || decide (p.elems < bits / p.width + skip + q) then .error (7, 0x0201, [])
            else
              let first := bits / p.width + skip
              match c.s.pageFault l ((List.range q).flatMap fun h =>
                  p.elemPieces l (physKey l.loc l.dev l.pa.toNat) (first + h)) with
              | some e => .error (7, e, [])
              | none => .ok (l, p, first)

/-- Key of the first byte of a leaf's page. -/
def Leaf.baseKey (l : Leaf) : Nat := physKey l.loc l.dev l.pa.toNat

/-- R104, R419: is an element returned as poison, and at which byte of its page? Behind a CXL port whose link is down every
line is poisoned, the record's among them. -/
def Ctx.widenPoison (c : Ctx) (x : Leaf × PageLayout × Nat) (all : List Nat) (i : Nat) : Option Nat :=
  match c.s.deadFault [⟨x.1.baseKey, 1, some x.1⟩] with
  | some _ => some (if x.2.1.block = 0 then (x.2.1.elemBytes i).1 else x.2.1.recAt (i / x.2.1.block))
  | none => x.2.1.poisonAt c.s x.1.baseKey all i

/-- R411: lanes that a widening load poisons, with the address of the lowest of them. -/
def Leg.notePoison (leg : Leg) (ls : List (Nat × DWord)) : Leg :=
  match ls with
  | [] => leg
  | x :: _ =>
    { leg with poisoned := leg.poisoned ||| maskOf (ls.map (·.1)),
               poisonAddr := if leg.poisoned = 0 || x.1 < ((lanesOf leg.poisoned 96).headD 96) then x.2 else leg.poisonAddr }

/-- R241, R242: VLD.w. Where the elements of a packed lane lie in two blocks, the address is that of the lane's lowest poisoned
element: its block's record, or the element (R104; log entry 85). -/
def Ctx.vldW (c : Ctx) (f : LM) : Except Trap Ctx := do
  let (de, q) := widenElem f.ty
  let as ← c.laneAddrs f 0
  let skip := fun (l : Nat) => match f.am with | .v _ => 0 | _ => q * l
  let got ← joinLanes (as.map fun x => (x.1, reported f.spc x.2, c.widenLane f.spc x.2 (skip x.1) q))
  let c ← c.reserveUnknown f.dv 1
  let all := fun (b : Nat) => (got.filter fun g => g.2.1.baseKey == b).flatMap fun g => (List.range q).map (· + g.2.2.2)
  let rs := got.map fun g =>
    (g.1, (List.range q).map fun h =>
      match c.widenPoison g.2 (all g.2.1.baseKey) (g.2.2.2 + h) with
      | some o => (de.nan, none, some o)
      | none =>
        let e := de.encode .rne false (g.2.2.1.value c.s.mem g.2.1.baseKey (g.2.2.2 + h))
        (e.1, some e.2, none))
  let vals := (List.range c.w.ww).map fun l =>
    match rs.find? (·.1 == l) with
    | some r => BitVec.ofNat 32 (packBits (32 / q) (r.2.map (·.1)))
    | none => 0
  let bad := rs.filterMap fun r => (r.2.findSome? (·.2.2)).map fun o =>
    (r.1, (((as.find? (·.1 == r.1)).map (·.2)).getD 0) &&& ~~~BitVec.ofNat 64
      (pageBytes (((got.find? (·.1 == r.1)).map (·.2.1.size)).getD 0) - 1) ||| BitVec.ofNat 64 o)
  let found := got.flatMap fun g => g.2.2.1.damagedLines c.s g.2.1 g.2.1.baseKey (all g.2.1.baseKey)
  let c := { c with s := c.s.markPoison found, leg := c.leg.notePoison bad }
  let c := (c.countEvents (rs.flatMap fun r => r.2.filterMap (·.2.1))).fillLanes f.dv vals
  return c.await false as (got.map fun g => (g.1, ⟨.glob, 0, 0, (List.range q).flatMap fun h =>
    g.2.2.1.elemPieces g.2.1 g.2.1.baseKey (g.2.2.2 + h)⟩))

/-! ## Parameter windows (R204, R243) -/

/-- The window of the wave's launch that AREG names. -/
def Ctx.window (c : Ctx) (a : AReg) : DWord × Nat :=
  match c.s.recOf c.w with
  | some r => r.pw.toList.getD a.toNat (0, 0)
  | none => (0, 0)

/-- R204: one access of `n` bytes at offset `q`: the located bytes below the size. -/
def Ctx.windowAt (c : Ctx) (w : DWord × Nat) (l q n : Nat) : DWord × LaneCheck (List Piece) :=
  let a := w.1 + BitVec.ofNat 64 q
  (a,
    if q % n != 0 then .error (4, 0x0201, [])
    else if w.2 ≤ q then .ok []
    else match c.s.locate c.w .g false l a (min n (w.2 - q)) 1 .read with
      | .error e => .error (e.1, e.2, [])
      | .ok p => match c.s.readFault p.pieces with
        | some e => .error (7, e.1, e.2)
        | none => .ok p.pieces)

/-- R204, R243: the values at offsets of a window, one per lane. -/
def Ctx.windowLoad (c : Ctx) (scalar : Bool) (a : AReg) (qs : List (Nat × Nat)) (n : Nat) : Except Trap (Ctx × List (Nat × Nat)) := do
  let w := c.window a
  if w.2 = 0 then .error (c.trapHere 0x8001)
  else
    let as := qs.map fun q => (q.1, w.1 + BitVec.ofNat 64 q.2)
    let ps ← joinLanes (qs.map fun q => (q.1, c.windowAt w q.1 q.2 n))
    let c := { c with leg := { c.leg with pwb := c.leg.pwb || qs.any fun q => decide (w.2 < q.2 + n) } }
    return (c.await scalar as (ps.map fun p => (p.1, ⟨.glob, 0, 0, p.2⟩)), ps.map fun p => (p.1, c.s.valueAt p.2))

/-- R243: SLDP. -/
def Ctx.sldp (c : Ctx) (f : LM) : Except Trap Ctx := do
  let n := tyBytes f.ty
  let q ← (match f.am with | .off o => .ok o | .s r => c.getS r | .v _ => .ok 0)
  let r ← scalarMask c.leg.e0 (c.windowLoad true f.areg [(0, q.toNat)] n)
  match f.dv with
  | .s d => return r.1.setNat d ((r.2.headD (0, 0)).2) (n / 4)
  | _ => return c

/-- R243: the window offset of every active lane. -/
def Ctx.windowOffs (c : Ctx) (f : LM) (n : Nat) : Except Trap (List (Nat × Nat)) := do
  match f.am with
  | .off o => return c.active.map fun l => (l, o.toNat + n * l)
  | .s r => do
    let q ← c.getS r
    return c.active.map fun l => (l, q.toNat + n * l)
  | .v r => do
    let v ← c.lanes (.v r) 0
    return c.active.map fun l => (l, (lane v.vals l).toNat)

/-- R243: VLDP. -/
def Ctx.vldp (c : Ctx) (f : LM) : Except Trap Ctx := do
  let n := tyBytes f.ty
  let qs ← c.windowOffs f n
  let r ← c.windowLoad false f.areg qs n
  let c ← r.1.reserveUnknown f.dv (n / 4)
  let vals := (List.range c.w.ww).map fun l => ((r.2.find? (·.1 == l)).map (·.2)).getD 0
  return c.fillNats f.dv vals (n / 4)

/-! ## Atomics and CLAIM (R244 to R249) -/

/-- R244: bytes of an atomic. -/
def atomBytes (op : AtomOp) (t : LTy) : Nat :=
  match op with
  | .cas => if t == .i64 then 16 else if t == .n64 then 8 else 4
  | _ => tyBytes t

/-- R247: may the operation go to a host page? -/
def hostAtomOk (op : AtomOp) (t : LTy) : Bool :=
  match op with
  | .add => t != .f32
  | .swap | .cas => true
  | _ => false

/-- The larger or smaller of two integers of a type. -/
def pickInt (t : LTy) (n : Nat) (least : Bool) (a b : Nat) : Nat :=
  let lt := if t == .i32 || t == .i64 then decide (sintOf (8 * n) a < sintOf (8 * n) b) else decide (a < b)
  if lt == least then a else b

/-- R244: the new value of `n` bytes. -/
def atomNew (op : AtomOp) (t : LTy) (n old v c : Nat) : Nat :=
  match op with
  | .add => if t == .f32 then fp32.addBits .rne false old v else (old + v) % 2 ^ (8 * n)
  | .and => old &&& v
  | .or => old ||| v
  | .xor => old ^^^ v
  | .min => if t == .f32 then fp32.pick true old v else pickInt t n true old v
  | .max => if t == .f32 then fp32.pick false old v else pickInt t n false old v
  | .swap => v
  | .cas => if old = c then v else old

/-- R246, R247, R420: what refuses an atomic at its location. Behind a port or a domain link nothing is known before the
answer. -/
def Ctx.atomFault (c : Ctx) (op : AtomOp) (t : LTy) (ps : List Piece) : Option (BitVec 16 × List Nat) :=
  if ps.any fun p => p.host?.isSome then (if hostAtomOk op t then none else some (0x0104, []))
  else if ps.any fun p => p.far?.isSome then c.s.lineFault (pieceLines ps)
  else c.s.readFault ps

/-- R246: the checked lanes of an atomic. -/
def Ctx.atomLanes (c : Ctx) (f : LM) (scalar : Bool) (op : AtomOp) (as : List (Nat × DWord)) (v cmp : Nat → Nat) :
    Except Trap (List AtomLane) := do
  let ps ← c.locate f scalar as (atomBytes op f.ty) .atomic (c.atomFault op f.ty)
  return ps.map fun p => ⟨p.1, reported f.spc (((as.find? (·.1 == p.1)).map (·.2)).getD 0), p.2.pieces, BitVec.ofNat 128 (v p.1),
    BitVec.ofNat 128 (cmp p.1)⟩

/-- Put the closing operation into the leg (R36). -/
def Ctx.close (c : Ctx) (x : Closing) : Ctx := { c with leg := { c.leg with closing := some x, closingAt := c.pc } }

/-- R245: VATOM. -/
def Ctx.vatom (c : Ctx) (op : AtomOp) (f : LM) : Except Trap Ctx := do
  let n := atomBytes op f.ty
  let v ← c.laneNats f.sv (n / 4)
  let cmp ← (if op == .cas then c.laneNats (.v f.cv) (n / 4) else .ok [])
  let as ← c.laneAddrs f n
  let ls ← c.atomLanes f false op as (fun l => v.getD l 0) (fun l => cmp.getD l 0)
  let c ← c.reserveUnknown f.dv (n / 4)
  return c.close (.atomic false op f.ty n f.dv ls)

/-- R245: SATOM. -/
def Ctx.satom (c : Ctx) (op : AtomOp) (f : LM) : Except Trap Ctx := do
  let n := atomBytes op f.ty
  let v ← (match f.sv with | .s r => c.scalarNat r (n / 4) | _ => .ok 0)
  let cmp ← (if op == .cas then c.scalarNat f.cv (n / 4) else .ok 0)
  let a ← c.base f
  let ls ← scalarMask c.leg.e0 (c.atomLanes f true op [(0, a)] (fun _ => v) (fun _ => cmp))
  return c.close (.atomic true op f.ty n f.dv ls)

/-- R249: the faults of CLAIM, in the order of its table. -/
def Ctx.claimPlace (c : Ctx) (spc : Spc) (a : DWord) : Except Trap (List Piece) :=
  match (if canonical spc a then windowOf a else none) with
  | none => .error (c.trap 0x1103 a)
  | some win =>
    if win != .glob || (match spcWindow spc with | some x => x != .glob | none => false) then
      .error (c.trap 0x1104 (reported spc a))
    else if (match c.s.leaf? c.w.asid a with | some l => l.p && l.loc == 3 | none => false) then .error (c.trap 0x0104 a)
    else if a.toNat % 16 != 0 then .error (c.trap 0x0201 a)
    else match c.s.translate c.w.asid a 16 .atomic with
      | .error e => .error (c.trap e a)
      | .ok p => match c.atomFault .add .n32 [p] with
        | some e => .error { c.trap e.1 a with poison := e.2 }
        | none => .ok [p]

/-- R249: CLAIM. -/
def Ctx.claim (c : Ctx) (f : LM) : Except Trap Ctx := do
  let lim ← (match f.sv with | .s r => c.getS r | _ => .ok 0)
  let a ← c.base f
  let ps ← c.claimPlace f.spc a
  match f.dv with
  | .s d => return c.close (.claim d a ps lim)
  | _ => return c

/-- R249: the chunk that a claim takes from a record. -/
def claimCount (next end_ cmin p lim : Nat) : Nat :=
  let rem := end_ - next
  let chunk := max (max 1 cmin) ((rem + 2 * max 1 p - 1) / (2 * max 1 p))
  let n := min chunk rem
  if lim = 0 then n else min n lim

/-! ## Records read at issue -/

/-- Read `units` units of `n` bytes from a generic address, checked as a scalar load (R254, R294). -/
def Ctx.readUnits (c : Ctx) (a : DWord) (n : Nat) : Nat → Except Trap (Ctx × List Byte)
  | 0 => .ok (c, [])
  | k + 1 => do
    let ps ← scalarMask c.leg.e0 (joinLanes [(0, a,
      match c.s.locate c.w .x true 0 a n n .read with
      | .error e => .error (e.1, e.2, [])
      | .ok p => match c.s.readFault p.pieces with
        | some e => .error (7, e.1, e.2)
        | none => .ok p)])
    let b := readPieces c.s.mem (piecesOf ps 0)
    let r ← (c.await true [(0, a)] ps).readUnits (a + BitVec.ofNat 64 n) n k
    return (r.1, b ++ r.2)

end Sys2Proof.Machine
end

