-- ==== Sys2Proof/Machine/Lookout.lean ====
section
/-! DEFINITION. Lookout (spec/18_lookout.md R349 to R366): frame sets, route cards, latches, bands and their tiers, the
status record, faults and the raster. -/

namespace Sys2Proof.Machine

/-! ## Frame sets and route cards (R352 to R355, R363, R364) -/

/-- Read the 128 bytes of a frame set; its sequence number is given at acceptance. -/
def parseSet (b : List Byte) (seq : Word) : FrameSet :=
  let d := fun o => BitVec.ofNat 64 (recNat b o 8)
  { seq := seq, colour := d 0, depth := d 8, motion := d 16, prev := d 24, pose := d 32, rw := recNat b 40 2,
    rh := recNat b 42 2, scale := recNat b 44 1, cfmt := recNat b 45 1, nout := recNat b 46 1,
    phase := (List.range 4).map fun k => recNat b (48 + 2 * k) 2 }

/-- R352: the ranges of a frame set's fields. -/
def setRangeOk (b : List Byte) (f : FrameSet) : Bool :=
  recZero b 47 1 && recZero b 56 72 && decide (1 ≤ f.rw) && decide (f.rw ≤ 7680) && decide (1 ≤ f.rh)
    && decide (f.rh ≤ 8192) && decide (1 ≤ f.scale) && decide (f.scale ≤ 4) && decide (f.cfmt ≤ 1)
    && decide (1 ≤ f.nout) && decide (f.nout ≤ 4) && f.pose.toNat % 16 == 0
    && (f.phase.zipIdx).all fun p => if p.2 < f.nout then decide (1 ≤ p.1) && decide (p.1 ≤ 256) else p.1 == 0

/-- R354: layer descriptor `k` of a card's bytes. -/
def layerKind (b : List Byte) (k : Nat) : Nat := recNat b (64 + 32 * k) 1
def layerIn (b : List Byte) (k : Nat) : Nat := recNat b (65 + 32 * k) 1
def layerOut (b : List Byte) (k : Nat) : Nat := recNat b (66 + 32 * k) 1
def layerW (b : List Byte) (k : Nat) : DWord := BitVec.ofNat 64 (recNat b (72 + 32 * k) 8)
def layerB (b : List Byte) (k : Nat) : DWord := BitVec.ofNat 64 (recNat b (80 + 32 * k) 8)

/-- R354: the ranges of a layer. -/
def layerRangeOk (b : List Byte) (k : Nat) : Bool :=
  decide (layerKind b k ≤ 4) && decide (1 ≤ layerIn b k) && decide (layerIn b k ≤ 32) && decide (1 ≤ layerOut b k)
    && decide (layerOut b k ≤ 32) && decide (recNat b (67 + 32 * k) 1 ≤ 1) && recZero b (68 + 32 * k) 4
    && recZero b (88 + 32 * k) 8
    && (if layerKind b k ≤ 1 then (layerW b k).toNat % 64 == 0 && (layerB b k).toNat % 4 == 0
        else layerW b k == 0 && layerB b k == 0)

/-- R354: the header's ranges. -/
def cardHeadOk (b : List Byte) : Bool :=
  decide (1 ≤ recNat b 0 1) && decide (recNat b 0 1 ≤ 16) && decide (1 ≤ recNat b 1 1) && decide (recNat b 1 1 ≤ 7)
    && decide (1 ≤ recNat b 2 1) && decide (recNat b 2 1 ≤ 4) && recZero b 3 61

def cardRangeOk (b : List Byte) : Bool := cardHeadOk b && (List.range (recNat b 0 1)).all (layerRangeOk b)

/-- R354: the layers that a card's header counts, if the count is in range. -/
def cardLayers (b : List Byte) : Nat := if 1 ≤ recNat b 0 1 ∧ recNat b 0 1 ≤ 16 then recNat b 0 1 else 0

/-- R354, R364: does a descriptor name weights and biases: a convolution with its channel counts in range? -/
def layerNames (b : List Byte) (k : Nat) : Bool :=
  decide (layerKind b k ≤ 1) && decide (1 ≤ layerIn b k) && decide (layerIn b k ≤ 32) && decide (1 ≤ layerOut b k)
    && decide (layerOut b k ≤ 32)

/-- R354: weight bytes of a layer. -/
def weightBytes (b : List Byte) (k : Nat) : Nat :=
  match layerKind b k with
  | 0 => layerOut b k * layerIn b k * 9
  | 1 => layerOut b k * layerIn b k
  | _ => 0

def makeCard (b : List Byte) (weights biases : List (List Byte)) : Card :=
  { insel := BitVec.ofNat 8 (recNat b 1 1), scale := recNat b 2 1,
    layers := (List.range (recNat b 0 1)).map fun k =>
      ⟨layerKind b k, layerIn b k, layerOut b k, recNat b (67 + 32 * k) 1 == 1, weights.getD k [], biases.getD k []⟩ }

/-- R355: channels that INSEL selects. -/
def Card.inputs (c : Card) : Nat :=
  (if c.insel.getLsbD 0 then 4 else 0) + (if c.insel.getLsbD 1 then 1 else 0) + (if c.insel.getLsbD 2 then 2 else 0)

/-- R355: do the layers follow one another, from a channel count on, before (`false`) or after the shuffle? -/
def layersOk (s : Nat) : List Layer → Nat → Bool → Bool
  | [], c, done => c == 4 && done
  | l :: r, c, done =>
    l.cin == c && (l.kind ≤ 1 || !l.relu)
      && (match l.kind with
          | 2 => !done && l.cin == l.cout * s * s
          | 3 => done && l.cout == l.cin + 4
          | 4 => decide (9 ≤ l.cin) && l.cout == 4
          | _ => true)
      && layersOk s r l.cout (done || l.kind == 2)

/-- R355: is a card valid? -/
def Card.valid (c : Card) : Bool := layersOk c.scale c.layers c.inputs false

/-- The bound card: the one for the next latch, else the one latched last (R363, R364). -/
def Head.bound (h : Head) : Option Card := h.cardNext.or h.card

/-- R353: RELSEQ from the sets that are held. -/
def Head.relseqNow (h : Head) : Word :=
  match h.cur, h.pend with
  | some f, _ | none, f :: _ => if f.seq == 1 then (if h.relseq == 0 then 0 else 0x7FFF_FFFF) else f.seq - 1
  | none, [] => h.seq

def Head.release (h : Head) : Head := { h with relseq := h.relseqNow }

/-- A counter that stops at its maximum (R360). -/
def capAdd (w : Word) (n : Nat) : Word := if 4294967295 ≤ w.toNat + n then 0xFFFF_FFFF else w + BitVec.ofNat 32 n

/-- The refresh that latches next (R353). -/
def Head.nextRefresh (h : Head) : Nat := h.outseq.toNat + h.latches.length + 1

/-- R349, R353: has S_0 of the next refresh come? -/
def Head.latchDue (h : Head) : Bool :=
  h.enabled && !h.disabling && decide ((h.nextRefresh - 1) * h.cfg.vtotal ≤ h.line)

/-- R353, R364: the latch. -/
def Head.doLatch (h : Head) : Head :=
  let card := h.bound
  let n := h.nextRefresh
  let add := fun (x : Head) (set : Option FrameSet) (phase : Nat) =>
    { x with card := card, cardNext := none, latches := x.latches ++ [⟨n, set, phase, card, 0, false⟩] }
  match h.cur, h.pend with
  | some f, pend =>
    if h.made < f.nout then add { h with made := h.made + 1 } (some f) (f.phase.getD h.made 256)
    else match pend with
      | g :: r => add ({ h with cur := some g, made := 1, pend := r }.release) (some g) (g.phase.getD 0 256)
      | [] => add { h with repeats := capAdd h.repeats 1 } (some f) 256
  | none, g :: r => add ({ h with cur := some g, made := 1, pend := r }.release) (some g) (g.phase.getD 0 256)
  | none, [] => add h none 256

/-- The head once a latch that is due has been made. -/
def Head.latched (h : Head) : Head := if h.latchDue then h.doLatch else h

/-- R363, R353: the head takes a frame set. -/
def Head.submit (h : Head) (b : List Byte) : Head × Word :=
  let seq := if h.seq == 0x7FFF_FFFF then 1 else h.seq + 1
  let f := parseSet b seq
  if !h.enabled || h.disabling then (h, 0x8000_0001)
  else if !setRangeOk b f then (h, 0x8000_0002)
  else if f.scale * f.rw != h.cfg.hact || f.scale * f.rh != h.cfg.vact
      || (match h.bound with | some c => c.scale != f.scale | none => false) then (h, 0x8000_0003)
  else if h.bound.isNone then (h, 0x8000_0004)
  else
    let h := { h with seq := seq }
    match h.pend with
    | [_, n] => ({ h with pend := [n, f], superseded := capAdd h.superseded 1 }.release, seq)
    | p => ({ h with pend := p ++ [f] }, seq)

/-- R364: the head takes a route card. -/
def Head.bindCard (h : Head) (b : List Byte) (weights biases : List (List Byte)) : Head × Word :=
  if !h.enabled || h.disabling then (h, 0x8000_0001)
  else if !cardRangeOk b then (h, 0x8000_0002)
  else
    let c := makeCard b weights biases
    if c.valid then ({ h with cardNext := some c }, 0) else (h, 0x8000_0003)

/-- Raster line of a head (R349). -/
def Head.rasterLine (h : Head) : Nat := (h.line + 112 * h.cfg.vtotal - h.cfg.lead) % h.cfg.vtotal

/-- R365: the items of LKSTAT. -/
def Head.stat (h : Head) (item : Nat) : Word :=
  if !h.enabled then 0
  else match item with
    | 0 => BitVec.ofNat 32 h.rasterLine
    | 1 => h.outseq.lo
    | 2 => (h.cur.map (·.seq)).getD 0
    | 3 => h.relseq
    | 4 => h.bandno
    | 5 => h.miss1
    | 6 => h.miss2
    | _ => BitVec.ofNat 32 (1 + (if h.bound.isSome then 2 else 0) + 4 * h.pend.length)

/-! ## Lookout's reads and writes (R361) -/

/-- A fault of a Lookout access: code, address, lines an error was found in. -/
abbrev LFault := BitVec 16 × DWord × List Nat

/-- R361: a Lookout fault is one of four codes. -/
def lookCode (c : BitVec 16) : BitVec 16 :=
  if c == 0x1001 || c == 0x1002 || c == 0x2001 || c == 0x2002 then c
  else if c == 0x1003 || c == 0x1004 then 0x1002 else 0x2001

/-- R412, R361: does a page under migration hold an address? Lookout takes it as a fault (log entry 76: 0x1001). -/
def State.lookBusy (s : State) (asid : BitVec 16) (a : DWord) : Bool :=
  s.busy.any fun x => x.1 == asid && pageOverlaps x.2.1 x.2.2 a.toNat 1

/-- Read bytes one by one; buffers are read raw (R352). -/
def State.lookRead (s : State) (asid : BitVec 16) (a : DWord) : Nat → Except LFault (List Byte)
  | 0 => .ok []
  | n + 1 =>
    match (if s.lookBusy asid a then .error 0x1001 else s.translate asid a 1 .read) with
    | .error e => .error (lookCode e, a, [])
    | .ok p => match s.readFault [p] with
      | some e => .error (lookCode e.1, a, e.2)
      | none => match s.lookRead asid (a + 1) n with
        | .error e => .error e
        | .ok r => .ok (Memory.get s.mem p.key :: r)

/-- Where a Lookout write of `n` bytes of one page goes: to a page that is present and writable, and, in another device's
memory, exported to this one (R420). A format page takes no such write (R202; log entry 54 gives the code). -/
def State.lookPlace (s : State) (asid : BitVec 16) (a : DWord) (n : Nat) : Except LFault Piece :=
  match s.leaf? asid a with
  | none => .error (0x1001, a, [])
  | some l =>
    if !l.p || s.lookBusy asid a then .error (0x1001, a, [])
    else if !l.w || l.fmt != 0 || s.ownerRefuses l a n then .error (0x1002, a, [])
    else match s.deadFault [⟨l.key a, n, some l⟩] with
      | some e => if l.loc == 3 then .ok ⟨l.key a, n, some l⟩ else .error (lookCode e.1, a, e.2)
      | none => .ok ⟨l.key a, n, some l⟩

/-- R361: record a fault of a refresh, and post a record for its first. -/
def State.lookFault (s : State) (h : Head) (n : Nat) (e : LFault) : State × Head :=
  let s := s.markPoison e.2.2
  let mark := fun (l : Latch) => if l.n == n then { l with posted := true } else l
  let h' := { h with fcode := e.1, faddr := e.2.1, fcount := capAdd h.fcount 1, latches := h.latches.map mark }
  if h.latches.any fun l => l.n == n && l.posted then (s, h')
  else (s.postRecord h.cfg.part 4 fun seq =>
    recordBytes 4 e.1 seq e.2.1 0 h.cfg.asid h.num 0 0 0 h.outseq, h')

/-! ## Sampling (R355, R356, R358) -/

/-- Clamp a coordinate to 0 … n - 1. -/
def clampTo (n : Nat) (x : Int) : Nat := (max 0 (min x ((n : Int) - 1))).toNat

/-- What one band is computed from. -/
structure BandCtx where
  s : State
  h : Head
  n : Nat
  set : FrameSet
  phase : Nat
  ox : Int
  oy : Int

/-- Colour bytes of a render pixel. -/
def BandCtx.colour (b : BandCtx) (x y : Nat) : Except LFault (List Byte) :=
  let n := if b.set.cfmt = 0 then 4 else 8
  b.s.lookRead b.h.cfg.asid (b.set.colour + BitVec.ofNat 64 (n * (b.set.rw * y + x))) n

/-- R358: a value of 0 to 1 as an 8-bit component; NaN gives 0. -/
def unorm (v : Val) : Nat := (toInt .rne 0 255 (Val.mul v (ofInt 255 0))).1.toNat

/-- R355: an 8-bit component as FP16. -/
def fromUnorm (q : Nat) : Nat := fp16.round .rne true ((ofInt q 0).div (ofInt 255 0))

/-- R358: a component of a render pixel as 8 bits. -/
def BandCtx.component (b : BandCtx) (px : List Byte) (c : Nat) : Nat :=
  if b.set.cfmt = 0 then (px.getD c 0).toNat else unorm (fp16.decode (recNat px (2 * c) 2))

/-- R350: the frame refresh `n` writes, and the address of a pixel in a frame. -/
def Head.frameOf (h : Head) (n : Nat) : Nat := if h.num < 4 then n % 2 else n % h.cfg.nbuf
def Head.pixelAt (h : Head) (base : DWord) (x y : Nat) : DWord := base + BitVec.ofNat 64 (4 * (h.cfg.hact * y + x))
def Head.frameBase (h : Head) (n : Nat) : DWord :=
  h.cfg.hist + BitVec.ofNat 64 (4 * h.cfg.hact * h.cfg.vact * h.frameOf n)

/-- PREV: the set's, or the head's own previous refresh (R352). -/
def BandCtx.prevBase (b : BandCtx) : DWord :=
  if b.set.prev == 0 then b.h.frameBase (b.n - 1) else b.set.prev

def BandCtx.prevPixel (b : BandCtx) (x y : Int) : Except LFault (List Byte) :=
  b.s.lookRead b.h.cfg.asid
    (b.h.pixelAt b.prevBase (clampTo b.h.cfg.hact x) (clampTo b.h.cfg.vact y)) 4

/-- R358: sum of absolute differences of an output block under a displacement. -/
def BandCtx.sad (b : BandCtx) (bx by_ : Nat) (d : Int × Int) : Except LFault Nat :=
  ((List.range 64).filter fun k => by_ * 8 + k / 8 < b.h.cfg.vact).foldlM (fun acc k => do
    let x := bx * 8 + k % 8
    let y := by_ * 8 + k / 8
    let cur ← b.colour (x / b.set.scale) (y / b.set.scale)
    let old ← b.prevPixel (x - d.1) (y - d.2)
    return acc + ((List.range 3).map fun c =>
      ((b.component cur c : Int) - ((old.getD c 0).toNat : Int)).natAbs).sum) 0

/-- R358: is the first vector with its sum the better one? -/
def betterVector (a c : Nat × Int × Int) : Bool :=
  let na := a.2.1.natAbs + a.2.2.natAbs
  let nc := c.2.1.natAbs + c.2.2.natAbs
  if a.1 ≠ c.1 then decide (a.1 < c.1)
  else if na ≠ nc then decide (na < nc)
  else if a.2.2 ≠ c.2.2 then decide (a.2.2 < c.2.2)
  else decide (a.2.1 < c.2.1)

/-- R358: the motion block's vector of an output block. -/
def BandCtx.blockMotion (b : BandCtx) (bx by_ : Nat) : Except LFault (Int × Int) := do
  let cands : List (Int × Int) :=
    (List.range 129).flatMap fun (i : Nat) => (List.range 129).map fun (j : Nat) => ((i : Int) - 64, (j : Int) - 64)
  let sums ← cands.mapM fun d => do return (← b.sad bx by_ d, d.1, d.2)
  match sums with
  | [] => return (0, 0)
  | x :: xs => return (xs.foldl (fun m c => if betterVector c m then c else m) x).2

/-- R358: r(m·p): a motion component times the phase, to the nearest integer. -/
def BandCtx.moved (b : BandCtx) (m : Val) : Int :=
  if m.isNan then Config.nanMotion b.s.tick
  else (toInt .rne (-1048576) 1048576 (Val.mul m (.fin false b.phase (-8)))).1

/-- R358: prevsample's pixel at reprojected coordinates. -/
def BandCtx.prevSample (b : BandCtx) (x y : Nat) : Except LFault (List Byte) := do
  let m ← (if b.set.motion == 0 then do
      let v ← b.blockMotion (x / 8) (y / 8)
      return (ofInt v.1 0, ofInt v.2 0)
    else do
      let at_ := b.set.motion + BitVec.ofNat 64 (4 * (b.set.rw * (y / b.set.scale) + x / b.set.scale))
      let p ← b.s.lookRead b.h.cfg.asid at_ 4
      return (Val.mul (fp16.decode (recNat p 0 2)) (ofInt b.set.scale 0), Val.mul (fp16.decode (recNat p 2 2)) (ofInt b.set.scale 0)))
  b.prevPixel ((x : Int) - b.moved m.1) ((y : Int) - b.moved m.2)

/-! ## The network (R355) -/

/-- R355: input channel `c` of a render pixel as FP16. -/
def BandCtx.input (b : BandCtx) (card : Card) (x y : Nat) (c : Nat) : Except LFault Nat :=
  let colour := if card.insel.getLsbD 0 then 4 else 0
  let depth := if card.insel.getLsbD 1 then 1 else 0
  if c < colour then do
    let px ← b.colour x y
    return if b.set.cfmt = 0 then fromUnorm (px.getD c 0).toNat else recNat px (2 * c) 2
  else if c < colour + depth then
    if b.set.depth == 0 then .ok (Config.absentInput b.s.tick).toNat
    else do
      let d ← b.s.lookRead b.h.cfg.asid (b.set.depth + BitVec.ofNat 64 (4 * (b.set.rw * y + x))) 4
      return fp16.round .rne true (fp32.decode (leNat d))
  else
    if b.set.motion == 0 then .ok (Config.absentInput b.s.tick).toNat
    else do
      let d ← b.s.lookRead b.h.cfg.asid (b.set.motion + BitVec.ofNat 64 (4 * (b.set.rw * y + x))) 4
      return recNat d (2 * (c - colour - depth)) 2

/-- R355: a convolution's output from its terms and bias. -/
def convOut (relu : Bool) (bias : Word) (terms : List Val) : Nat :=
  let a := toF32 .rne false (Val.add .rne (f32 bias) (sumVals .rne terms))
  let v := f32 a
  let v := if relu && !v.isNan && (a.getLsbD 31) then .fin false 0 0 else v
  fp16.round .rne true v

/-- R355: output channel `c` at pixel (x, y) of the last of a list of layers, the last layer first. -/
def BandCtx.layerAt (b : BandCtx) (card : Card) : List Layer → Nat → Nat → Nat → Except LFault Nat
  | [], x, y, c => b.input card x y c
  | l :: ls, x, y, c =>
    let wide := ls.any (·.kind == 2)
    let w := if wide then b.h.cfg.hact else b.set.rw
    let h := if wide then b.h.cfg.vact else b.set.rh
    match l.kind with
    | 0 => do
      let ts ← (List.range (9 * l.cin)).mapM fun k => do
        let inside := decide (1 ≤ x + k % 3) && decide (x + k % 3 ≤ w) && decide (1 ≤ y + k / 3 % 3) && decide (y + k / 3 % 3 ≤ h)
        let v ← if inside then b.layerAt card ls (x + k % 3 - 1) (y + k / 3 % 3 - 1) (k / 9) else .ok 0
        return Val.mul (e4m3.decode (l.weights.getD (9 * (c * l.cin + k / 9) + k % 9) 0).toNat) (fp16.decode v)
      return convOut l.relu (BitVec.ofNat 32 (recNat l.biases (4 * c) 4)) ts
    | 1 => do
      let ts ← (List.range l.cin).mapM fun k => do
        let v ← b.layerAt card ls x y k
        return Val.mul (e4m3.decode (l.weights.getD (c * l.cin + k) 0).toNat) (fp16.decode v)
      return convOut l.relu (BitVec.ofNat 32 (recNat l.biases (4 * c) 4)) ts
    | 2 =>
      let s := card.scale
      b.layerAt card ls (x / s) (y / s) (c * s * s + y % s * s + x % s)
    | 3 =>
      if c < l.cin then b.layerAt card ls x y c
      else do return fromUnorm ((← b.prevSample x y).getD (c - l.cin) 0).toNat
    | _ => do
      let a ← b.layerAt card ls x y 8
      let u ← b.layerAt card ls x y c
      let v ← b.layerAt card ls x y (c + 4)
      let one : Val := ofInt 1 0
      let al := match fp16.decode a with
        | .nan => .fin false 0 0
        | x => if x.compare (.fin false 0 0) == .lt then .fin false 0 0 else if one.compare x == .lt then one else x
      return fp16.round .rne false (Val.add .rne (Val.mul al (fp16.decode u)) (Val.mul (Val.add .rne one al.neg) (fp16.decode v)))

/-! ## The tiers of a band (R356 to R358) -/

/-- Bytes of a pixel from its components. -/
def pixelBytes (cs : List Nat) : List Byte := cs.map (BitVec.ofNat 8)

/-- R356: the reprojected coordinates of a pixel. -/
def BandCtx.repro (b : BandCtx) (x y : Nat) : Nat × Nat :=
  (clampTo b.h.cfg.hact ((x : Int) + b.ox), clampTo b.h.cfg.vact ((y : Int) + b.oy))

/-- A pixel of tier 0. -/
def BandCtx.tier0 (b : BandCtx) (card : Card) (x y : Nat) : Except LFault (List Byte) := do
  let p := b.repro x y
  let vs ← (List.range 4).mapM fun c => b.layerAt card card.layers.reverse p.1 p.2 c
  return pixelBytes (vs.map fun v => unorm (fp16.decode v))

/-- A pixel of tier 1. -/
def BandCtx.tier1 (b : BandCtx) (x y : Nat) : Except LFault (List Byte) :=
  let p := b.repro x y
  b.prevSample p.1 p.2

/-- A pixel of tier 2; an error is a pixel that takes FILL. -/
def BandCtx.tier2 (b : BandCtx) (x y : Nat) : Except LFault (List Byte) := do
  let p := b.repro x y
  let px ← b.colour (p.1 / b.set.scale) (p.2 / b.set.scale)
  return pixelBytes ((List.range 4).map fun c => b.component px c)

/-- Lines of a band (R356). -/
def Head.bandLines (h : Head) (b : Nat) : List Nat := (List.range 16).filterMap fun i =>
  if 16 * b + i < h.cfg.vact then some (16 * b + i) else none

/-- Bands of a refresh. -/
def Head.bandCount (h : Head) : Nat := (h.cfg.vact + 15) / 16

/-- The value of `line` at which line `y` of refresh `n` goes out. -/
def Head.dueLine (h : Head) (n y : Nat) : Nat := h.cfg.lead + (n - 1) * h.cfg.vtotal + y

/-- Rows of a band at tier 0 or 1. -/
def bandRows (h : Head) (b : Nat) (px : Nat → Nat → Except LFault (List Byte)) : Except LFault (List (Nat × List Byte)) :=
  (h.bandLines b).mapM fun y => do
    let xs ← (List.range h.cfg.hact).mapM fun x => px x y
    return (y, xs.flatten)

/-- A state and a head with faults of a refresh recorded, in order (R361). -/
def State.lookFaults (s : State) (h : Head) (n : Nat) (es : List LFault) : State × Head :=
  es.foldl (fun x e => x.1.lookFault x.2 n e) (s, h)

/-- R358: one line at tier 2: its bytes, the faults of its colour reads in pixel order, and the pixels given FILL. -/
def fillLine (h : Head) (late : List Nat) (px : Nat → Except LFault (List Byte)) : List Byte × List LFault × Nat :=
  let cells := (List.range h.cfg.hact).map fun x => if late.contains x then none else some (px x)
  let errs := cells.filterMap fun c => match c with | some (.error e) => some e | _ => none
  (cells.flatMap fun c => match c with
    | some (.ok b) => b
    | _ => leBytes h.cfg.fill.toNat 4, errs, (cells.filter fun c => match c with | some (.ok _) => false | _ => true).length)

/-- R350, R361: write output rows to a frame in units of 32 bytes; a unit that faults is dropped and recorded. -/
def State.writeRows (s : State) (h : Head) (n : Nat) (rows : List (Nat × List Byte)) : State × Head :=
  rows.foldl (fun acc r =>
    (List.range (r.2.length / 32)).foldl (fun (acc : State × Head) k =>
      let a := h.frameBase n + BitVec.ofNat 64 (4 * h.cfg.hact * r.1 + 32 * k)
      match acc.1.lookPlace h.cfg.asid a 32 with
      | .ok p => (acc.1.store [p] ((r.2.drop (32 * k)).take 32), acc.2)
      | .error e => acc.1.lookFault acc.2 n e) acc) (s, h)

/-! ## The status record (R360) -/

/-- The 256 bytes of the status record. -/
def Head.statusBytes (h : Head) : List Byte :=
  leBytes h.outseq.toNat 8 ++ leBytes ((h.cur.map (·.seq.toNat)).getD 0) 4 ++ leBytes h.relseq.toNat 4
    ++ leBytes h.miss1.toNat 4 ++ leBytes h.miss2.toNat 4 ++ leBytes h.fillpx.toNat 4 ++ leBytes h.repeats.toNat 4
    ++ leBytes h.superseded.toNat 4 ++ leBytes h.fcode.toNat 2 ++ leBytes 0 2 ++ leBytes h.faddr.toNat 8
    ++ leBytes h.fcount.toNat 4 ++ leBytes h.pseq.toNat 4 ++ leBytes h.bandno.toNat 4 ++ leBytes 0 4
    ++ leBytes (packBits 2 h.tiermap) 128 ++ leBytes 0 64

/-- One 8-byte store of the status record; one that faults is dropped and recorded. -/
def State.writeStatWord (s : State) (h : Head) (n off : Nat) : State × Head :=
  match s.lookPlace h.cfg.asid (h.cfg.staddr + BitVec.ofNat 64 off) 8 with
  | .ok p => (s.store [p] ((h.statusBytes.drop off).take 8), h)
  | .error e => s.lookFault h n e

/-- R360: what a band's end writes: the word of the band's TIERMAP bits, the words of the counters, at the refresh's last band
OUTSEQ, then BANDNO. -/
def statusWords (band : Nat) (last : Bool) : List Nat :=
  [64 + 8 * (band / 32), 8, 16, 24, 32, 40, 48] ++ (if last then [0] else []) ++ [56]

/-- R360: write the status record at a band's end, in single stores of 8 bytes. -/
def State.writeStat (s : State) (h : Head) (b : Band) : State × Head :=
  (statusWords b.num (decide (h.bandCount ≤ b.num + 1))).foldl (fun x off => x.1.writeStatWord x.2 b.n off) (s, h)

/-! ## The events -/

/-- R353: REFRESH_LATCH. -/
def State.refreshLatch (s : State) (n : Nat) : State :=
  match s.head? n with
  | none => s
  | some h => if h.latchDue then s.setHead h.doLatch else s

/-- R357: is tier 1 unavailable to refresh `n`? -/
def Head.noTier1 (h : Head) (n : Nat) (f : FrameSet) : Bool :=
  n == 1 || (f.prev == 0 && decide (4 ≤ h.num) && !h.wrote)

/-- R356: the reprojection offset of a component. -/
def poseInt (w : Word) : Int := (toInt .rne (-4096) 4096 (f32 w)).1

/-- An offset that no rule states (log entry 12). -/
def State.freeOffset (s : State) : Int × Int :=
  let o := Config.poseOffset s.tick
  (max (-4096) (min o.1 4096), max (-4096) (min o.2 4096))

/-- R356: has S_b of a refresh's next band come? -/
def Head.startDue (h : Head) (l : Latch) : Bool :=
  decide (l.bands < h.bandCount) && decide ((l.n - 1) * h.cfg.vtotal + 16 * l.bands ≤ h.line)

/-- R356, R357, R352: the next band of a refresh starts: its pose is read. A pose record with a Reserved byte that is not
zero is refused whole (R9). -/
def State.startBand (s : State) (h : Head) (l : Latch) : State × Head :=
  let step := fun (x : Latch) => if x.n == l.n then { x with bands := x.bands + 1 } else x
  let h := { h with latches := h.latches.map step }
  let open_ := fun (h : Head) (tier : Nat) (o : Int × Int) =>
    { h with bands := h.bands ++ [⟨l.n, l.bands, tier, false, o.1, o.2⟩] }
  match l.set with
  | none => (s, open_ h 2 (0, 0))
  | some f =>
    let tier := if h.noTier1 l.n f then 2 else 0
    if f.pose == 0 then (s, open_ h tier (0, 0))
    else match s.lookRead h.cfg.asid f.pose 16 with
      | .ok p =>
        let w := fun o => BitVec.ofNat 32 (recNat p o 4)
        if w 4 == 0 then (s, open_ { h with pseq := w 0 } tier (poseInt (w 8), poseInt (w 12)))
        else (s, open_ h tier s.freeOffset)
      | .error e => s.lookFault (open_ h (max tier 1) s.freeOffset) l.n e

/-- BAND_START (R356): the oldest refresh with a band whose time has come starts it. -/
def State.bandStart (s : State) (n : Nat) : State :=
  match s.head? n with
  | none => s
  | some h => match h.latches.find? h.startDue with
    | none => s
    | some l => let r := s.startBand h l; r.1.setHead r.2

/-- R357: the tier that the raster's position leaves a band. -/
def Head.tierNow (h : Head) (b : Band) : Nat :=
  let due := h.dueLine b.n (16 * b.num)
  if due < h.line + 1 then 2 else if due < h.line + 4 then max b.tier 1 else b.tier

/-- R357: the band that the engine is computing: the oldest that is not complete and not left to tier 2. -/
def Head.inWork (h : Head) : Option Band := h.bands.find? fun b => !b.done && b.tier ≤ 1

/-- Change one band. -/
def Head.setBand (h : Head) (b : Band) : Head :=
  { h with bands := h.bands.map fun x => if x.n == b.n && x.num == b.num then b else x }

/-- Change the bands of a head that are not complete. -/
def State.mapBands (s : State) (n : Nat) (f : Head → Band → Band) : State :=
  match s.head? n with
  | none => s
  | some h => s.setHead { h with bands := h.bands.map fun b => if b.done then b else f h b }

/-- R357: the projection puts the finish of the band in work after D_b. -/
def State.bandLate (s : State) (n : Nat) (late : Bool) : State :=
  match s.head? n with
  | none => s
  | some h => match h.inWork with
    | none => s
    | some b => if late && b.tier == 0 then s.setHead (h.setBand { b with tier := 1 }) else s

/-- R357: D_b has come. -/
def State.tier0Deadline (s : State) (n : Nat) : State :=
  s.mapBands n fun h b =>
    if b.tier == 0 && decide (h.dueLine b.n (16 * b.num) ≤ h.line + 4) then { b with tier := 1 } else b

/-- R357: C_b has come. -/
def State.tier1Cutoff (s : State) (n : Nat) : State :=
  s.mapBands n fun h b =>
    if b.tier ≤ 1 && decide (h.dueLine b.n (16 * b.num) ≤ h.line + 1) then { b with tier := 2 } else b

/-- R366: a disabled head. -/
def Head.stop (h : Head) : Head := { h with enabled := false, disabling := false }

/-- R366: a head being disabled stops once its refresh has gone out. -/
def Head.settle (h : Head) : Head :=
  if h.disabling && h.latches.isEmpty && h.rows.isEmpty then h.stop else h

/-- R360: the status of a finished band: its TIERMAP bits, the counters, BANDNO, and OUTSEQ at the refresh's last band. -/
def Head.recordBand (h : Head) (b : Band) : Head :=
  let last := decide (h.bandCount ≤ b.num + 1)
  { h with
    bands := h.bands.filter (fun x => !(x.n == b.n && x.num == b.num)),
    tiermap := h.tiermap.set b.num b.tier,
    miss1 := if b.tier = 1 then capAdd h.miss1 1 else h.miss1,
    miss2 := if b.tier = 2 then capAdd h.miss2 1 else h.miss2,
    bandno := if last then 0 else h.bandno + 1,
    outseq := if last && h.outseq != 0xFFFF_FFFF_FFFF_FFFF then h.outseq + 1 else h.outseq,
    wrote := h.wrote || last }

/-- A refresh whose last band is recorded is over. -/
def Head.endRefresh (h : Head) (b : Band) : Head :=
  if h.bandCount ≤ b.num + 1 then { h with latches := h.latches.filter (·.n != b.n) } else h

/-- R360: complete bands are recorded in order. -/
def State.recordBands (s : State) (h : Head) : Nat → State × Head
  | 0 => (s, h)
  | k + 1 => match h.bands with
    | [] => (s, h)
    | b :: _ =>
      if b.done then let x := s.writeStat (h.recordBand b) b; x.1.recordBands (x.2.endRefresh b) k else (s, h)

/-- R357: the band in work is complete at tier 0 or 1, or leaves its tier because an input read faults. -/
def State.finishBand (s : State) (h : Head) (l : Latch) (b : Band) : State × Head :=
  let done := fun (tier : Nat) (rows : List (Nat × List Byte)) =>
    let x := s.writeRows h b.n rows
    x.1.recordBands { x.2.setBand { b with tier := tier, done := true } with
      rows := x.2.rows ++ rows.map fun r => (h.dueLine b.n r.1, r.2) } h.bands.length
  match l.set with
  | none => (s, h.setBand { b with tier := 2 })
  | some f =>
    let c : BandCtx := ⟨s, h, b.n, f, l.phase, b.ox, b.oy⟩
    match b.tier, l.card with
    | 0, none => (s, h.setBand { b with tier := 1 })
    | 0, some k => match bandRows h b.num (c.tier0 k) with
      | .ok rows => done 0 rows
      | .error e => s.lookFault (h.setBand { b with tier := 1 }) b.n e
    | 1, _ => match bandRows h b.num c.tier1 with
      | .ok rows => done 1 rows
      | .error e => s.lookFault (h.setBand { b with tier := 2 }) b.n e
    | _, _ => (s, h.setBand { b with tier := 2 })

/-- BAND_DONE (R350, R357, R360). -/
def State.bandDone (s : State) (n : Nat) : State :=
  match s.head? n with
  | none => s
  | some h => match h.inWork with
    | none => s
    | some b => match h.latches.find? (·.n == b.n) with
      | none => s
      | some l => let r := s.finishBand h l { b with tier := h.tierNow b }; r.1.setHead r.2

/-- R359: latches and band starts whose time has come are made before the raster goes on. -/
def State.forceDue (s : State) (n : Nat) : State :=
  match s.head? n with
  | none => s
  | some h =>
    let h := h.latched
    let r := h.latches.foldl (fun (x : State × Head) l => if x.2.startDue l then x.1.startBand x.2 l else x) (s, h)
    r.1.setHead r.2

/-- R349: the refresh and the active line that go out now. -/
def Head.lineNow (h : Head) : Option (Nat × Nat) :=
  let y := (h.line - h.cfg.lead) % h.cfg.vtotal
  if decide (h.cfg.lead ≤ h.line) && decide (y < h.cfg.vact) then some ((h.line - h.cfg.lead) / h.cfg.vtotal + 1, y) else none

/-- R357, R358: a line of a band that no other tier has completed is generated inline at tier 2, as it goes out. -/
def State.inlineLine (s : State) (h : Head) (n y : Nat) : State × Head :=
  match h.bands.find? fun b => b.n == n && b.num == y / 16, h.latches.find? (·.n == n) with
  | some b, some l =>
    if b.done then (s, h)
    else
      let r : List Byte × List LFault × Nat := match l.set with
        | none => ((List.replicate h.cfg.hact (leBytes h.cfg.fill.toNat 4)).flatten, [], h.cfg.hact)
        | some f =>
          let c : BandCtx := ⟨s, h, n, f, l.phase, b.ox, b.oy⟩
          fillLine h h.late fun x => c.tier2 x y
      let x := s.lookFaults { h with late := [], fillpx := capAdd h.fillpx r.2.2 } n r.2.1
      let x := x.1.writeRows x.2 n [(y, r.1)]
      let ends := y % 16 == 15 || y + 1 == h.cfg.vact
      x.1.recordBands (x.2.setBand { b with tier := 2, done := ends }) h.bands.length
  | _, _ => (s, h)

/-- R349, R359: LINE_SCANOUT: the raster passes a line; an active one goes out. -/
def State.lineScanout (s : State) (n : Nat) : State :=
  match s.head? n with
  | none => s
  | some h =>
    if !h.enabled then s
    else
      let s := s.forceDue n
      match s.head? n with
      | none => s
      | some h =>
        let r := match h.lineNow with
          | some x => s.inlineLine h x.1 x.2
          | none => (s, h)
        r.1.setHead ({ r.2 with rows := r.2.rows.filter (fun x => r.2.line < x.1), line := r.2.line + 1 }.settle)

/-- R361: LOOKOUT_ACCESS_FAULT: an access of the band in work that faults as the memory stands. -/
def State.lookAccessFault (s : State) (n : Nat) (code : BitVec 16) (addr : DWord) : State :=
  match s.head? n with
  | none => s
  | some h => match h.inWork with
    | none => s
    | some b =>
      let e : Option LFault := match s.lookRead h.cfg.asid addr 1, s.lookPlace h.cfg.asid addr 1 with
        | .error e, .error e' => if e.1 == code then some e else if e'.1 == code then some e' else none
        | .error e, .ok _ => if e.1 == code then some e else none
        | .ok _, .error e' => if e'.1 == code then some e' else none
        | .ok _, .ok _ => none
      match e with
      | none => s
      | some e =>
        let r := s.lookFault (h.setBand { b with tier := min 2 (b.tier + 1) }) b.n e
        r.1.setHead r.2

/-- R349: a head as a HEAD_CONFIG enables it. -/
def Head.start (n : Nat) (cfg : HeadCfg) : Head :=
  { num := n, enabled := true, cfg := cfg, disabling := false, seq := 0, cur := none, made := 0, pend := [], card := none,
    cardNext := none, line := 0, latches := [], bands := [], late := [], rows := [], outseq := 0, relseq := 0, miss1 := 0,
    miss2 := 0, fillpx := 0, repeats := 0, superseded := 0, fcode := 0, faddr := 0, fcount := 0, pseq := 0, bandno := 0,
    tiermap := List.replicate 512 0, wrote := false }

/-- R366: ENABLE 0 reaches an enabled head: pending sets are released. -/
def Head.disable (h : Head) : Head := { h with pend := [], disabling := true }.release.settle

end Sys2Proof.Machine
end

