-- ==== Sys2Proof/Machine/Basalt.lean ====
section
/-! DEFINITION. Basalt (spec/09_matrix.md R170 to R188): tile commands, their checks and probes, the scoreboard, the
accumulation order, suspension and the sequencer's stopping points. -/

namespace Sys2Proof.Machine

/-! ## Tiles -/

/-- The bytes of a tile. -/
def State.tileBytes (s : State) (core : Nat) (t : Tile) : List Byte :=
  readPieces s.mem (tilePieces (s.core core) (tileSpan t).1 (tileSpan t).2)

/-- Put bytes and the poison bit into a tile (R172). -/
def State.putTile (s : State) (core : Nat) (t : Tile) (b : List Byte) (bad : Bool) : State :=
  let c := s.core core
  let bit := BitVec.ofNat 144 (2 ^ tileBit t)
  { s with mem := writePieces s.mem (tilePieces c (tileSpan t).1 (tileSpan t).2) b }.setCore
    { c with tilePoison := if bad then c.tilePoison ||| bit else c.tilePoison &&& ~~~bit }

def State.tileBad (s : State) (core : Nat) (t : Tile) : Bool := (s.core core).tilePoison.getLsbD (tileBit t)

/-- R171, R31: may the wave name the tile? -/
def State.tileOk (s : State) (w : Wave) (t : Tile) : Bool :=
  (match s.recOf w with | some r => r.holdsTile t | none => false) && tileBacked (s.core w.core.toNat) t

/-- Bytes of a tile's row (R170). -/
def rowBytes : Tile → Nat
  | .o _ => 64
  | .z _ => 128

/-- The operand tiles of a range. -/
def tileRange (n : BitVec 7) (k : Nat) : List Tile := (List.range k).map fun i => .o (n + BitVec.ofNat 7 i)

def paramK (p : Word) : Nat := pfield p 17 12 + 1

/-- Tiles a command writes, and tiles it reads (R173). -/
def TileCmd.writes : TileCmd → List Tile
  | .load t _ _ | .loadW t _ _ _ | .gather t _ _ | .zero t => [t]
  | .store _ _ _ => []
  | .mma z _ _ _ _ | .grp z _ _ _ _ _ => [.z z]

def TileCmd.reads : TileCmd → List Tile
  | .store t _ _ => [t]
  | .mma _ a b p _ => tileRange a (paramK p) ++ tileRange b (paramK p)
  | .grp _ a b p g _ => tileRange a (paramK p) ++ tileRange b (g.length * paramK p)
  | _ => []

def TileCmd.names (c : TileCmd) : List Tile := c.writes ++ c.reads

/-- R173: two commands conflict when they name a tile in common and one of them writes it. -/
def TileCmd.conflicts (a b : TileCmd) : Bool :=
  a.writes.any (fun t => b.names.contains t) || b.writes.any fun t => a.names.contains t

/-! ## Memory operands (R178, R179) -/

/-- R178: the window rows of an address, in order; `need` restricts the window. -/
def State.tileAddr (s : State) (w : Wave) (a : DWord) (need : Option Window) : Option (BitVec 16) :=
  let _ := s
  match windowOf a with
  | none => some 0x1103
  | some win =>
    if win == .priv || (match need with | some n => win != n | none => false) then some 0x1104
    else match win with
      | .scr => if (a.extractLsb' 40 10).toNat == w.core.toNat then none else some 0x1101
      | .clus => if (a.extractLsb' 42 7).toNat == w.core.toNat / 8 then none else some 0x1102
      | _ => none

/-- Address of row `i`. -/
def rowAddr (a st : DWord) (i : Nat) : DWord := a + BitVec.ofNat 64 i * st

/-- R178: does row `i` of `n` bytes lie inside the scratchpad-role or cluster-shared banks? -/
def State.rowInBanks (s : State) (a st : DWord) (n i : Nat) : Bool :=
  match localSpot a with
  | none => true
  | some (c, o) =>
    let x : Int := (o : Int) + (i : Int) * st.toInt
    decide (0 ≤ x) && decide (x + n ≤ scratchBytes (s.core c))

/-- The pieces of row `i`, in units of 64 bytes; a global row is translated for a use. -/
def State.rowPieces (s : State) (asid : BitVec 16) (a st : DWord) (n i : Nat) (u : Use) :
    Except (BitVec 16 × DWord) (List Piece) :=
  match localSpot a with
  | some (c, o) => .ok (scratchPieces (s.core c) ((o : Int) + (i : Int) * st.toInt).toNat n)
  | none =>
    (List.range ((n + 63) / 64)).foldr (fun k acc =>
      let va := rowAddr a st i + BitVec.ofNat 64 (64 * k)
      match s.translate asid va (min 64 (n - 64 * k)) u, acc with
      | .ok p, .ok ps => .ok (p :: ps)
      | .error e, _ => .error (e, va)
      | _, .error e => .error e) (.ok [])

/-- The bytes that a load of `n` elements from element `i` on reads. -/
def PageLayout.rowPieces (p : PageLayout) (l : Leaf) (i n : Nat) : List Piece :=
  (List.range n).flatMap fun k => p.elemPieces l (physKey l.loc l.dev l.pa.toNat) (i + k)

/-- R183: the page, first element and layout of a TLD.w row; a failure names its code. -/
def State.widenRow (s : State) (asid : BitVec 16) (part : BitVec 3) (va : DWord) (kt : Nat) :
    Except (BitVec 16) (Leaf × PageLayout × Nat) :=
  match s.leaf? asid va with
  | none => .error 0x1001
  | some l =>
    if !l.p then .error 0x1001
    else if l.fmt == 0 then .error 0x0104
    else match l.layout (s.nft part) with
      | none => .error 0x0104
      | some p =>
        let bits := 8 * (va.toNat % p.bytes)
        if bits % p.width != 0 || decide (p.elems < bits / p.width + kt) then .error 0x0201
        else if s.piecesRefused l (p.rowPieces l (bits / p.width) kt) then .error 0x1002
        else .ok (l, p, bits / p.width)

/-- Elements of a row of a tile format (R170). -/
def tileElems (e : Elem) : Nat := 512 / e.container

/-- The element format of a TLD.w. -/
def loadElem (c : BitVec 5) : Elem := (fixedElem c.toNat).getD (.flt bf16)

/-- R179, R183: the probe of a command before its leg commits: the first failing page. -/
def State.tileProbe (s : State) (w : Wave) (c : TileCmd) : Option (BitVec 16 × DWord) :=
  let rows := fun (t : Tile) a st u => (List.range 32).findSome? fun i =>
    match s.rowPieces w.asid a st (rowBytes t) i u with
    | .error e => some e
    | .ok ps => match u with
      | .write => match s.deadFault ps with
        | some e => if ps.any fun p => p.host?.isSome then none else some (e.1, rowAddr a st i)
        | none => none
      | _ => none
  match c with
  | .load t a st => rows t a st .read
  | .store t a st => rows t a st .write
  | .loadW _ a st e => (List.range 32).findSome? fun i =>
    match s.widenRow w.asid w.part (rowAddr a st i) (tileElems (loadElem e)) with
    | .error x => some (x, rowAddr a st i)
    | .ok _ => none
  | _ => none

/-! ## Reading a load's source (R172, R176, R181, R183, R184) -/

/-- What a load's rows bring: bytes, poison, conversion counts (R183), and the lines in which damage was found. -/
structure Loaded where
  bytes : List Byte
  bad : Bool
  events : Nat × Nat × Nat
  found : List Nat

/-- A load's rows, or the fault that suspends it. -/
abbrev LoadResult := Except (BitVec 16 × DWord) Loaded

/-- R172, R176, R419: damage of the source arrives as poison, in these lines; a location that does not answer suspends the
load. -/
def State.pieceDamage (s : State) (ps : List Piece) : Except (BitVec 16) (List Nat) :=
  match s.deadFault ps with
  | some e => if e.1 == 0x2001 then .ok (pieceLines ps) else .error e.1
  | none => .ok ((pieceLines ps).filter s.damaged)

/-- TLD: 32 rows. -/
def State.loadRows (s : State) (asid : BitVec 16) (a st : DWord) (n : Nat) : LoadResult :=
  (List.range 32).foldl (fun acc i =>
    match acc with
    | .error e => .error e
    | .ok x => match s.rowPieces asid a st n i .read with
      | .error e => .error e
      | .ok ps => match s.pieceDamage ps with
        | .error e => .error (e, rowAddr a st i)
        | .ok d => .ok { x with bytes := x.bytes ++ readPieces s.mem ps, bad := x.bad || !d.isEmpty, found := x.found ++ d })
    (.ok ⟨[], false, (0, 0, 0), []⟩)

/-- TLD.w: decode 32 rows. -/
def State.loadWide (s : State) (asid : BitVec 16) (part : BitVec 3) (a st : DWord) (de : Elem) : LoadResult :=
  let kt := tileElems de
  let rows := (List.range 32).map fun i => (rowAddr a st i, s.widenRow asid part (rowAddr a st i) kt)
  match rows.findSome? fun r => match r.2 with | .error e => some (e, r.1) | .ok _ => none with
  | some e => .error e
  | none =>
    let ok := rows.filterMap fun r => match r.2 with | .ok x => some (r.1, x) | .error _ => none
    match ok.findSome? fun r => (s.pageFault r.2.1 (r.2.2.1.rowPieces r.2.1 r.2.2.2 kt)).map fun e => (e, r.1) with
    | some e => .error e
    | none =>
      let base := fun (r : DWord × Leaf × PageLayout × Nat) => physKey r.2.1.loc r.2.1.dev r.2.1.pa.toNat
      .ok (ok.foldl (fun acc r =>
        let p := r.2.2.1
        -- R104: the elements this load decodes from the same page
        let all := (ok.filter fun q => base q == base r).flatMap fun q => (List.range kt).map (· + q.2.2.2)
        let dead := (s.deadFault [⟨r.2.1.key r.1, 1, some r.2.1⟩]).isSome
        let mine := (List.range kt).map (· + r.2.2.2)
        let es := mine.map fun i =>
          if dead || (p.poisonAt s (base r) all i).isSome then none
          else some (de.encode .rne false (p.value s.mem (base r) i))
        let evs := es.filterMap fun e => e.map (·.2)
        ⟨acc.bytes ++ leBytes (packBits de.container (es.map fun e => (e.map (·.1)).getD de.nan)) 64,
          acc.bad || es.any (·.isNone),
          (acc.events.1 + countEv .sat evs, acc.events.2.1 + countEv .flush evs, acc.events.2.2 + countEv .nan evs),
          acc.found ++ p.damagedLines s r.2.1 (base r) mine⟩) ⟨[], false, (0, 0, 0), []⟩)

/-- TLDG: gathered rows, zero where there is no row. -/
def State.loadGather (s : State) (a : DWord) (rows : List (Option Word)) : LoadResult :=
  match localSpot a with
  | none => .error (0x1104, a)
  | some (c, o) =>
    let ps := rows.map fun r => match r with
      | some x => scratchPieces (s.core c) (o + 64 * x.toNat) 64
      | none => []
    let d := (ps.flatMap pieceLines).filter s.damaged
    .ok ⟨ps.flatMap (fun p => if p.isEmpty then leBytes 0 64 else readPieces s.mem p), !d.isEmpty, (0, 0, 0), d⟩

/-- Read a load's source. -/
def State.readLoad (s : State) (c : BasaltCmd) (part : BitVec 3) : LoadResult :=
  match c.cmd with
  | .load t a st => s.loadRows c.asid a st (rowBytes t)
  | .loadW _ a st e => s.loadWide c.asid part a st (loadElem e)
  | .gather _ a rows => s.loadGather a rows
  | _ => .ok ⟨[], false, (0, 0, 0), []⟩

/-- R179: memory as a load that reads its source after its commit reads it: bytes that its wave has stored to since stand as they were. -/
def BasaltCmd.view (c : BasaltCmd) (s : State) : State :=
  { s with mem := c.kept.foldl (fun m x => Memory.write m x.1 [x.2]) s.mem }

/-- The command reads its source, or suspends (R176, R179); lines in which it finds an error are poisoned (R411). -/
def State.fetchLoad (s : State) (c : BasaltCmd) (part : BitVec 3) : State × BasaltCmd :=
  if !c.cmd.isLoad || c.data.isSome || c.susp.isSome then (s, c)
  else match (c.view s).readLoad c part with
    | .error e => (s, { c with susp := some e })
    | .ok x => (s.markPoison x.found, { c with data := some (x.bytes, x.bad), events := x.events })

/-! ## Accumulation (R177, R185, R186) -/

/-- Element `j` of row `i` of an operand tile's bytes. -/
def tileElem (e : Elem) (b : List Byte) (i j : Nat) : Val :=
  let at_ := e.container * j
  e.value (leNat ((b.drop (64 * i + at_ / 8)).take ((e.container + 7) / 8)) / 2 ^ (at_ % 8) % 2 ^ e.width)

/-- R177: one group of 32 products accumulated into C. -/
def macGroup (c : Word) (terms : List Val) : Word :=
  let sum := toF32 .rne false (sumVals .rne terms)
  toF32 .rne false (Val.add .rne (f32 c) (f32 sum))

/-- R177: one k-tile accumulated into the rows of C that `rows` admits. -/
def macTile (ea eb : Elem) (a b : List Byte) (rows : Nat → Bool) (c : List Word) : List Word :=
  (List.range 1024).map fun i =>
    let m := i / 32
    let n := i % 32
    if rows m then
      (List.range (tileElems ea / 32)).foldl (fun x q =>
        macGroup x ((List.range 32).map fun k =>
          Val.mul (tileElem ea a m (32 * q + k)) (tileElem eb b n (32 * q + k)))) (lane c i)
    else lane c i

/-- Words of a tile's bytes. -/
def wordsOf (b : List Byte) : List Word :=
  (List.range (b.length / 4)).map fun i => BitVec.ofNat 32 (recNat b (4 * i) 4)

/-- One unit of a macro-op: its group, k-tile, operand tiles, first row and row count. -/
structure MacUnit where
  g : Nat
  k : Nat
  ta : Tile
  tb : Tile
  row : Nat
  rows : Nat
  deriving DecidableEq, Repr

/-- R186: first rows of the groups. -/
def groupStarts : Nat → List Nat → List Nat
  | _, [] => []
  | n, c :: cs => n :: groupStarts (n + c) cs

/-- R177, R185, R186, R187: the units of a macro-op in order. -/
def TileCmd.units : TileCmd → List MacUnit
  | .mma _ a b p _ => (List.range (paramK p)).map fun k =>
      ⟨0, k, .o (a + BitVec.ofNat 7 k), .o (b + BitVec.ofNat 7 k), 0, 32⟩
  | .grp _ a b p g _ =>
    let counts := g.map (·.getD 0)
    ((counts.zip (groupStarts 0 counts)).zipIdx).flatMap fun x =>
      (List.range (paramK p)).map fun k =>
        ⟨x.2, k, .o (a + BitVec.ofNat 7 k), .o (b + BitVec.ofNat 7 (x.2 * paramK p + k)), x.1.2, x.1.1⟩
  | _ => []

/-- Accumulator, parameter word and NF registers of a macro-op. -/
def TileCmd.macro? : TileCmd → Option (BitVec 4 × Word × Vector Word 8)
  | .mma z _ _ p nf => some (z, p, nf)
  | .grp z _ _ p _ nf => some (z, p, nf)
  | _ => none

/-- Run units of a macro-op (R177); reading a poisoned tile poisons the accumulator (R172). -/
def State.runUnits (s : State) (core : Nat) (z : BitVec 4) (p : Word) (nf : Vector Word 8) (us : List MacUnit) : State :=
  match elemOf nf (p.extractLsb' 0 5), elemOf nf (p.extractLsb' 5 5) with
  | some ea, some eb =>
    let us := us.filter fun u => u.rows != 0
    let c := us.foldl (fun c u =>
      macTile ea eb (s.tileBytes core u.ta) (s.tileBytes core u.tb)
        (fun m => decide (u.row ≤ m) && decide (m < u.row + u.rows)) c) (wordsOf (s.tileBytes core (.z z)))
    let bad := s.tileBad core (.z z) || us.any fun u => s.tileBad core u.ta || s.tileBad core u.tb
    s.putTile core (.z z) (c.flatMap fun x => leBytes x.toNat 4) bad
  | _, _ => s

/-- Units already done, from a command's progress (R188). -/
def BasaltCmd.doneUnits (c : BasaltCmd) : Nat :=
  match c.cmd.macro? with
  | some (_, p, _) => (c.prog.extractLsb' 15 5).toNat * paramK p + (c.prog.extractLsb' 0 7).toNat
  | none => 0

/-- R187: the next point at which the sequencer may stop after unit `n`: a multiple of 8 k-tiles, or between groups. -/
def nextStop (us : List MacUnit) (n : Nat) : Nat :=
  (((List.range us.length).filter fun i => decide (n < i) &&
    (match us[i]? with | some u => u.k % 8 == 0 | none => false)).head?).getD us.length

/-- R188: TPROG's layout. -/
def progWord (z : BitVec 4) (g k : Nat) : Word :=
  BitVec.ofNat 32 (2 ^ 31 + z.toNat * 2 ^ 20 + g * 2 ^ 15 + k)

/-! ## The scoreboard -/

def State.basaltOf (s : State) (w : Nat) : List BasaltCmd := s.basalt.filter fun c => c.wave == w && !c.done

def State.setBasalt (s : State) (c : BasaltCmd) : State :=
  { s with basalt := s.basalt.map fun x => if x.tok == c.tok then c else x }

/-- R173, R187: is the command with Basalt on a core? One of a suspended wave stands in its image. -/
def State.onCore (s : State) (core : Nat) (c : BasaltCmd) : Bool :=
  c.core == core && !c.done && (match s.wave? c.wave with | some w => w.state != .suspended && !w.unread | none => false)

/-- R173: unfinished commands of the core that come before a command and conflict with it. -/
def State.conflictBefore (s : State) (c : BasaltCmd) : Bool :=
  (s.basalt.takeWhile fun x => x.tok != c.tok).any fun x => s.onCore c.core x && x.cmd.conflicts c.cmd

def State.cmdPart (s : State) (c : BasaltCmd) : BitVec 3 := ((s.wave? c.wave).map (·.part)).getD 0

/-- R417: a load's read of a host's memory pushes the posted writes before it. -/
def State.drainFor (s : State) (cmd : TileCmd) : State :=
  if cmd.isLoad && !(s.port0.posted.isEmpty && s.port1.posted.isEmpty) then s.drain else s

/-- R173, R226: the command starts. -/
def State.startBasalt (s : State) (c : BasaltCmd) : State :=
  if c.started || c.stopped || !s.tokensDone c.after || s.conflictBefore c || !s.onCore c.core c then s
  else
    let s := s.drainFor c.cmd
    let (s, c) := s.fetchLoad c (s.cmdPart c)
    if c.susp.isSome then s.setBasalt c else s.setBasalt { c with started := true }

/-- R174: a started command finishes. -/
def State.finishBasalt (s : State) (c : BasaltCmd) : State :=
  if !c.started || c.done then s
  else
    let gone := fun (s : State) => { s with basalt := s.basalt.filter (·.tok != c.tok) }
    match c.cmd, c.data with
    | .zero t, _ => gone (s.putTile c.core t (leBytes 0 (tileSpan t).2) false)
    | .loadW t _ _ _, some (b, bad) => (s.putTile c.core t b bad).setBasalt { c with done := true, data := none }
    | .load t _ _, some (b, bad) => gone (s.putTile c.core t b bad)
    | .gather t _ _, some (b, bad) => gone (s.putTile c.core t b bad)
    | cmd, _ => match cmd.macro? with
      | some (z, p, nf) => gone (s.runUnits c.core z p nf (cmd.units.drop c.doneUnits))
      | none => gone s

/-- R187: a pre-emption stops a macro-op at its next stopping point, or finds it finished. One that has not started
stops before its first unit. -/
def State.stopMacro (s : State) (c : BasaltCmd) : State :=
  match c.cmd.macro? with
  | none => s
  | some (z, p, nf) =>
    let us := c.cmd.units
    let n := if c.started then nextStop us c.doneUnits else c.doneUnits
    if us.length ≤ n then s.finishBasalt c
    else
      let s := s.runUnits c.core z p nf ((us.drop c.doneUnits).take (n - c.doneUnits))
      let u := us[n]?.getD ⟨0, 0, .z z, .z z, 0, 0⟩
      s.setBasalt { c with started := false, stopped := true, prog := progWord z u.g u.k }

/-- TPROG (R188): the earliest stopped macro-op of the wave. -/
def State.tprog (s : State) (w : Nat) : Word :=
  match (s.basaltOf w).find? fun c => c.prog != 0 with
  | some c => c.prog
  | none => 0

/-- R172, R173: a committed command reaches Basalt with its token; a load reads its source at once unless a fence puts
commands before it. -/
def State.sendBasalt (s : State) (w : Wave) (cmd : TileCmd) : State :=
  let (s, tok) := s.freshToken w.core.toNat
  let after := (w.fences.filter fun f => f.2 &&& (if cmd.isLoad then 0b010000 else 0) != 0).flatMap (·.1)
  let c : BasaltCmd := ⟨tok, w.core.toNat, w.id, w.asid, cmd, none, false, false, none, false, after, 0, false, (0, 0, 0), [],
    (s.porterOf w.id).map (·.tok)⟩
  let s := s.drainFor cmd
  let (s, c) := if s.tokensDone after then s.fetchLoad c w.part else (s, c)
  { s with basalt := s.basalt ++ [c] }

/-- R176: report the earliest suspended command of a wave that a leg covers, or restart the one reported before. While the
handler that services the report runs in the other slot, the command stays suspended. -/
def State.reportBasalt (s : State) (w : Wave) (k : SlotId) (leg : Leg) (covers : BasaltCmd → Bool) : State × Option Trap :=
  match (s.basaltOf w.id).find? fun c => c.susp.isSome && covers c with
  | none => (s, none)
  | some c => match c.susp with
    | none => (s, none)
    | some (code, a) =>
      if c.reported && (w.slot k.other).inHandler then (s, none)
      else if c.reported then
        let x := s.fetchLoad { c with susp := none, reported := false, data := none } w.part
        (x.1.setBasalt x.2, none)
      else (s.setBasalt { c with reported := true }, some { code := code, addr := a, mask := leg.e0, tok := some c.tok })

/-- R175: the counts of the finished TLD.w commands that a wait covers, and the state without them. -/
def State.takeCounts (s : State) (w : Nat) (covers : BasaltCmd → Bool) : State × Nat × Nat × Nat :=
  let mine := s.basalt.filter fun c => c.wave == w && c.done && covers c
  ({ s with basalt := s.basalt.filter fun c => !(c.wave == w && c.done && covers c) },
    (mine.map (·.events.1)).sum, (mine.map (·.events.2.1)).sum, (mine.map (·.events.2.2)).sum)

/-- A write of located pieces from an address on as one held store for each piece. -/
def splitStore (asid : BitVec 16) (va : DWord) : List Piece → List Byte → List HeldStore
  | [], _ => []
  | p :: r, b => ⟨[p], b.take p.len, asid, va⟩ :: splitStore asid (va + BitVec.ofNat 64 p.len) r (b.drop p.len)

/-- R182: the held stores of a TST: each row in increasing number, one to a page. -/
def State.tileStores (s : State) (w : Wave) (t : Tile) (a st : DWord) : List HeldStore :=
  let b := s.tileBytes w.core.toNat t
  (List.range 32).flatMap fun i =>
    match s.rowPieces w.asid a st (rowBytes t) i .write with
    | .ok ps => splitStore w.asid (rowAddr a st i) ps ((b.drop (rowBytes t * i)).take (rowBytes t))
    | .error _ => []

/-! ## The checks as the instruction runs (R171, R178, R180 to R186) -/

/-- The address of a tile command (R178). -/
def Ctx.tileBase (c : Ctx) (f : LT) : Except Trap DWord := do
  let b ← c.getA f.areg
  match f.ox with
  | some r => return b + (← c.getS r).sext
  | none => return b + f.off.sext

/-- The stride (R178): SX, or the row size. -/
def Ctx.tileStride (c : Ctx) (f : LT) (dflt : Nat) : Except Trap DWord :=
  match f.sx with
  | .s r => do return (← c.getS r).sext
  | _ => .ok (BitVec.ofNat 64 dflt)

/-- R171: a tile that the wave may not name raises 0x0104. -/
def Ctx.tile (c : Ctx) (b : BitVec 8) : Except Trap Tile :=
  match tileOf b with
  | some t => if c.s.tileOk c.w t then .ok t else .error (c.trapHere 0x0104)
  | none => .error (c.trapHere 0x0101)

def Ctx.tiles (c : Ctx) (ts : List Tile) : Except Trap Unit :=
  if ts.all (c.s.tileOk c.w) then .ok () else .error (c.trapHere 0x0104)

/-- The window rows of R178. -/
def Ctx.tileWindow (c : Ctx) (a : DWord) (need : Option Window) : Except Trap Unit :=
  match c.s.tileAddr c.w a need with
  | some e => .error (c.trap e a)
  | none => .ok ()

/-- R178: base and stride of a TLD or TST, checked. -/
def Ctx.tileRows (c : Ctx) (f : LT) (t : Tile) : Except Trap (DWord × DWord) := do
  let a ← c.tileBase f
  c.tileWindow a none
  let st ← c.tileStride f (rowBytes t)
  if a.toNat % 64 != 0 || st.toNat % 64 != 0 then .error (c.trap 0x0201 a)
  else if (List.range 32).all fun i => c.s.rowInBanks a st (rowBytes t) i then return (a, st)
  else .error (c.trap 0x0104 a)

/-- TLD (R181). The tile is checked before the table of R178, as in TLDG, TLD.w and TST (log entry 92). -/
def Ctx.tldCmd (c : Ctx) (f : LT) : Except Trap TileCmd := do
  let t ← c.tile f.td
  let x ← c.tileRows f t
  return .load t x.1 x.2

/-- TST (R182). -/
def Ctx.tstCmd (c : Ctx) (f : LT) : Except Trap TileCmd := do
  let t ← c.tile f.ta
  let x ← c.tileRows f t
  return .store t x.1 x.2

/-- TLD.w (R183). The default stride needs the page's element width; without a page the probe reports it. -/
def Ctx.tldWCmd (c : Ctx) (f : LT) : Except Trap TileCmd := do
  let t ← c.tile f.td
  let code := f.ta.extractLsb' 0 5
  if !(decide (2 ≤ f.ta.toNat) && decide (f.ta.toNat ≤ 5)) then .error (c.trapHere 0x0104)
  else
    let a ← c.tileBase f
    c.tileWindow a (some .glob)
    let kt := tileElems (loadElem code)
    let w := match (c.s.leaf? c.w.asid a).bind fun l => l.layout (c.s.nft c.w.part) with
      | some p => p.width
      | none => 8
    match (c.s.leaf? c.w.asid a) with
    | some l => if l.p && l.fmt == 0 then .error (c.trap 0x0104 a) else
        let st ← c.tileStride f (kt * w / 8)
        return .loadW t a st code
    | none =>
      let st ← c.tileStride f (kt * w / 8)
      return .loadW t a st code

/-- TLDG (R184). -/
def Ctx.tldgCmd (c : Ctx) (f : LT) : Except Trap TileCmd := do
  let t ← c.tile f.td
  let a ← c.tileBase f
  c.tileWindow a (some .scr)
  let x ← c.lanes f.sx 0
  let rows := (List.range 32).map fun r =>
    if c.leg.e0.getLsbD r && decide (r < c.w.ww) && lane x.vals r != 0xFFFF_FFFF then some (lane x.vals r) else none
  let o := (a.extractLsb' 0 21).toNat
  if rows.all fun r => match r with
      | some v => decide (o + 64 * v.toNat + 64 ≤ scratchBytes (c.s.core c.w.core.toNat))
      | none => true then
    return .gather t a rows
  else .error (c.trap 0x0104 a)

/-- TZERO (R181). -/
def Ctx.tzeroCmd (c : Ctx) (f : LT) : Except Trap TileCmd := do return .zero (← c.tile f.td)

/-- R185: the formats of a macro-op. -/
def Ctx.mmaFormats (c : Ctx) (p : Word) : Except Trap Unit := do
  let ok := fun (n : BitVec 5) => decide (2 ≤ n.toNat) && decide (n.toNat ≤ 10) || decide (24 ≤ n.toNat)
  if !ok (p.extractLsb' 0 5) || !ok (p.extractLsb' 5 5) then .error (c.trapHere 0x0104)
  else
    let ea ← c.elem (p.extractLsb' 0 5)
    let eb ← c.elem (p.extractLsb' 5 5)
    if ea.container != eb.container then .error (c.trapHere 0x0104) else return ()

/-- TMMA (R185). -/
def Ctx.tmmaCmd (c : Ctx) (f : LT) : Except Trap TileCmd := do
  c.mmaFormats f.off
  let cmd := TileCmd.mma (f.td.extractLsb' 0 4) (f.ta.extractLsb' 0 7) (f.tb.extractLsb' 0 7) f.off c.leg.snap.nf
  c.tiles cmd.names
  return cmd

/-- TGRP (R186). The checks of R185 come before that of the sum (log entry 92). -/
def Ctx.tgrpCmd (c : Ctx) (f : LT) : Except Trap TileCmd := do
  c.mmaFormats f.off
  let x ← c.lanes f.sx 0
  let g := pfield f.off 23 20 + 1
  let counts := (List.range g).map fun i =>
    if c.leg.e0.getLsbD i && decide (i < c.w.ww) then (lane x.vals i).toNat else 0
  let cmd := TileCmd.grp (f.td.extractLsb' 0 4) (f.ta.extractLsb' 0 7) (f.tb.extractLsb' 0 7) f.off
    (counts.map some) c.leg.snap.nf
  c.tiles cmd.names
  if 32 < counts.sum then .error (c.trapHere 0x5001) else return cmd

end Sys2Proof.Machine
end

