-- ==== Sys2Proof/Machine/Mapping.lean ====
section
/-! DEFINITION. Changing page tables: the tables a set of leaves needs (spec/19_isolation.md R374), reserved leaves, the
device-local pool, and MAPFT and MAPCW (spec/20_recovery.md R401 to R403). -/

namespace Sys2Proof.Machine

/-- R374: page tables that a list of leaves needs: a root for each ASID and the tables on the way to each leaf. -/
def tablesFor (ls : List Leaf) : Nat :=
  (ls.map fun l => l.asid).eraseDups.length
    + (ls.map fun l => (l.asid, l.va.toNat / 2 ^ 39)).eraseDups.length
    + ((ls.filter (·.size ≤ 1)).map fun l => (l.asid, l.va.toNat / 2 ^ 30)).eraseDups.length
    + ((ls.filter (·.size = 0)).map fun l => (l.asid, l.va.toNat / 2 ^ 21)).eraseDups.length

/-- Put a leaf in place of the one it maps over. -/
def State.setLeaf (s : State) (l : Leaf) : State :=
  { s with leaves := l :: s.leaves.filter fun x => !(x.asid == l.asid && x.size == l.size && x.va == l.va) }

/-- R402, R385: the reserved leaf at an address: a level-3 leaf with P clear, or an unmapped page of a world's column
region. -/
def State.reservedLeaf (s : State) (asid : BitVec 16) (va : DWord) : Option Leaf :=
  match s.leaf? asid va with
  | some l => if l.size = 0 && !l.p then some l else none
  | none =>
    if s.worlds.any fun w => w.asid == asid && decide (w.cbase.toNat ≤ va.toNat)
        && decide (va.toNat < w.cbase.toNat + w.csize.toNat) then
      some ⟨asid, 0, va &&& ~~~0xFFFF, false, true, false, false, false, 0, 0, 0, false, 0, 0⟩
    else none

/-- Does a present leaf map a byte of the granule at `pa` of a location? -/
def Leaf.mapsGranule (l : Leaf) (loc : BitVec 2) (dev : BitVec 4) (pa : Nat) : Bool :=
  l.p && l.loc == loc && l.dev == dev && decide (l.pa.toNat ≤ pa) && decide (pa < l.pa.toNat + pageBytes l.size)

/-- The first granule of `[pa, hi)` that no present leaf maps: each step passes one leaf. -/
def freeGranule (ls : List Leaf) (loc : BitVec 2) (dev : BitVec 4) (hi : Nat) : Nat → Nat → Option Nat
  | 0, _ => none
  | n + 1, pa =>
    if hi ≤ pa then none
    else match ls.find? fun l => l.mapsGranule loc dev pa with
      | none => some pa
      | some l => freeGranule ls loc dev hi n (l.pa.toNat + pageBytes l.size)

/-- R401: a free pool granule of a partition, the lowest of its first range that has one (log entry 20). -/
def State.poolGranule (s : State) (p : BitVec 3) : Option (BitVec 2 × BitVec 4 × Nat) :=
  match s.part? p with
  | none => none
  | some r => r.ranges.findSome? fun m =>
      if m.pool then
        (freeGranule s.leaves m.loc m.dev (m.base + m.size) (s.leaves.length + 1) m.base).map fun pa => (m.loc, m.dev, pa)
      else none

/-- R402: MAPFT on the page that holds an address: the code for sD. -/
def State.mapFirstTouch (s : State) (asid : BitVec 16) (part : BitVec 3) (va : DWord) : State × Nat :=
  match (s.leaf? asid va).filter (·.p) with
  | some _ => (s, 1)
  | none => match s.reservedLeaf asid va with
    | none => (s, 3)
    | some l => match s.poolGranule part with
      | none => (s, 2)
      | some (loc, dev, pa) =>
        let l' := { l with p := true, loc := loc, dev := dev, pa := BitVec.ofNat 64 pa }
        let s' := s.setLeaf l'
        if s.reserve < tablesFor s'.leaves then (s, 2)
        else ((s'.wipe (physKey loc dev pa) 65536).shootDown asid l.va.toNat 65536, 0)

/-- R403: is the granule of a leaf mapped anywhere else? -/
def State.sharedGranule (s : State) (l : Leaf) : Bool :=
  s.leaves.any fun x => !(x.asid == l.asid && x.size == l.size && x.va == l.va) && x.mapsGranule l.loc l.dev l.pa.toNat

/-- R403: MAPCW on the page that holds an address: the code for sD. -/
def State.mapCopyOnWrite (s : State) (asid : BitVec 16) (part : BitVec 3) (va : DWord) : State × Nat :=
  match (s.leaf? asid va).filter (·.p) with
  | none => (s, 3)
  | some l =>
    if l.w then (s, 1)
    else if l.size != 0 || !l.cw then (s, 3)
    else if !s.sharedGranule l then
      ((s.setLeaf { l with w := true, cw := false }).shootDown asid l.va.toNat 65536, 4)
    else match s.poolGranule part with
      | none => (s, 2)
      | some (loc, dev, pa) =>
        let src := physKey l.loc l.dev l.pa.toNat
        let ls := linesOf src 65536
        match s.deadFault [⟨src, 65536, some l⟩], s.lineFault ls with
        | none, none =>
          let s' := s.wipe (physKey loc dev pa) 65536
          let moved := (s'.mem.filter fun c => decide (src ≤ c.1) && decide (c.1 < src + 65536)).map
            fun c => (c.1 - src + physKey loc dev pa, c.2)
          let m := moved.foldl (fun m c => Memory.set m c.1 c.2) s'.mem
          let s1 : State := { s' with mem := m }
          let l' : Leaf := { l with w := true, cw := false, loc := loc, dev := dev, pa := BitVec.ofNat 64 pa }
          ((s1.setLeaf l').shootDown asid l.va.toNat 65536, 0)
        | some e, _ => ((s.markPoison e.2).wipe (physKey loc dev pa) 65536, 5)
        | none, some e => ((s.markPoison e.2).wipe (physKey loc dev pa) 65536, 5)

end Sys2Proof.Machine
end

