-- ==== Sys2Proof/Machine/Quarry.lean ====
section
/-! DEFINITION. The Quarry (spec/13_quarry.md R263 to R280, R439; spec/14_quarry_instr.md R281 to R298): handles, column
access, queue operations, commit groups, views and the application of a cairn. -/

namespace Sys2Proof.Machine

/-! ## Handles and worlds -/

/-- R264: the parts of a handle. -/
def hWorld (h : DWord) : BitVec 8 := h.extractLsb' 56 8
def hGen (h : DWord) : BitVec 24 := h.extractLsb' 32 24

/-- R264: a handle. -/
def mkHandle (world : BitVec 8) (gen : BitVec 24) (slot : Word) : DWord := (world ++ gen) ++ slot

/-- R284: a world of a partition. -/
def State.worldOf (s : State) (part : BitVec 3) (id : BitVec 8) : Option World := (s.world? id).filter (·.part == part)

/-- R284: a world number in a register. -/
def State.worldNum (s : State) (part : BitVec 3) (n : Word) : Option World :=
  if n >>> 8 == 0 then s.worldOf part (n.extractLsb' 0 8) else none

def World.stratum? (w : World) (t : Nat) : Option Stratum := w.strata.find? (·.num == t)
def World.ent? (w : World) (slot : Word) : Option Ent := w.ents.find? (·.slot == slot)

def World.setEnt (w : World) (e : Ent) : World :=
  { w with ents := w.ents.map fun x => if x.slot == e.slot then e else x }

def World.setStratum (w : World) (t : Stratum) : World :=
  { w with strata := w.strata.map fun x => if x.num == t.num then t else x }

/-- R264, R265: stratum and row of a live handle. -/
def State.resolveHandle (s : State) (part : BitVec 3) (launch : Nat) (h : DWord) : Option (World × Nat × Nat) :=
  match s.worldOf part (hWorld h) with
  | none => none
  | some w => match w.ent? h.lo with
    | none => none
    | some e =>
      if e.gen != hGen h then none
      else match e.st with
        | .live t r => some (w, t, r)
        | .pending l t r => if l == launch then some (w, t, r) else none
        | _ => none

/-- R277: is a cairn of the world being applied? -/
def State.applying (s : State) (id : BitVec 8) : Bool :=
  match s.world? id with
  | some w => w.cairns.any (·.applying)
  | none => false

/-- R277: does a resolution in a world by a wave wait? The world is of the wave's partition and a cairn of it is being
applied. -/
def State.partBusy (s : State) (w : Wave) (id : BitVec 8) : Bool := (s.worldOf w.part id).isSome && s.applying id

/-- The first world among the handles of lanes whose cairn is being applied. -/
def State.busyHandle (s : State) (w : Wave) (lanes : List (Nat × DWord)) : Option (BitVec 8) :=
  (lanes.map fun x => hWorld x.2).find? fun id => s.partBusy w id

/-- R271: the wave's launch as a system: its record and query. -/
def State.systemOf (s : State) (w : Wave) : Option (LaunchRec × LaunchQuery) :=
  match s.launch? w.launch with
  | none => none
  | some l => match l.query with
    | some q => if q.view.isNone then some (l.lr, q) else none
    | none => none

/-- R280: is the wave's launch marked strict? -/
def State.strictWave (s : State) (w : Wave) : Bool :=
  match s.recOf w with
  | some r => r.strict
  | none => false

/-! ## Rows (R285, R286) -/

/-- What one lane of a column instruction reaches: a row of a stratum of a world, or nothing; `bad` is a stale handle
that a strict launch faults on. -/
structure RowRef where
  at_ : Option (World × Nat × Nat)
  bad : Bool

/-- R285: the row of a row form. -/
def Ctx.rowRef (c : Ctx) (x : RowCtx) (r : Word) : RowRef :=
  match c.s.world? x.world with
  | none => ⟨none, false⟩
  | some w => match w.stratum? x.strat with
    | none => ⟨none, false⟩
    | some t =>
      let row := (x.first + r).toNat
      let limit := x.limit.getD (t.rows.length + t.pend)
      ⟨if row < limit then some (w, x.strat, row) else none, false⟩

/-- R286: the row of a handle form. -/
def Ctx.handleRef (c : Ctx) (h : DWord) : RowRef :=
  let r := c.s.resolveHandle c.w.part c.w.launch h
  ⟨r, r.isNone && h != 0 && c.s.strictWave c.w⟩

/-- R285: a row form's rows; only waves of a query or a view may use one. -/
def Ctx.rowRefs (c : Ctx) (x : Sel) (imm : Word) : Except Trap (List RowRef × Mask) :=
  match c.w.rows with
  | none => .error (c.trapHere 0x0104)
  | some rc => do
    let v ← c.lanes x imm
    return (v.vals.map (c.rowRef rc), v.bnd)

/-- A handle form's rows. -/
def Ctx.handleRefs (c : Ctx) (x : Sel) : Except Trap (List RowRef × Mask) := do
  let h ← c.lanes64 x 0 false
  return (h.vals.map c.handleRef, h.bnd)

/-- Lane `l` of a list of references. -/
def refAt (rs : List RowRef) (l : Nat) : RowRef := rs.getD l ⟨none, false⟩

/-- R280: the lanes a strict launch faults on. -/
def Ctx.strictLanes (c : Ctx) (rs : List RowRef) : Mask := maskOf (c.active.filter fun l => (refAt rs l).bad)

/-- R280: 0x4001 for the stale lanes of a strict launch. -/
def Ctx.strictCheck (c : Ctx) (rs : List RowRef) : Except Trap Unit :=
  if c.strictLanes rs = 0 then .ok () else .error { c.trapHere 0x4001 with mask := c.strictLanes rs }

/-- R282: write the stale mask, unless MK is 0. -/
def Ctx.setStale (c : Ctx) (mb : MBase) (m : Mask) : Ctx := if mb == 0 then c else c.setM mb m

/-- The element size a world declares for a type. -/
def World.size (w : World) (ct : BitVec 8) : Nat := w.esz.getD ct.toNat 0

/-- R287: the element word against the declared size. -/
def ewBad (esz ew : Nat) : Bool := esz != 0 && ((ew != 0 && decide (esz < 8)) || decide (esz < 4 * ew + 4 && 4 ≤ esz))

/-- R287: the checks that need no row: EW, and a system's type sets. -/
def Ctx.columnCheck (c : Ctx) (ct : BitVec 8) (ew : Nat) (store : Bool) (worlds : List World) : Except Trap Unit :=
  if worlds.any fun w => ewBad (w.size ct) ew then .error (c.trapHere 0x0104)
  else match c.s.systemOf c.w with
    | none => .ok ()
    | some (r, _) =>
      if r.wset.getLsbD ct.toNat || (!store && r.rset.getLsbD ct.toNat) then .ok () else .error (c.trapHere 0x0104)

/-- R286: address and element size of a lane's element word; none for a stale lane or one without the column. -/
def columnAt (r : RowRef) (ct : BitVec 8) (ew : Nat) : Option (DWord × Nat) :=
  match r.at_ with
  | none => none
  | some (w, t, row) => match (w.stratum? t).bind fun x => x.comps.find? (·.1 == ct.toNat) with
    | none => none
    | some (_, base) => some (base + BitVec.ofNat 64 (w.size ct * row + 4 * ew), w.size ct)

/-- R287: the lanes whose element is reached, with address, size and located bytes. -/
def Ctx.columnPlaces (c : Ctx) (rs : List RowRef) (ct : BitVec 8) (ew : Nat) (u : Use) (reading : Bool) :
    Except Trap (List (Nat × DWord × Piece)) := do
  let xs := c.active.filterMap fun l => (columnAt (refAt rs l) ct ew).map fun x => (l, x)
  let ps ← joinLanes (xs.map fun x =>
    (x.1, x.2.1, (match c.s.translate c.w.asid x.2.1 (min 4 x.2.2) u with
      | .error e => .error (6, e, [])
      | .ok p => match (if reading then c.s.readFault [p]
          else if p.host?.isSome then none else c.s.deadFault [p]) with
        | some e => .error (7, e.1, e.2)
        | none => .ok (x.2.1, p) : LaneCheck (DWord × Piece))))
  return ps

/-- The worlds that a column instruction's references name (R287). -/
def Ctx.rowWorlds (c : Ctx) : List World :=
  match c.w.rows with
  | some rc => (c.s.world? rc.world).toList
  | none => []

def Ctx.handleWorlds (c : Ctx) (hs : List DWord) : List World :=
  c.active.filterMap fun l => c.s.worldOf c.w.part (hWorld (hs.getD l 0))

/-- The lanes without a row or a column. -/
def Ctx.missLanes (c : Ctx) (rs : List RowRef) (ct : BitVec 8) (ew : Nat) : Mask :=
  maskOf (c.active.filter fun l => (columnAt (refAt rs l) ct ew).isNone)

/-- QLDC, QLDC.h (R286, R287). -/
def Ctx.columnLoad (c : Ctx) (f : LQ) (rs : List RowRef) (worlds : List World) : Except Trap Ctx := do
  c.columnCheck f.ct f.ew.toNat false worlds
  c.strictCheck rs
  let ps ← c.columnPlaces rs f.ct f.ew.toNat .read true
  let c ← c.reserveUnknown f.dst 1
  let vals := (List.range c.w.ww).map fun l =>
    match ps.find? (·.1 == l) with
    | some p => BitVec.ofNat 32 (leNat (readPieces c.s.mem [p.2.2]))
    | none => 0
  let c := c.await false (ps.map fun p => (p.1, p.2.1)) (ps.map fun p => (p.1, ⟨.glob, 0, 0, [p.2.2]⟩))
  return (c.fillLanes f.dst vals).setStale f.mb (c.missLanes rs f.ct f.ew.toNat)

/-- QSTC, QSTC.h (R286, R287). -/
def Ctx.columnStore (c : Ctx) (f : LQ) (rs : List RowRef) (worlds : List World) : Except Trap Ctx := do
  let v ← c.lanes f.sb f.imm
  c.columnCheck f.ct f.ew.toNat true worlds
  c.strictCheck rs
  let ps ← c.columnPlaces rs f.ct f.ew.toNat .write false
  let c := (ps.foldl (fun c p => c.hold [p.2.2] (leBytes (lane v.vals p.1).toNat p.2.2.len) p.2.1) c).awaitOwner none
    (ps.map fun p => (p.1, p.2.1, [p.2.2]))
  return c.setStale f.mb (c.missLanes rs f.ct f.ew.toNat)

/-- QLDC by row. -/
def Ctx.qldc (c : Ctx) (f : LQ) : Except Trap Ctx := do
  let r ← c.rowRefs f.sa f.imm
  c.columnLoad f r.1 c.rowWorlds

/-- QLDC by handle. -/
def Ctx.qldcH (c : Ctx) (f : LQ) : Except Trap Ctx := do
  let h ← c.lanes64 f.sa 0 false
  c.columnLoad f (h.vals.map c.handleRef) (c.handleWorlds h.vals)

/-- QSTC by row. -/
def Ctx.qstc (c : Ctx) (f : LQ) : Except Trap Ctx := do
  let r ← c.rowRefs f.sa f.imm
  c.columnStore f r.1 c.rowWorlds

/-- QSTC by handle. -/
def Ctx.qstcH (c : Ctx) (f : LQ) : Except Trap Ctx := do
  let h ← c.lanes64 f.sa 0 false
  c.columnStore f (h.vals.map c.handleRef) (c.handleWorlds h.vals)

/-- QRES (R288). -/
def Ctx.qres (c : Ctx) (f : LQ) : Except Trap Ctx := do
  let r ← c.handleRefs f.sa
  c.strictCheck r.1
  let vals := r.1.map fun x => match x.at_ with
    | some (_, t, row) => DWord.mk (BitVec.ofNat 32 t) (BitVec.ofNat 32 row)
    | none => 0xFFFF_FFFF_FFFF_FFFF
  let c ← c.reserveUnknown f.dst 2
  let c := (c.fillLanes f.dst (vals.map DWord.lo)).fillLanes (selNext f.dst) (vals.map DWord.hi)
  return c.setStale f.mb (maskOf (c.active.filter fun l => (refAt r.1 l).at_.isNone))

/-- R288: the handle of the entity at a row, or of the wave's launch's pending entity there. -/
def Ctx.handleOf (c : Ctx) (x : RowRef) : Option DWord :=
  match x.at_ with
  | none => none
  | some (w, t, row) =>
    match (w.stratum? t).bind fun st => st.rows[row]?.bind id with
    | some slot => (w.ent? slot).map fun e => mkHandle w.id e.gen slot
    | none => (w.ents.find? fun e => e.st == .pending c.w.launch t row).map fun e => mkHandle w.id e.gen e.slot

/-- QLDH (R288). -/
def Ctx.qldh (c : Ctx) (f : LQ) : Except Trap Ctx := do
  let r ← c.rowRefs f.sa f.imm
  let hs := r.1.map c.handleOf
  let c ← c.reserveUnknown f.dst 2
  let vals := hs.map (·.getD 0)
  let c := (c.fillLanes f.dst (vals.map DWord.lo)).fillLanes (selNext f.dst) (vals.map DWord.hi)
  return c.setStale f.mb (maskOf (c.active.filter fun l => ((hs.getD l none).isNone)))

/-- State of a slot as QGEN gives it (R288). -/
def EntState.code : EntState → Nat
  | .free => 0
  | .pending _ _ _ => 1
  | .live _ _ => 2
  | .retired => 3

/-- QGEN (R288). A slot above the high-water mark has generation 1 and is free (R265). -/
def Ctx.qgen (c : Ctx) (f : LQ) : Except Trap Ctx := do
  let h ← c.lanes64 f.sa 0 false
  let vals := h.vals.map fun x => match c.s.worldOf c.w.part (hWorld x) with
    | none => (0xFFFF_FFFF : Word)
    | some w => match w.ent? x.lo with
      | some e => BitVec.ofNat 32 (e.st.code * 2 ^ 24 + e.gen.toNat)
      | none => 1
  let c ← c.reserveUnknown f.dst 1
  return c.fillLanes f.dst vals

/-! ## Queue operations (R273, R274, R289 to R293) -/

/-- Queue one operation: into the open group of the path's bracket, or as a group of its own (R274, R289). -/
def World.enqueue (w : World) (wave ordinal : Nat) (sub : Option Nat) (brk : Option Bracket) (op : QOp) : World :=
  match brk with
  | none =>
    { w with groups := w.groups ++ [⟨sub, wave, ordinal, none, some w.seq, false, false, [op]⟩], seq := w.seq + 1,
             ops := w.ops + 1 }
  | some b =>
    { w with ops := w.ops + 1, groups := w.groups.map fun g =>
        if g.wave == wave && g.bracket == some b.seq && g.closed.isNone then { g with ops := g.ops ++ [op] } else g }

/-- R274: the submission index of a wave's groups in a world. -/
def State.groupSub (s : State) (w : Wave) (world : BitVec 8) : Option Nat :=
  match s.systemOf w with
  | some (_, q) => if q.world == world then some q.sub else none
  | none => none

/-- R266: reserve a slot. -/
def World.reserveSlot (w : World) : Option (World × Word × BitVec 24) :=
  match w.free with
  | s :: r => some ({ w with free := r }, s, ((w.ent? s).map (·.gen)).getD 1)
  | [] =>
    if w.mark < 4294967296 then
      let s := BitVec.ofNat 32 w.mark
      some ({ w with mark := w.mark + 1, ents := w.ents ++ [⟨s, 1, .free⟩] }, s, 1)
    else none

/-- R290: one lane's creation: its pending handle, or the null handle. -/
def State.createOne (s : State) (w : Wave) (brk : Option Bracket) (world : BitVec 8) (t : Nat) : State × DWord :=
  match s.world? world with
  | none => (s, 0)
  | some x => match x.reserveSlot with
    | none => (s, 0)
    | some (x, slot, gen) => match x.stratum? t with
      | none => (s, 0)
      | some st =>
        let h := mkHandle world gen slot
        let x := (x.setEnt ⟨slot, gen, .pending w.launch t (st.rows.length + st.pend)⟩).setStratum
          { st with pend := st.pend + 1 }
        (s.setWorld (x.enqueue w.id w.wid.toNat (s.groupSub w world) brk ⟨.new t, h, w.launch⟩), h)

/-- R290: QNEW at commit, lane after lane. -/
def State.createLanes (s : State) (w : Wave) (brk : Option Bracket) (world : BitVec 8) :
    List (Nat × Word) → State × List (Nat × DWord)
  | [] => (s, [])
  | (l, t) :: r =>
    let x := s.createOne w brk world t.toNat
    let y := x.1.createLanes w brk world r
    (y.1, (l, x.2) :: y.2)

/-- R291: QDEL, QADD and QREM at commit: the live lanes queue. -/
def State.queueLanes (s : State) (w : Wave) (brk : Option Bracket) (k : QKind) (lanes : List (Nat × DWord)) : State :=
  lanes.foldl (fun s x =>
    match s.resolveHandle w.part w.launch x.2 with
    | none => s
    | some (wd, _, _) =>
      match s.world? wd.id with
      | none => s
      | some wd => s.setWorld (wd.enqueue w.id w.wid.toNat (s.groupSub w wd.id) brk ⟨k, x.2, w.launch⟩)) s

/-- R291: the stale lanes. -/
def State.staleLanes (s : State) (w : Wave) (lanes : List (Nat × DWord)) : Mask :=
  maskOf ((lanes.filter fun x => (s.resolveHandle w.part w.launch x.2).isNone).map (·.1))

/-- What QNEW finds at its marker (R284, R273, R277, R290, R292). -/
def State.qnewReady (s : State) (w : Wave) (brk : Option Bracket) (leg : Leg) (world : BitVec 8) (lanes : List (Nat × Word)) :
    Ready :=
  match s.worldOf w.part world with
  | none => .trap (leg.trapClosing 0x0104)
  | some x =>
    if (match brk with | some b => b.world != world | none => false) then .trap (leg.trapClosing 0x0104)
    else if s.applying world then .wait
    else if lanes.any (fun l => (x.stratum? l.2.toNat).isNone) then .trap (leg.trapClosing 0x0104)
    else if 1048576 < x.ops + ((s.createLanes w brk world lanes).2.filter (·.2 != 0)).length then .trap (leg.trapClosing 0x4002)
    else .go

/-- What QDEL, QADD or QREM finds at its marker (R273, R277, R280, R291, R292). -/
def State.qopReady (s : State) (w : Wave) (brk : Option Bracket) (leg : Leg) (lanes : List (Nat × DWord)) : Ready :=
  if (match brk with | some b => lanes.any (fun x => hWorld x.2 != b.world) | none => false) then
    .trap (leg.trapClosing 0x0104)
  else if (s.busyHandle w lanes).isSome then .wait
  else
    let stale := (lanes.filter fun x => x.2 != 0 && (s.resolveHandle w.part w.launch x.2).isNone).map (·.1)
    if s.strictWave w && !stale.isEmpty then .trap { leg.trapClosing 0x4001 with mask := maskOf stale }
    else
      let live := lanes.filter fun x => (s.resolveHandle w.part w.launch x.2).isSome
      if s.worlds.any fun y => decide (1048576 < y.ops + (live.filter fun x => hWorld x.2 == y.id).length) then
        .trap (leg.trapClosing 0x4002)
      else .go

/-! ## Brackets (R292, R293) -/

/-- R292: the next bracket number of a wave: 1 to 2^24 - 1. -/
def nextBrk (n : BitVec 24) : BitVec 24 := if n == 0xFFFFFF then 1 else n + 1

/-- R292: open a bracket: its group is listed from here on. -/
def State.openGroup (s : State) (w : Wave) (world : BitVec 8) (seq : BitVec 24) : State :=
  match s.world? world with
  | none => s
  | some x => s.setWorld { x with groups := x.groups ++
      [⟨s.groupSub w world, w.id, w.wid.toNat, some seq, none, false, false, []⟩] }

/-- R293: does another path of the wave hold the bracket? -/
def Wave.brackets (w : Wave) : List Bracket :=
  ((match w.s0.path with | some p => p.brk.toList | none => []) ++ (match w.s1.path with | some p => p.brk.toList | none => []))
    ++ w.stack.flatMap fun e => e.path.brk.toList

/-- R293, R274: the last hold of a bracket is released: its group is closed at the hub die. -/
def State.closeGroup (s : State) (wave : Nat) (b : Bracket) : State :=
  match s.world? b.world with
  | none => s
  | some x => s.setWorld { x with seq := x.seq + 1, groups := x.groups.map fun g =>
      if g.wave == wave && g.bracket == some b.seq && g.closed.isNone then { g with closed := some x.seq } else g }

/-- R293: a hold still open at EXIT makes the group abort. -/
def State.abortGroup (s : State) (wave : Nat) (b : Bracket) : State :=
  match s.world? b.world with
  | none => s
  | some x => s.setWorld { x with groups := x.groups.map fun g =>
      if g.wave == wave && g.bracket == some b.seq && g.closed.isNone then { g with aborted := true } else g }

/-! ## Views (R278, R294, R295) -/

/-- R294: take a view of a world: its number, or 0xFFFF_FFFF. -/
def State.takeView (s : State) (world : BitVec 8) (req exc : BitVec 256) : State × Word :=
  match s.world? world with
  | none => (s, 0xFFFF_FFFF)
  | some x =>
    match (List.range 64).find? fun k => x.views.all fun v => v.idx != k with
    | none => (s, 0xFFFF_FFFF)
    | some k =>
      (s.setWorld { x with views := x.views ++ [⟨k, x.matching req exc⟩] }, BitVec.ofNat 32 (world.toNat * 64 + k))

/-- R295: the view a number names, in a world of the partition. -/
def State.viewOf (s : State) (part : BitVec 3) (v : Word) : Option (World × View) :=
  if v >>> 14 != 0 then none
  else match s.worldOf part (v.extractLsb' 6 8) with
    | none => none
    | some w => (w.views.find? (·.idx == (v.extractLsb' 0 6).toNat)).map fun x => (w, x)

/-- R295: drop a view; launches that run over it are marked. -/
def State.dropView (s : State) (part : BitVec 3) (v : Word) : State :=
  match s.viewOf part v with
  | none => s
  | some (w, x) =>
    let s1 := s.setWorld { w with views := w.views.filter (·.idx != x.idx) }
    { s1 with launches := s1.launches.map fun l => match l.query with
        | some q => if q.view == some x.idx && q.world == w.id && l.state == .accepted then
            { l with query := some { q with dropped := true } } else l
        | none => l }

/-! ## Applying a cairn (R275, R276, R439) -/

/-- An entity a cairn works on: its slot, its row before the cairn (none once removed, or a pending one), the bytes of
its components, when it arrives, and whether it has been deleted. -/
structure CWork where
  slot : Word
  row : Option (Nat × Nat)
  data : List (Nat × List Byte)
  arr : Option Nat
  dead : Bool
  pend : Bool
  /-- components that QADD gave anew: their bytes are written even where the row stands (R275) -/
  fresh : List Nat
  deriving DecidableEq, Repr

/-- A cairn's groups under application. -/
structure CState where
  strata : List Stratum
  used : Nat
  works : List CWork
  removed : List (Nat × Nat)
  released : List Word
  seq : Nat
  deriving DecidableEq, Repr

/-- The bytes of a column element; a page that is not present reads zero (R276). -/
def State.columnBytes (s : State) (asid : BitVec 16) (va : DWord) (n : Nat) : List Byte :=
  match (s.leaf? asid va).filter (·.p) with
  | some l => Memory.read s.mem (l.key va) n
  | none => leBytes 0 n

/-- The bytes of an element of a stratum's row. -/
def State.cellBytes (s : State) (w : World) (ct : Nat) (base : DWord) (row : Nat) : List Byte :=
  let n := w.esz.getD ct 0
  s.columnBytes w.asid (base + BitVec.ofNat 64 (n * row)) n

/-- The components of a row with their bytes. -/
def State.rowData (s : State) (w : World) (t row : Nat) : List (Nat × List Byte) :=
  match w.stratum? t with
  | none => []
  | some st => st.comps.map fun c => (c.1, s.cellBytes w c.1 c.2 row)

/-- The record of a slot that a handle names at this point of the application; none when the handle is stale (R275). -/
def State.cwork (s : State) (w : World) (a : CState) (launch : Nat) (h : DWord) : Option CWork :=
  match w.ent? h.lo with
  | none => none
  | some e =>
    if e.gen != hGen h || hWorld h != w.id then none
    else match a.works.find? (·.slot == h.lo) with
      | some k => if k.dead then none else some k
      | none => match e.st with
        | .live t r => some ⟨h.lo, some (t, r), s.rowData w t r, none, false, false, []⟩
        | .pending l t r => if l == launch then some ⟨h.lo, none, s.rowData w t r, none, false, true, []⟩ else none
        | _ => none

def CState.put (a : CState) (k : CWork) : CState :=
  { a with works := a.works.filter (fun x => x.slot != k.slot) ++ [k] }

/-- R276: the row an entity held before the cairn is removed. -/
def CState.leave (a : CState) (k : CWork) : CState × CWork :=
  match k.row with
  | some r => ({ a with removed := a.removed ++ [r] }, { k with row := none })
  | none => (a, k)

def dataTypes (d : List (Nat × List Byte)) : List Nat := d.map (·.1)

/-- R267, R275, R385: the stratum of a component set, created when it is new; none when a limit is reached. -/
def CState.stratumOf (a : CState) (w : World) (ts : List Nat) : Option (CState × Nat) :=
  match a.strata.find? fun t => t.comps.map (·.1) == ts with
  | some t => some (a, t.num)
  | none =>
    let need := (ts.map fun ct => 4294967296 * w.esz.getD ct 0).sum
    if 4096 ≤ a.strata.length || ts.any (fun ct => w.esz.getD ct 0 == 0) || w.csize.toNat < a.used + need then none
    else
      let comps := (ts.foldl (fun (x : List (Nat × DWord) × Nat) ct =>
        (x.1 ++ [(ct, w.cbase + BitVec.ofNat 64 x.2)], x.2 + 4294967296 * w.esz.getD ct 0)) ([], a.used)).1
      let num := ((List.range 4096).find? fun n => a.strata.all fun t => t.num != n).getD 0
      some ({ a with strata := a.strata ++ [⟨num, comps, [], 0⟩], used := a.used + need }, num)

/-- R278: is the stratum held by a view? -/
def World.holds (w : World) (t : Nat) : Bool := w.views.any fun v => v.pins.any (·.1 == t)

/-- R275: would one more arrival pass 2^32 - 1 rows? A stratum that no view holds loses its removed rows and its tombstones
(R276). -/
def CState.full (a : CState) (w : World) (t : Nat) (ts : List Nat) : Bool :=
  let rows := ((a.strata.find? (·.num == t)).map (·.rows)).getD []
  let kept := if w.holds t then rows.length
    else (rows.zipIdx.filter fun r => r.1.isSome && !a.removed.contains (t, r.2)).length
  decide (4294967295 < kept + (a.works.filter fun k => k.arr.isSome && !k.dead && dataTypes k.data == ts).length + 1)

/-- Insert a component in increasing type order. -/
def insertComp (d : List (Nat × List Byte)) (ct : Nat) (b : List Byte) : List (Nat × List Byte) :=
  (d.takeWhile fun x => x.1 < ct) ++ (ct, b) :: d.dropWhile fun x => x.1 < ct

/-- R275: one operation; an error is a stale handle, or a limit (none). -/
def State.applyOp (s : State) (w : World) (a : CState) (op : QOp) : Except (Option DWord) CState :=
  match s.cwork w a op.launch op.handle with
  | none => .error (some op.handle)
  | some k =>
    let a := { a with seq := a.seq + 1 }
    let move := fun (d : List (Nat × List Byte)) (fresh : List Nat) =>
      match a.stratumOf w (dataTypes d) with
      | none => .error none
      | some (a, t) =>
        if a.full w t (dataTypes d) then .error none
        else
          let (a, k) := a.leave k
          .ok (a.put { k with data := d, fresh := fresh, arr := if k.pend && k.arr.isNone then none else some a.seq })
    match op.kind with
    | .new t => if a.full w t (dataTypes k.data) then .error none else .ok (a.put { k with arr := some a.seq })
    | .del =>
      let (a, k) := a.leave k
      .ok { a.put { k with dead := true } with released := a.released ++ [k.slot] }
    | .add ct =>
      if (dataTypes k.data).contains ct then .ok (a.put k)
      else move (insertComp k.data ct (leBytes 0 (w.esz.getD ct 0))) (ct :: k.fresh)
    | .rem ct =>
      if !(dataTypes k.data).contains ct then .ok (a.put k)
      else move (k.data.filter fun x => x.1 != ct) (k.fresh.filter (· != ct))

/-- R275: the creations of an aborted group release their slots. -/
def State.releaseNews (s : State) (w : World) (a : CState) (g : Group) : CState :=
  g.ops.foldl (fun a op =>
    match op.kind with
    | .new _ => match s.cwork w a op.launch op.handle with
      | some k => { a.put { k with dead := true } with released := a.released ++ [k.slot] }
      | none => a
    | _ => a) a

/-- R275, R439: one group: the state after it, whether it was dropped, and the handle when it aborted. -/
def State.applyGroup (s : State) (w : World) (a : CState) (g : Group) : CState × Bool × Option DWord :=
  if g.aborted || g.crossed then (s.releaseNews w a g, false, some 0)
  else
    match g.ops.foldl (fun r op => match r with
        | .error e => .error e
        | .ok a => s.applyOp w a op) (.ok a : Except (Option DWord) CState) with
    | .ok a => (a, false, none)
    | .error e =>
      match e, g.bracket with
      | some _, none => (a, true, none)
      | some h, some _ => (s.releaseNews w a g, false, some h)
      | none, _ => (s.releaseNews w a g, false, some 0)

/-- R274: the order of a cairn's closed groups, each with its tag of R297. -/
def orderGroups (gs : List Group) : List (Group × DWord) :=
  let cl := fun (g : Group) => g.closed.getD 0
  let before := fun (a b : Group) =>
    let ka := a.sub.getD 0
    let kb := b.sub.getD 0
    if ka ≠ kb then decide (ka < kb) else if a.ordinal ≠ b.ordinal then decide (a.ordinal < b.ordinal) else decide (cl a ≤ cl b)
  let sys := sortBy before (gs.filter (·.sub.isSome))
  let oth := sortBy (fun a b => decide (cl a ≤ cl b)) (gs.filter (·.sub.isNone))
  (sys.map fun g => (g, DWord.mk (BitVec.ofNat 32 (g.sub.getD 0)) (BitVec.ofNat 32 g.ordinal)))
    ++ oth.zipIdx.map fun x => (x.1, DWord.mk 0xFFFF_FFFF (BitVec.ofNat 32 x.2))

/-- R266: one slot released. -/
def World.releaseSlot (w : World) (slot : Word) : World :=
  match w.ent? slot with
  | none => w
  | some e =>
    if e.gen == 0xFFFFFF then w.setEnt { e with st := .retired }
    else { w.setEnt { e with gen := e.gen + 1, st := .free } with free := w.free ++ [slot] }

/-- R276, first part: every group of the stage is applied to the directory, slots are released, and what each stratum
still has to do is recorded in the cairn. -/
def State.cairnGroups (s : State) (w : World) (c : Cairn) : World × Cairn :=
  let closed := w.groups.filter (·.closed.isSome)
  let open_ := (w.groups.filter (·.closed.isNone)).map fun g => { g with ops := [], crossed := true }
  let a0 : CState := ⟨w.strata, w.used, [], [], [], 0⟩
  let r := (orderGroups closed).foldl (fun (x : CState × Nat × Option (DWord × DWord)) g =>
    match s.applyGroup w x.1 g.1 with
    | (a, dropped, e) => (a, x.2.1 + (if dropped then 1 else 0), match x.2.2, e with
        | some y, _ => some y
        | none, some h => some (h, g.2)
        | none, none => none)) (a0, w.dropped, none)
  let a := r.1
  -- R439: reservations of the brackets this cairn crosses, in queue order
  let left := ((w.groups.filter (·.closed.isNone)).flatMap fun g => g.ops.filterMap fun op => match op.kind with
      | .new _ => some op.handle.lo
      | _ => none).filter fun slot => match w.ent? slot with
      | some ⟨_, _, .pending _ _ _⟩ => (match a.works.find? (·.slot == slot) with
          | some k => k.arr.isNone && !k.dead
          | none => true)
      | _ => false
  let arrived := (sortBy (fun x y => decide (x.arr.getD 0 ≤ y.arr.getD 0))
    (a.works.filter fun k => k.arr.isSome && !k.dead && !left.contains k.slot)).filterMap fun k =>
      (a.strata.find? fun t => t.comps.map (·.1) == dataTypes k.data).map fun t => (⟨t.num, k.slot, k.data, match w.ent? k.slot with
        | some ⟨_, _, .pending _ p r⟩ => some (p, r)
        | _ => none, k.fresh⟩ : Arrival)
  let w := { w with strata := a.strata, used := a.used, groups := open_, ops := 0, dropped := r.2.1 }
  let w := (a.released ++ left).foldl World.releaseSlot w
  (w, { c with applying := true, removed := a.removed, arrived := arrived, nextStrat := 0, abort := r.2.2,
               held := (w.strata.map (·.num)).filter w.holds })

/-- Rows of a stratum after the cairn, and the cells the engine writes: row, component and bytes (R276, R279). -/
def State.stratumRows (s : State) (w : World) (t : Stratum) (c : Cairn) : List (Option Word) × List (Nat × Nat × List Byte) :=
  let held := c.held.contains t.num
  let gone := (c.removed.filter (·.1 == t.num)).map (·.2)
  let zero := fun (n : Nat) => leBytes 0 n
  let start : List (Option Word × List (Nat × List Byte) × List Nat) :=
    t.rows.zipIdx.map fun r => (if gone.contains r.2 then none else r.1, s.rowData w t.num r.2, [])
  let kept := if held then start
    else (((List.range start.length).reverse).filter fun r => (start[r]?.map (·.1)).getD none == none).foldl
      (fun rows r =>
        let last := rows.length - 1
        let rows' := if r = last then rows else match rows[last]? with
          | some x => rows.set r (x.1, x.2.1, t.comps.map (·.1))
          | none => rows
        rows'.take last) start
  -- an arrival is copied where its pending row is not its final row; elsewhere only what QADD gave it is written
  let arr := (c.arrived.filter (·.strat == t.num)).zipIdx.map fun x =>
    (some x.1.slot, x.1.data, if x.1.pend != some (t.num, kept.length + x.2) then t.comps.map (·.1) else x.1.fresh)
  let rows := kept ++ arr
  let cells := rows.zipIdx.flatMap fun r => (r.1.2.1.filter fun d => r.1.2.2.contains d.1).map fun d => (r.2, d.1, d.2)
  let tail := (List.range (t.rows.length + t.pend - rows.length)).flatMap fun k =>
    t.comps.map fun d => (rows.length + k, d.1, zero (w.esz.getD d.1 0))
  (rows.map (·.1), cells ++ tail)

/-- R276, R202: the code that keeps the engine from writing a page of a leaf: W clear, or a format (log entry 87). -/
def Leaf.cairnCode (l : Leaf) : Option (BitVec 16) := if !l.w then some 0x1002 else if l.fmt != 0 then some 0x1004 else none

/-- R276: make the page of a cell writable by the engine: the state, and the code that stops the cairn. A reserved page that
would be present with W clear is not mapped. -/
def State.cairnPage (s : State) (w : World) (page : DWord) (nonzero : Bool) : State × Option (BitVec 16) :=
  match (s.leaf? w.asid page).filter (·.p) with
  | some l => (s, l.cairnCode)
  | none =>
    if !nonzero then (s, none)
    else match (s.leaf? w.asid page).bind Leaf.cairnCode with
    | some code => (s, some code)
    | none =>
      match s.mapFirstTouch w.asid w.part page with
      | (s', 0) => (s', none)
      | (_, 2) => (s, some 0x1001)
      | _ => (s, some 0x1002)

/-- Write a cell where its page is present. -/
def State.writeCell (s : State) (asid : BitVec 16) (va : DWord) (b : List Byte) : State :=
  match (s.leaf? asid va).filter (·.p) with
  | some l => s.store [⟨l.key va, b.length, some l⟩] b
  | none => s

/-- R276: one stratum of a cairn; an error is the page and the code that stop it. -/
def State.cairnStratum (s : State) (w : World) (c : Cairn) (t : Stratum) : Except (State × DWord × BitVec 16) (State × World) :=
  let r := s.stratumRows w t c
  let cells := r.2.filterMap fun x => (t.comps.find? (·.1 == x.2.1)).map fun k =>
    (k.2 + BitVec.ofNat 64 (w.esz.getD k.1 0 * x.1), x.2.2)
  let pages := sortBy (fun (a b : DWord) => decide (a.toNat ≤ b.toNat)) ((cells.map fun x => x.1 &&& ~~~0xFFFF).eraseDups)
  let mapped := pages.foldl (fun (acc : Except (State × DWord × BitVec 16) State) pg => match acc with
    | .error e => .error e
    | .ok s =>
      match s.cairnPage w pg (cells.any fun x => (x.1 &&& ~~~0xFFFF) == pg && x.2.any (· != 0)) with
      | (s, none) => .ok s
      | (s, some code) => .error (s, pg, code)) (.ok s)
  match mapped with
  | .error e => .error e
  | .ok s =>
    let s := cells.foldl (fun s x => s.writeCell w.asid x.1 x.2) s
    let w := r.1.zipIdx.foldl (fun (w : World) x => match x.1 with
      | some slot => match w.ent? slot with
        | some e => w.setEnt { e with st := .live t.num x.2 }
        | none => w
      | none => w) (w.setStratum { t with rows := r.1, pend := 0 })
    .ok (s, w)

/-- R276: strata from the cairn's next on, in increasing number, as many as `n`. -/
def State.cairnStrata (s : State) (w : World) (c : Cairn) : Nat → Except (State × World × Cairn × DWord × BitVec 16) (State × World)
  | 0 => .ok (s, w)
  | n + 1 =>
    match w.stratum? c.nextStrat with
    | none => .ok (s, w)
    | some t => match s.cairnStratum w c t with
      | .error (s, pg, code) => .error (s, w, c, pg, code)
      | .ok (s, w) => s.cairnStrata w { c with nextStrat := c.nextStrat + 1 } n

/-- R277, R271: a leg begins to wait, or goes on waiting, for the cairn of a world. -/
def Leg.waitFor (leg : Leg) (s : State) (world : BitVec 8) : Leg :=
  { leg with cwait := some world,
             cstage := if leg.cwait == some world then leg.cstage else ((s.world? world).map (·.stage)).getD 0,
             cseq := if leg.cwait == some world then leg.cseq else s.tick }

/-- R277: does a slot that can go on still wait for the cairn that was applied last? Its resolution comes before the next
cairn of the world, so that it sees the directory which that cairn left. -/
def State.cairnAwaited (s : State) (id : BitVec 8) : Bool :=
  s.waves.any fun v => (v.state == .bound || v.state == .running) && [SlotId.s0, SlotId.s1].any fun k =>
    !(v.slot k).held && !(v.slot k).dead && (match (v.slot k).leg with | some leg => leg.cwait == some id | none => false)

/-- R15: the partition's other ready cairns, at the head of their worlds and not stopped, came later. -/
def State.cairnFirst (s : State) (w : World) (c : Cairn) : Bool :=
  s.worlds.all fun v => v.id == w.id || v.part != w.part || (match v.cairns with
    | d :: _ => d.stopped.isSome || !(d.applying || s.cairnDue v d)
        || (match d.ready, c.ready with
            | some x, some y => decide (y < x)
            | some _, none => false
            | none, _ => true)
    | [] => true)

/-- R15, R276, R277, R278, R295: may the head cairn of a world be applied? -/
def State.cairnReady (s : State) (w : World) (c : Cairn) : Bool :=
  !s.cairnAwaited w.id && s.cairnDue w c && s.cairnFirst w c

/-- R297: the issuing wave receives the cairn number, and its path takes 0x4003 after the leg when a group aborted. -/
def State.answerCairn (s : State) (c : Cairn) (num : Word) : State :=
  match s.wave? c.wave with
  | none => s
  | some w =>
    let x := w.slot c.slot
    match x.leg with
    | none => s
    | some leg =>
      let x := { x with leg := some { leg with reply := some num } }
      let x := match c.abort with
        | none => x
        | some (h, tag) =>
          { x with qaddr := h, qtag := tag, frame := { x.frame with defer := x.frame.defer ||| 16 },
                   sup := if inSupervisor leg.start then x.sup ||| 16 else x.sup &&& ~~~16 }
      s.setWave (w.setSlot c.slot x)

/-- R341, R306: launches of the stage that begins fix their strata; a co-resident one is bound whole or refused. Cairns that
have no launch to wait for are ready (R15). -/
def State.beginStage (s : State) (w : World) (stage : Nat) : State :=
  (s.launches.foldl (fun s l => match l.query with
    | none => s
    | some q =>
      if q.world == w.id && q.view.isNone && q.stage == stage && q.strata.isNone && l.state == .accepted then
        let st := (w.matching q.req q.exc).filter fun x => x.2 != 0
        let l' := { l with query := some { q with strata := some st }, total := queryWaves l.lr.ww st }
        let s1 := s.setLaunch l'
        if l.lr.all then
          match s1.bindAll l.id l'.total with
          | some s2 => s2.finishLaunch l.id
          | none =>
            let r := { l' with state := .refused, reason := 4 }
            (s.setLaunch r).writeStatus r
        else s1.finishLaunch l.id
      else s) s).markReady

/-- R276: the engine applies the head cairn of a world, or goes on with it after a wake. -/
def State.applyCairn (s : State) (id : BitVec 8) : State :=
  match s.world? id with
  | none => s
  | some w => match w.cairns with
    | [] => s
    | c :: rest =>
      if c.stopped.isSome || !(if c.applying then s.cairnFirst w c else s.cairnReady w c) then s
      else
        let (w, c) := if c.applying then (w, c) else s.cairnGroups w c
        match s.cairnStrata w c w.strata.length with
        | .ok (s, w) =>
          let w := { w with cairn := w.cairn + 1, cairns := rest }
          ((s.setWorld w).answerCairn c w.cairn.lo).beginStage w (c.stage + 1)
        | .error (s, w, c, page, code) =>
          let (s, tok) := s.freshToken (match s.wave? c.wave with | some x => x.core.toNat | none => 0)
          (s.setWorld { w with cairns := { c with stopped := some tok } :: rest }).postRecord w.part 5 fun seq =>
            recordBytes 5 code seq page tok w.asid w.id.toNat 0 0 0 (w.cairn + 1)

/-- R276, R400, R408: a wake of a stopped cairn's token by a partition. -/
def State.wakeCairn (s : State) (part : BitVec 3) (tok : DWord) : Option State :=
  match s.worlds.find? fun w => w.part == part && w.cairns.any fun c => c.stopped == some tok with
  | none => none
  | some w =>
    let clear := fun (c : Cairn) => if c.stopped == some tok then { c with stopped := none } else c
    some (s.setWorld { w with cairns := w.cairns.map clear })

/-- R272, R296: the check of CAIRN. -/
def State.cairnRefused (s : State) (w : Wave) (n : Word) : Bool :=
  match s.worldNum w.part n with
  | none => true
  | some x => match s.systemOf w with
    | some (_, q) => q.world == x.id && q.stage == x.stage
    | none => false

/-- R276, R15: a CAIRN reaches the hub die; with no launch to wait for it is ready. -/
def State.issueCairn (s : State) (w : Wave) (k : SlotId) (id : BitVec 8) : State :=
  match s.world? id with
  | none => s
  | some x =>
    let c : Cairn := ⟨w.id, k, x.stage, false, [], [], 0, none, none, none, []⟩
    (s.setWorld { x with stage := x.stage + 1, subs := 0, cairns := x.cairns ++ [c] }).markReady

end Sys2Proof.Machine
end

