-- ==== Sys2Proof/Machine/Suspend.lean ====
section
/-! DEFINITION. Pre-emption and rebinding (spec/15_scheduling.md R308, R312, R313; spec/09_matrix.md R187) and the
context image (spec/20_recovery.md R409, R410; spec/16_divergence.md R323, R316). -/

namespace Sys2Proof.Machine

/-! ## The image -/

/-- R410: a handler frame; faults that wait for its return stand in DEFER. -/
def HFrame.bytes (f : HFrame) (pend : BitVec 16) : List Byte :=
  leBytes f.rpc.toNat 8 ++ leBytes f.se.toNat 12 ++ leBytes f.sdep.toNat 2
    ++ leBytes ((if f.active then 1 else 0) + (if f.waiting then 2 else 0)) 1 ++ leBytes f.swcode.toNat 1
    ++ leBytes f.waitkey.toNat 8 ++ leBytes f.wakest.toNat 4 ++ leBytes (f.defer ||| pend).toNat 2 ++ leBytes 0 2
    ++ leBytes f.dmask.toNat 12 ++ leBytes f.daddr.toNat 8 ++ leBytes 0 4

/-- Read a slot's handler frame back, with the faults that wait for its return; none for a Reserved bit that is set, an RPC
that is no PC, or lanes the wave does not have (R409); the resume address of a fault at a computed target is that target (R322).
A wake that came while the wave was suspended stands (R400). -/
def readFrame (ww : Nat) (x : Slot) (b : List Byte) (o : Nat) : Option (HFrame × BitVec 16) :=
  let d := fun k n => recNat b (o + k) n
  let old := x.frame
  let rpc : DWord := BitVec.ofNat 64 (d 0 8)
  let se : Mask := BitVec.ofNat 96 (d 8 12)
  let dmask : Mask := BitVec.ofNat 96 (d 40 12)
  let defer : BitVec 16 := BitVec.ofNat 16 (d 36 2)
  if d 22 1 < 4 && d 36 2 < 512 && d 38 2 == 0 && d 60 4 == 0 && (rpc.extractLsb' 0 2 == 0 || old.jumped == some rpc)
      && (se ||| dmask) &&& ~~~Mask.below ww == 0 then
    some ({ old with rpc := rpc, jumped := if old.rpc == rpc then old.jumped else none, se := se, sdep := BitVec.ofNat 16 (d 20 2),
                     active := d 22 1 % 2 == 1, waiting := d 22 1 / 2 == 1 && old.waiting, swcode := BitVec.ofNat 8 (d 23 1),
                     waitkey := BitVec.ofNat 64 (d 24 8),
                     wakest := if old.woken then old.wakest else BitVec.ofNat 32 (d 32 4),
                     defer := defer &&& ~~~x.pend, dmask := dmask, daddr := BitVec.ofNat 64 (d 52 8) }, defer &&& x.pend)
  else none

/-- R316: a slot's entry; 64 zero bytes for an empty one. -/
def slotBytes (x : Slot) : List Byte :=
  match x.path with
  | some p => entryBytes p none
  | none => leBytes 0 64

/-- R409: the engine entries of a wave: token, kind and progress. -/
def State.engineEntries (s : State) (w : Nat) : List (DWord × Nat × Word) :=
  ((s.porterOf w).map fun c => (c.tok, 1, (0 : Word)))
    ++ (s.basaltOf w).map fun c => (c.tok, if c.cmd.macro?.isSome then 3 else 2, c.prog)

/-- R409: HOLDMASK, PHMASK and the barriers of a unit's image. -/
def barrierBytes (bars : List (BitVec 6 × Barrier)) : List Byte :=
  let mask := fun (f : Barrier → Bool) => (bars.filter fun x => f x.2).foldl (fun m x => m ||| 2 ^ x.1.toNat) 0
  leBytes (mask fun _ => true) 8 ++ leBytes (mask (·.ph)) 8
    ++ (List.range 64).flatMap fun k =>
      match bars.find? fun x => x.1.toNat == k with
      | some x => leBytes x.2.exp.toNat 2 ++ leBytes x.2.arr.toNat 2 ++ leBytes x.2.byt.toNat 4
      | none => leBytes 0 8

/-- R409: the control record. -/
def State.controlRecord (s : State) (w : Wave) (bars : List (BitVec 6 × Barrier)) : List Byte :=
  let r := w.regs
  let eng := (s.engineEntries w.id).take 96
  (r.s.toList.flatMap fun x => leBytes x.toNat 4) ++ leBytes 0 12 ++ (r.a.toList.flatMap fun x => leBytes x.toNat 8)
    ++ leBytes r.fcode.toNat 4 ++ leBytes r.csat.toNat 4 ++ leBytes r.cftz.toNat 4 ++ leBytes r.cnan.toNat 4
    ++ leBytes r.faddr.toNat 8 ++ leBytes r.ftok.toNat 8 ++ (r.nf.toList.flatMap fun x => leBytes x.toNat 4)
    ++ leBytes (if r.pwb then 1 else 0) 4 ++ leBytes (s.tprog w.id).toNat 4 ++ leBytes w.stack.length 4 ++ leBytes 0 4
    ++ leBytes r.qabt.toNat 8 ++ leBytes 0 40 ++ slotBytes w.s0 ++ slotBytes w.s1 ++ w.s0.frame.bytes w.s0.pend ++ w.s1.frame.bytes w.s1.pend
    ++ leBytes 0 256
    ++ (eng.flatMap fun e => leBytes e.1.toNat 8 ++ leBytes e.2.1 1 ++ leBytes 0 3 ++ leBytes e.2.2.toNat 4)
    ++ leBytes 0 (16 * (96 - eng.length)) ++ barrierBytes bars ++ leBytes 0 1008

/-- R323: the pieces of a wave's image with their addresses: control record, v48 to v63, resident records, tiles. The
divergence stack stands in memory already. -/
def State.imagePieces (s : State) (w : Wave) (bars : List (BitVec 6 × Barrier)) : List (DWord × List Byte) :=
  let at_ := fun n => w.spb + BitVec.ofNat 64 n
  let recs := (w.regs.records.filter w.regs.resident).map fun r => (s.recAddr w r, w.regs.recBytes r)
  let tiles := (((s.recOf w).map LaunchRec.tiles).getD []).map fun t => s.tileBytes w.core.toNat t
  let offs := tiles.foldl (fun (x : List (DWord × List Byte) × Nat) b => (x.1 ++ [(at_ (20480 + x.2), b)], x.2 + b.length)) ([], 0)
  (at_ 0, s.controlRecord w bars)
    :: (w.regs.glob.toList.zipIdx.map fun g => (at_ (4096 + 512 * g.2), regRecord g.1))
    ++ recs ++ [(BitVec.ofNat 64 (s.frameBase w + 16384), leBytes 0 1024)] ++ offs.1

/-- Write an image; a fault stops the wave's Hamper traffic (R327). -/
def State.writeImage (s : State) (w : Wave) (ps : List (DWord × List Byte)) : State × Wave :=
  ps.foldl (fun x p =>
    if x.2.hamper.isSome then x
    else match x.1.saveArea x.2 p.1 p.2.length true with
      | .error c => x.1.stopHamper x.2 .image c
      | .ok q => match x.1.deadFault q with
        | some d => (x.1.markPoison d.2).stopHamper x.2 .image (d.1, p.1)
        | none => ({ x.1 with mem := writePieces x.1.mem q p.2 }, x.2)) (s, w)

/-- What ends the reading of an image: a fault with its address and the lines it poisons, or a fault that stops the wave's
Hamper traffic (R119, R327). -/
inductive ImageStop where
  | fault (code : BitVec 16) (addr : DWord) (poison : List Nat)
  | stop (e : BitVec 16 × DWord)

/-- Read bytes of the save area. -/
def State.readSave (s : State) (w : Wave) (va : DWord) (n : Nat) : Except ImageStop (List Byte) :=
  match s.saveArea w va n false with
  | .error e => .error (.stop e)
  | .ok ps => match s.readFault ps with
    | some e => .error (.fault e.1 va e.2)
    | none => .ok (readPieces s.mem ps)

/-- R119, R409: a check of the record at an address. -/
def imageCheck {α : Type} (va : DWord) : Option α → Except ImageStop α
  | some x => .ok x
  | none => .error (.fault 0x0302 va [])

/-- Words of a record. -/
def recWord (b : List Byte) (o : Nat) : Word := BitVec.ofNat 32 (recNat b o 4)
def recDWord (b : List Byte) (o : Nat) : DWord := BitVec.ofNat 64 (recNat b o 8)

/-- R188: are the Reserved bits of a progress word zero? -/
def progOk (x : Word) : Bool := x &&& 0x7F007F80 == 0

/-- R409: the checks of a control record's Reserved bytes and ranges. -/
def controlOk (b : List Byte) : Bool :=
  recZero b 0xF4 12 && recNat b 0x180 4 < 65536 && (List.range 8).all (fun k => recNat b (0x1A0 + 4 * k) 4 < 131072)
    && recNat b 0x1C0 4 ≤ 1 && progOk (recWord b 0x1C4) && recNat b 0x1C8 4 ≤ 96
    && recZero b 0x1CC 4 && recZero b 0x1D8 40 && recZero b 0x300 256
    && (List.range 96).all (fun k => recNat b (0x408 + 16 * k) 1 ≤ 3 && recZero b (0x409 + 16 * k) 3
      && progOk (recWord b (0x40C + 16 * k))) && recZero b 0xC10 1008

/-- R409: the path of a slot's entry; KIND 2 is no slot's. -/
def slotEntry (ww : Nat) (x : Slot) (b : List Byte) (o : Nat) : Option (Option Path) :=
  match readEntry ww (x.path.bind (·.jumped)) b o with
  | some none => some none
  | some (some (p, none)) => some (some p)
  | _ => none

/-- R316: entry `i` of the stack in memory. -/
def State.readStackEntry (s : State) (w : Wave) (i : Nat) : Except ImageStop StackEntry := do
  let b ← s.readSave w (w.entryAddr i) 64
  let old := w.stack[i]?
  match readEntry w.ww (old.bind (·.path.jumped)) b 0 with
  | some (some (p, j)) => return ⟨p.keepTarget (old.map (·.path)), j, (old.map (·.waitBar)).getD [], (old.map (·.due)).getD Slot.empty, some i, false⟩
  | _ => .error (.fault 0x0302 (w.entryAddr i) [])

/-- R409, R323: read a wave back from its image, with its control record. Records other than v48 to v63 stay in memory until
a working set needs them. -/
def State.readImage (s : State) (w : Wave) : Except ImageStop (Wave × List Byte) := do
  let b ← s.readSave w w.spb 4096
  let _ ← imageCheck w.spb (if controlOk b then some () else none)
  let e0 ← imageCheck w.spb (slotEntry w.ww w.s0 b 0x200)
  let e1 ← imageCheck w.spb (slotEntry w.ww w.s1 b 0x240)
  let f0 ← imageCheck w.spb (readFrame w.ww w.s0 b 0x280)
  let f1 ← imageCheck w.spb (readFrame w.ww w.s1 b 0x2C0)
  let glob ← (List.range 16).mapM fun k => do
    let va := w.spb + BitVec.ofNat 64 (4096 + 512 * k)
    imageCheck va (readRegRecord w.ww (← s.readSave w va 512))
  let stack ← (List.range (recNat b 0x1C8 4)).mapM (s.readStackEntry w)
  let regs : Regs := { w.regs with
    s := Vector.ofFn fun k => recWord b (4 * k.val), a := Vector.ofFn fun k => recDWord b (0x100 + 8 * k.val),
    fcode := recWord b 0x180, csat := recWord b 0x184, cftz := recWord b 0x188, cnan := recWord b 0x18C,
    faddr := recDWord b 0x190, ftok := recDWord b 0x198, nf := Vector.ofFn fun k => recWord b (0x1A0 + 4 * k.val),
    pwb := recNat b 0x1C0 4 == 1, qabt := recDWord b 0x1D0, lowRes := 0,
    imgs := w.regs.imgs.map fun i => { i with res := 0, lres := false },
    glob := Vector.ofFn fun k => glob.getD k.val [] }
  let slot := fun (x : Slot) (e : Option Path) (f : HFrame × BitVec 16) =>
    { x with path := e.map (·.keepTarget x.path), frame := f.1, pend := f.2, legs := 0, age := 0 }
  let v := { w with regs := regs, stack := stack, unread := false, s0 := slot w.s0 e0 f0, s1 := slot w.s1 e1 f1 }
  let paths := ([v.s0, v.s1].filterMap (·.path)) ++ stack.map (·.path)
  return (paths.foldl (fun v p => v.reach p.dep.toNat) v, b)

/-- R119: the working sets of a restored wave's slots are filled, and so checked, before any of it is resident. -/
def State.fillSlots (s : State) (w : Wave) : Except ImageStop (State × Wave) :=
  w.depths.foldl (fun acc d => match acc with
    | .error e => .error e
    | .ok x => match x.1.fillSet x.2 d 0 with
      | .ok y => .ok y
      | .error (.room _ s w) => .ok (s, w)
      | .error (.fault c a ls) => .error (.fault c a ls)
      | .error (.hamper _ v) => .error (.stop ((v.hamper.map fun h => (h.code, h.addr)).getD (0x1001, w.spb)))) (.ok (s, w))

/-- R187, R323: the tiles of a wave's image, with their bytes. -/
def State.readTiles (s : State) (w : Wave) (ts : List Tile) (off : Nat) : Except ImageStop (List (Tile × List Byte)) :=
  match ts with
  | [] => .ok []
  | t :: r => do
    let n := (tileSpan t).2
    let b ← s.readSave w (w.spb + BitVec.ofNat 64 (20480 + off)) n
    return (t, b) :: (← s.readTiles w r (off + n))

/-- R187, R409: the progress of the stopped macro-ops that a control record names. -/
def State.loadProgress (s : State) (w : Nat) (b : List Byte) : State :=
  let ps := (List.range 96).filterMap fun k =>
    if recNat b (0x408 + 16 * k) 1 = 3 then some (recDWord b (0x400 + 16 * k), recWord b (0x40C + 16 * k)) else none
  { s with basalt := s.basalt.map fun c => if c.wave == w && !c.started && c.cmd.macro?.isSome then
      (match ps.find? (·.1 == c.tok) with | some p => { c with prog := p.2 } | none => c) else c }

/-- R409, R119: the Hamper reads a rebound wave's image: its registers, paths and frames, its tiles, its slots' working sets,
and its engines' progress. A failed check leaves nothing of it resident. -/
def State.loadImage (s : State) (w : Wave) : Except ImageStop (State × List Byte) := do
  let x ← s.readImage w
  let ts ← s.readTiles w (((s.recOf w).map LaunchRec.tiles).getD []) 0
  let s := ts.foldl (fun s t => s.putTile w.core.toNat t.1 t.2 (s.tileBad w.core.toNat t.1)) (s.setWave x.1)
  let y ← s.fillSlots x.1
  return ((y.1.setWave y.2).loadProgress w.id x.2, x.2)

/-- R409: the barriers that the control record of a unit's lowest wave holds. -/
def State.loadBarriers (s : State) (launch core : Nat) (b : List Byte) : State :=
  (List.range 64).foldl (fun s k =>
    if (recNat b 0xA00 8).testBit k then
      s.setCore ((s.core core).setBar (BitVec.ofNat 6 k) ⟨some launch, (recNat b 0xA08 8).testBit k,
        BitVec.ofNat 16 (recNat b (0xA10 + 8 * k) 2), BitVec.ofNat 16 (recNat b (0xA12 + 8 * k) 2), recWord b (0xA14 + 8 * k)⟩)
    else if ((s.core core).bar (BitVec.ofNat 6 k)).hold == some launch then
      s.setCore ((s.core core).setBar (BitVec.ofNat 6 k) Barrier.released)
    else s) s

/-! ## Pre-emption (R308, R312, R187) -/

/-- R312, R277: has a leg's LAUNCHQ gone to the hub die, where it waits for a cairn? -/
def Leg.atHub (l : Leg) : Bool :=
  l.parked && l.cwait.isSome && (match l.closing with | some (.launch true _ _) => true | _ => false)

/-- R312: has a slot a leg whose side effect has been sent and whose reply has not come? -/
def Slot.settling (x : Slot) : Bool :=
  match x.leg with
  | some l => (l.sent && !x.frame.waiting) || l.atHub
  | none => false

/-- R312: discard a leg that has sent nothing; a TRAP that waits under its entry stays. -/
def Slot.preempted (x : Slot) : Slot :=
  if x.frame.waiting then x else { x.discard with age := 0, legs := 0, lag := false }

/-- R187: Basalt settles a wave's commands in order. -/
def State.settleBasalt (s : State) (w : Nat) : State :=
  (s.basaltOf w).foldl (fun s c =>
    let s := s.startBasalt c
    match s.basalt.find? (·.tok == c.tok) with
    | none => s
    | some c => if !c.started then s else if c.cmd.macro?.isSome then s.stopMacro c else s.finishBasalt c) s

/-- R312: a wave's Porter commands run on. -/
def State.settlePorter (s : State) (w : Nat) : State := (s.porterOf w).foldl State.endCopy s

/-- R312, R187, R226: the engines settle a wave's commands. A command that a fence holds follows the commands before it, so
that as many rounds as there are commands settle them all. -/
def State.settleEngines (s : State) (w : Nat) : Nat → State
  | 0 => s
  | n + 1 => ((s.settlePorter w).settleBasalt w).settleEngines w n

/-- R308: the unit of a launch on a core: the waves bound there, or all of a co-resident launch. -/
def State.unitOf (s : State) (l : Launch) (core : Nat) : List Wave :=
  s.waves.filter fun w => w.launch == l.id && w.state != .suspended && (l.lr.all || w.core.toNat == core)

/-- R312: write one wave's image and suspend it. -/
def State.suspendWave (s : State) (w : Wave) (keep : Bool) (bars : List (BitVec 6 × Barrier)) : State :=
  let w := { w with s0 := w.s0.preempted, s1 := w.s1.preempted, gbarAt := w.gbarAt && !w.s0.arrived && !w.s1.arrived }
  -- a wave that has not read its image yet leaves it as it is
  let x := if w.unread then (s, w) else s.writeImage w (s.imagePieces w bars)
  let y := x.1.syncStack x.2
  if y.2.hamper.isSome then y.1.setWave y.2 else y.1.setWave { y.2 with state := .suspended, kept := w.kept || keep }

/-- R308, R312: pre-empt a unit of waves. Waves with a sent side effect wait for its reply; a Hamper fault leaves the
waves bound to take it. -/
def State.preemptUnit (s : State) (l : Launch) (core : Nat) (keep : Bool) : State :=
  let us := s.unitOf l core
  let s := us.foldl (fun s w => s.setWave { w with state := .suspending }) s
  if us.isEmpty || us.any fun w => w.s0.settling || w.s1.settling then s
  else
    let s := us.foldl (fun s w => s.settleEngines w.id ((s.porterOf w.id).length + (s.basaltOf w.id).length + 1)) s
    let cores := (us.map (·.core.toNat)).eraseDups
    let s := us.foldl (fun s w => s.setCore ((s.core w.core.toNat).sieveForget w.id)) s
    let units := cores.map fun c =>
      let co := s.core c
      let mine := sortBy (fun (a b : Wave) => decide (a.wid.toNat ≤ b.wid.toNat)) (us.filter (·.core.toNat == c))
      let a := co.alloc? l.id
      (⟨l.id, c, mine.map (·.id), (a.map (·.size)).getD 0,
        (match a with | some a => readPieces s.mem (scratchPieces co a.base a.size) | none => []),
        co.bars.filter (fun b => b.2.hold == some l.id),
        mine.map fun w => (w.id, co.tilePoison)⟩ : SavedUnit)
    let lowest := fun (u : SavedUnit) => u.waves.head?
    let s1 := us.foldl (fun s w =>
      let u := units.find? fun u => u.core == w.core.toNat
      let bars := match u with | some u => if lowest u == some w.id then u.bars else [] | none => []
      s.suspendWave w keep bars) s
    if us.all fun w => match s1.wave? w.id with | some x => x.state == .suspended | none => true then
      let s2 := { s1 with units := s1.units ++ units }
      cores.foldl (fun s c => s.leaveCore l.id c) s2
    else us.foldl (fun s w => match s.wave? w.id with
      | some x => s.setWave { x with state := if x.hamper.isSome then .running else .suspending }
      | none => s) s1

/-! ## Rebinding (R305, R308, R313) -/

/-- The suspended unit that a wave belongs to. -/
def State.savedUnit (s : State) (w : Nat) : Option SavedUnit := s.units.find? fun u => u.waves.contains w

/-- R305: the lowest quadrant of a core that a wave of a launch fits, from a first choice. -/
def State.quadFor (s : State) (l : Launch) (core first : Nat) : Option Nat :=
  ([first % 4, (first + 1) % 4, (first + 2) % 4, (first + 3) % 4]).find? fun q => s.coreFits l core q

/-- Bytes of the longest allocation a core could still grant (R197). -/
def Core.largestRoom (c : Core) : Nat :=
  ((0 :: c.allocs.map fun a => (a.base + a.size + 127) / 128 * 128).map fun b =>
    if c.allocs.any fun a => decide (a.base ≤ b) && decide (b < a.base + a.size) then 0
    else (c.allocs.foldl (fun m a => if b ≤ a.base then min m a.base else m) (scratchBytes c)) - b).foldl max 0

/-- R323, R313: bytes that a wave's image needs of its save area, and what the area has. -/
def State.imageNeed (s : State) (w : Wave) : Nat × Nat :=
  (s.frameBase w + 17408 * w.regs.imgs.length + 6144 - w.spb.toNat, w.spl.toNat - w.spb.toNat)

/-- R313: what a unit needs and what a core offers it, by CAUSE: save-area bytes, barrier identifiers, run slots, tiles and
scratchpad bytes. A core whose resident waves keep another split offers no slots, tiles or bytes; one on which waves of the
launch stand has its one allocation in use (R197). -/
def State.unitOffers (s : State) (l : Launch) (u : SavedUnit) (core : Nat) : List (Nat × Nat × Nat) :=
  let c := s.core core
  let here := s.resident core
  let roles := if l.lr.splits && here.isEmpty then l.lr.brs else c.roles
  let other := l.lr.splits && c.roles != l.lr.brs && !here.isEmpty
  let taken := (u.bars.filter fun b => (c.bar b.1).hold.isSome).length
  let tiles := l.lr.tiles.filter fun t => decide ((tileSpan t).1 + (tileSpan t).2 ≤ (banksOf roles 2).length * 49152)
    && here.all fun w => match s.recOf w with | some r => !r.holdsTile t | none => true
  let slots := ((List.range 4).map fun q =>
    let on := here.filter (·.quad.toNat == q)
    l.lr.rb * min (16 - on.length) ((32768 - (on.map (·.rb)).sum) / max 1 l.lr.rb)).sum
  let areas := (u.waves.filterMap s.wave?).map s.imageNeed
  let area := ((areas.find? fun a => decide (a.2 < a.1)).or areas.head?).getD (0, 0)
  [(1, area.1, area.2), (2, u.bars.length, u.bars.length - taken),
    (3, l.lr.rb * u.waves.length, if other then 0 else slots),
    (4, l.lr.tiles.length, if other then 0 else tiles.length),
    (5, u.size, if other || here.any (·.launch == l.id) then 0 else { c with roles := roles }.largestRoom)]

/-- R313: what of a unit does not fit a core: cause, need and what the core offers. -/
def State.unitMisfit (s : State) (l : Launch) (u : SavedUnit) (core : Nat) : Option (Nat × Nat × Nat) :=
  match (s.unitOffers l u core).find? fun x => decide (x.2.2 < x.2.1) with
  | some x => some x
  | none => if (s.quadFor l core 0).isNone then some (3, l.lr.rb * u.waves.length, 0) else none

/-- R305, R307: one wave of a unit takes its place on a core and quadrant; none where it finds none, or, where R307 is to
hold, where its producer leaves it none. -/
def State.seatWave (s : State) (l : Launch) (w : Wave) (core first : Nat) (yields : Bool) : Option State :=
  if yields && !s.producerLeaves l then none
  else match s.quadFor l core first with
  | none => none
  | some q => (s.freeEntry core q).map fun e =>
    let x := { w with core := BitVec.ofNat 10 core, quad := BitVec.ofNat 2 q, entry := e, state := .running,
                      refusedFit := false, unread := true }
    -- R309: it is bound again, after the waves bound until now
    { s with waves := (s.waves.filter fun (v : Wave) => v.id != w.id) ++ [x] }

/-- R308, R313: a unit takes its place on a core that it fits: roles, allocation, barriers, then wave by wave. -/
def State.seatUnit (s : State) (l : Launch) (first : Nat) (yields : Bool) (u : SavedUnit) (core : Nat) : Option State :=
  if (s.unitMisfit l u core).isSome then none
  else
    let s := if l.lr.splits then s.setRoles core l.lr.brs else s
    let s := s.grantAlloc l core
    let s := u.bars.foldl (fun s b => s.setCore ((s.core core).setBar b.1 b.2)) s
    (u.waves.filterMap s.wave?).foldl (fun (y : Option State) w => y.bind fun s => s.seatWave l w core first yields) (some s)

/-- R308, R313: units that are rebound together, each on a core of its list; every choice of cores is tried. -/
def State.seatUnits (s : State) (l : Launch) (first : Nat) (yields : Bool) :
    List (SavedUnit × List Nat) → Option (State × List (SavedUnit × Nat))
  | [] => some (s, [])
  | (u, cs) :: r => cs.findSome? fun c => (s.seatUnit l first yields u c).bind fun t =>
      (t.seatUnits l first yields r).map fun x => (x.1, (u, c) :: x.2)

/-- R409, R187: what is kept of a wave beside its image comes back to its core, and the Hamper reads the image. A fault leaves
the image to be read before the wave's first leg; until then the registers stand as the pre-emption left them, and a handler's
legs read those (R119, R327; log entry 58). The control record of the lowest wave gives the barriers. -/
def State.restoreWave (s : State) (l : Launch) (u : SavedUnit) (core id : Nat) : State :=
  match s.wave? id with
  | none => s
  | some x =>
    let c := s.core core
    -- R187: the poison of the tiles comes back, and the stopped commands go on
    let bits := ((u.tiles.find? (·.1 == id)).map (·.2)).getD 0
    let mine := l.lr.tiles.foldl (fun (m : BitVec 144) t => m ||| BitVec.ofNat 144 (2 ^ tileBit t)) 0
    let s := s.setCore { c with tilePoison := (c.tilePoison &&& ~~~mine) ||| (bits &&& mine) }
    let s := { s with
      basalt := s.basalt.map (fun (c : BasaltCmd) => if c.wave == id then { c with core := core, stopped := false } else c),
      porter := s.porter.map (fun (c : PorterCmd) => if c.wave == id then { c with core := core } else c) }
    match s.loadImage x with
    | .ok y => if u.waves.head? == some id then y.1.loadBarriers l.id core y.2 else y.1
    | .error (.stop e) => let y := s.stopHamper x .image e; y.1.setWave y.2
    | .error (.fault _ _ ls) => s.markPoison ls

/-- R308: a unit that has its place gets its scratchpad bytes and its waves' images back. -/
def State.restoreUnit (s : State) (l : Launch) (x : SavedUnit × Nat) : State :=
  let s := match (s.core x.2).alloc? l.id with
    | some a => { s with mem := writePieces s.mem (scratchPieces (s.core x.2) a.base a.size) x.1.bytes }
    | none => s
  let s := x.1.waves.foldl (fun s id => s.restoreWave l x.1 x.2 id) s
  { s with units := s.units.filter fun y => y != x.1 }

/-- R308: what a wave's rebinding places: its unit, at a core; with it the other units of a co-resident launch. -/
def State.rebindPlan (s : State) (l : Launch) (u : SavedUnit) (here cores : List Nat) : List (SavedUnit × List Nat) :=
  (u, here) :: (if l.lr.all then (s.units.filter fun x => x.launch == l.id && x != u).map fun x => (x, cores) else [])

/-- R305, R307, R313: does a suspended wave wait to be rebound? Not one that the host keeps suspended, that was refused for
its fit, or that gives way to its producer. -/
def State.awaitsRebind (s : State) (w : Wave) : Bool :=
  w.state == .suspended && !w.kept && !w.refusedFit
    && (match s.launch? w.launch with | some l => !l.held && s.producerLeaves l | none => false)

/-- R313: do the wave's unit, and the units rebound with it, fit the partition? With `yields`: and does R307 let them all in? -/
def State.rebindFits (s : State) (w : Wave) (yields : Bool := false) : Bool :=
  match s.launch? w.launch, s.savedUnit w.id, s.part? w.part with
  | some l, some u, some p => (s.seatUnits l 0 yields (s.rebindPlan l u p.cores p.cores)).isSome
  | _, _, _ => false

/-- May the launch's next wave be bound, on some quadrant? -/
def State.launchWaits (s : State) (l : Launch) : Bool :=
  l.state == .accepted && !l.held && decide (l.next < l.total) && s.stageOpen l && s.producerLeaves l

/-- May the launch's next wave be bound on a quadrant now? -/
def State.bindable (s : State) (l : Launch) (core quad : Nat) : Bool :=
  s.launchWaits l && (match s.part? l.part with | some p => p.cpmask.getLsbD (core / 16) | none => false)
    && s.coreFits l core quad

/-- What the Guide binds next (R305): a suspended wave's unit, or the next wave of a launch. -/
inductive Waiting where
  | wave (id : Nat)
  | launch (id : Nat)
  deriving DecidableEq, Repr

/-- Where a launch stands in acceptance order. -/
def State.launchPos (s : State) (id : Nat) : Nat := s.launches.findIdx (·.id == id)

/-- R305: the first of a partition's waiting waves that fit: by priority, suspended before unstarted, then in acceptance order
and by WID. -/
def State.nextWaiting (s : State) (part : BitVec 3) : Option Waiting :=
  let prio := fun (w : Wave) => ((s.recOf w).map (·.prio)).getD 0
  let ws := s.waves.filter fun w => w.part == part && s.awaitsRebind w && s.rebindFits w true
  let ls := s.launches.filter fun l => l.part == part && s.launchWaits l && !(s.placesOf l).isEmpty
  let best := max ((ws.map prio).foldl max 0) ((ls.map fun l => l.lr.prio).foldl max 0)
  let before := fun (a b : Wave) =>
    if a.launch == b.launch then decide (a.wid.toNat ≤ b.wid.toNat) else decide (s.launchPos a.launch ≤ s.launchPos b.launch)
  match (sortBy before (ws.filter fun w => prio w == best)).head? with
  | some w => some (.wave w.id)
  | none => (ls.find? fun l => l.lr.prio == best).map fun l => .launch l.id

/-- R305: the launch whose wave is bound next on a quadrant. -/
def State.nextLaunch (s : State) (core quad : Nat) : Option Launch :=
  s.launches.find? fun l => s.bindable l core quad && s.nextWaiting l.part == some (.launch l.id)

/-- The unit of a wave, by its launch and core; a co-resident launch is one unit (R308). -/
def State.unitKey (s : State) (w : Wave) : Nat × Nat :=
  (w.launch, if (match s.recOf w with | some r => r.all | none => false) then 0 else w.core.toNat)

/-- The state with some units off their cores. -/
def State.withoutUnits (s : State) (us : List (Nat × Nat)) : State :=
  let out := s.waves.filter fun w => w.state != .suspended && us.contains (s.unitKey w)
  out.foldl (fun s w => s.leaveCore w.launch w.core.toNat)
    { s with waves := s.waves.filter fun w => !out.any (·.id == w.id) }

/-- R308: does a launch have a wave that waits, fits nowhere, and would fit without some units? -/
def State.roomWithout (s : State) (h : Launch) (us : List (Nat × Nat)) : Bool :=
  let t := s.withoutUnits us
  (s.launchWaits h && (s.placesOf h).isEmpty && !(t.placesOf h).isEmpty)
    || s.waves.any fun w => w.launch == h.id && s.awaitsRebind w && !s.rebindFits w true && t.rebindFits w true

/-- R307, R308: the units of priority 0 of a launch's partition that may make room for it, the youngest first: never its
producer's. -/
def State.idleUnits (s : State) (h : Launch) : List (Nat × Nat) :=
  ((s.waves.reverse.filter fun w => w.part == h.part && w.state != .suspended && (match s.launch? w.launch with
    | some l => l.lr.prio == 0 && (h.lr.prod == 0 || h.lr.prod != l.addr)
    | none => false)).map s.unitKey).eraseDups

/-- R308: the unit that goes next to make room for a launch of priority 3: of the youngest units that together would make it, the
youngest that is needed for it. -/
def State.victim (s : State) (h : Launch) : Option (Nat × Nat) :=
  let us := s.idleUnits h
  if h.lr.prio != 3 || h.held then none
  else match (List.range (us.length + 1)).find? fun n => s.roomWithout h (us.take n) with
    | none => none
    | some n => (us.take n).find? fun u => !s.roomWithout h ((us.take n).filter (· != u))

/-- R307, R308: does the Guide pre-empt a launch's unit on a core, to bind a wave of priority 3? -/
def State.preemptWanted (s : State) (l : Launch) (core : Nat) : Bool :=
  l.lr.prio == 0 && s.launches.any fun h => s.victim h == some (l.id, if l.lr.all then 0 else core)

/-- R313: the suspend record of a refused rebind. -/
def suspendBytes (lrec : DWord) (wid : Word) (cause need have_ : Nat) : List Byte :=
  leBytes lrec.toNat 8 ++ leBytes wid.toNat 4 ++ leBytes 0x9001 2 ++ leBytes cause 1 ++ leBytes 0 1
    ++ leBytes need 4 ++ leBytes have_ 4 ++ leBytes 0 8

/-- R407: a record of kind 3. -/
def contextRecord (seq : Word) (body : List Byte) : List Byte :=
  leBytes 3 2 ++ leBytes 0x9001 2 ++ leBytes seq.toNat 4 ++ leBytes 0 8 ++ body ++ leBytes 0 16

/-- R313: CAUSE, NEED and HAVE of a unit that fits no core: a cause that no core of the partition meets, else the first
core's, else the run slots. -/
def State.misfitCause (s : State) (l : Launch) (u : SavedUnit) (cores : List Nat) : Nat × Nat × Nat :=
  let all := cores.map (s.unitOffers l u)
  let best := fun (c : Nat) => (all.map fun o => ((o.find? (·.1 == c)).map (·.2.2)).getD 0).foldl max 0
  let first := (cores.head?).bind (s.unitMisfit l u)
  let nowhere := (all.headD []).find? fun (o : Nat × Nat × Nat) => decide (best o.1 < o.2.1)
  match nowhere.or first with
  | some o => (o.1, o.2.1, best o.1)
  | none => (3, l.lr.rb * u.waves.length, best 3)

/-- R313: of units that are rebound together, what keeps the first from its place that finds none beside those before it. -/
def State.planMisfit (s : State) (l : Launch) : List (SavedUnit × List Nat) → Nat × Nat × Nat
  | [] => (3, 0, 0)
  | (u, cs) :: r => match cs.findSome? fun c => s.seatUnit l 0 false u c with
    | some t => if r.isEmpty then s.misfitCause l u cs else t.planMisfit l r
    | none => s.misfitCause l u cs

/-- R305, R307, R308, R313: WAVE_REBIND: the wave's unit goes to the core, or, when no core of the partition fits, is refused
with a suspend record. -/
def State.rebind (s : State) (id core quad : Nat) : State :=
  match s.wave? id, s.savedUnit id with
  | some w, some u =>
    match s.launch? w.launch, s.part? w.part with
    | some l, some p =>
      if !s.awaitsRebind w then s
      else if s.rebindFits w then
        if p.cpmask.getLsbD (core / 16) && s.nextWaiting w.part == some (.wave id) then
          match s.seatUnits l quad true (s.rebindPlan l u [core] p.cores) with
          | some x => x.2.foldl (fun s y => s.restoreUnit l y) x.1
          | none => s
        else s
      else
        let m := s.planMisfit l (s.rebindPlan l u p.cores p.cores)
        (s.setWave { w with refusedFit := true }).postRecord w.part 3 fun seq =>
          contextRecord seq (suspendBytes l.addr w.wid m.1 m.2.1 m.2.2)
    | _, _ => s
  | _, _ => s

end Sys2Proof.Machine
end

