-- ==== Sys2Proof/Machine/System.lean ====
section
/-! DEFINITION. Partitions, the management mailbox, wipes, life-cycle, identity and attestation (spec/19_isolation.md R367,
R368, R374 to R376, R381 to R390), start-up and firmware (spec/21_host.md R423 to R425). -/

namespace Sys2Proof.Machine

/-! ## Leaves (R375, R376) -/

/-- R102: may FMT, BLK and SCL stand together? Where SCL is 0 and FMT is not, either BLK is accepted and says nothing
(log entry 79). -/
def formatOk (fmt : BitVec 5) (blk : Bool) (scl : BitVec 2) : Bool :=
  if fmt == 0 then !blk && scl == 0
  else if 11 ≤ fmt.toNat && fmt.toNat ≤ 15 then false
  else if scl == 3 then !blk && fmt.toNat ≤ 5
  else true

/-- R375: an entry's fields as a leaf of a page. -/
def leafOf (e : DWord) (asid : BitVec 16) (size : Nat) (va : DWord) : Leaf :=
  { asid := asid, size := size, va := va, p := e.getLsbD 0, w := e.getLsbD 2, x := e.getLsbD 3, cw := e.getLsbD 4,
    hau := e.getLsbD 5, loc := e.extractLsb' 6 2, dev := e.extractLsb' 8 4, fmt := e.extractLsb' 52 5,
    blk := e.getLsbD 14, scl := e.extractLsb' 12 2, pa := e &&& 0x000F_FFFF_FFFF_0000 }

/-- R375: an entry with a Reserved bit, or with ADDR bits below the page size. -/
def entryBad (e : DWord) (size : Nat) : Bool :=
  e.extractLsb' 57 7 != 0 || e.getLsbD 15 || (e &&& 0x000F_FFFF_FFFF_0000).toNat % pageBytes size != 0

/-- R102, R202: does a leaf carry a format or a DEV that R202 and R102 do not list? R202 refuses such an entry at mapping. -/
def Leaf.illegal (l : Leaf) : Bool :=
  !formatOk l.fmt l.blk l.scl || match l.loc.toNat with
    | 0 => l.dev != 0
    | 1 => decide (4 ≤ l.dev.toNat)
    | 2 => false
    | _ => decide (2 ≤ l.dev.toNat)

/-- Do two ranges share a byte? -/
def MemRange.meets (a b : MemRange) : Bool :=
  a.loc == b.loc && a.dev == b.dev && decide (a.base < b.base + b.size) && decide (b.base < a.base + a.size)

/-- What of a range another does not cover. -/
def MemRange.minus (a b : MemRange) : List MemRange :=
  if a.meets b then
    [{ a with size := b.base - a.base }, { a with base := b.base + b.size, size := a.base + a.size - (b.base + b.size) }].filter
      fun r => r.size != 0
  else [a]

/-- What of a range a list of ranges does not cover. -/
def MemRange.outside (a : MemRange) (bs : List MemRange) : List MemRange :=
  bs.foldl (fun rs b => rs.flatMap fun r => r.minus b) [a]

/-- The memory of a leaf's page. -/
def Leaf.range (l : Leaf) : MemRange := ⟨l.pa.toNat, pageBytes l.size, l.loc, l.dev, false⟩

/-- R376: is a leaf's page inside what the partition may map? -/
def Part.allowsLeaf (p : Part) (l : Leaf) : Bool :=
  if !l.p then true
  else match l.loc.toNat with
    | 2 => true
    | 3 => p.ports.getLsbD l.dev.toNat
    | _ => (l.range.outside p.ranges).isEmpty

/-- Do two leaves share a granule of memory? -/
def Leaf.meets (a b : Leaf) : Bool :=
  a.p && b.p && a.loc == b.loc && a.dev == b.dev && decide (a.pa.toNat < b.pa.toNat + pageBytes b.size)
    && decide (b.pa.toNat < a.pa.toNat + pageBytes a.size)

/-- R376: does some leaf of a list share a granule with another, one of them writable? -/
def synonymOf (ls : List Leaf) (l : Leaf) : Bool :=
  ls.any fun x => !(x.asid == l.asid && x.size == l.size && x.va == l.va) && x.meets l && (x.w || l.w)

/-- The pages of a range. -/
def rangePages (va len : DWord) (size : Nat) : List DWord :=
  (List.range (len.toNat / pageBytes size)).map fun i => va + BitVec.ofNat 64 (i * pageBytes size)

/-- Is a leaf's page whole inside a range of an ASID? -/
def Leaf.within (l : Leaf) (asid : BitVec 16) (va len : DWord) : Bool :=
  l.asid == asid && decide (va.toNat ≤ l.va.toNat) && decide (l.va.toNat + pageBytes l.size ≤ va.toNat + len.toNat)

/-- Does a leaf's page overlap a range of an ASID? -/
def Leaf.overlaps (l : Leaf) (asid : BitVec 16) (va len : DWord) : Bool :=
  l.asid == asid && pageOverlaps l.va l.size va.toNat len.toNat

/-! ## Wipes (R386) -/

/-- A wipe of one core's local stores, barriers and allocations. -/
def State.wipeCore (s : State) (n : Nat) : State :=
  let s := s.wipe (storeKey n 0 0) 1572864
  let c := s.core n
  s.setCore { c with bars := [], allocs := [], tilePoison := 0, sieveBusy := false, sieveGrant := none, sieveQ := [] }

/-- Drop an ASID's translations. -/
def State.dropAsid (s : State) (a : Nat) : State :=
  { s with tlb := s.tlb.filter (fun e => e.leaf.asid.toNat != a), walks := s.walks.filter fun w => w.asid.toNat != a }

def State.wipeRange (s : State) (r : MemRange) : State := s.wipe (physKey r.loc r.dev r.base) r.size

/-- R349, R350: bytes of a head's history frames, or of its output ring. -/
def HeadCfg.histBytes (c : HeadCfg) (n : Nat) : Nat := (if n < 4 then 2 else c.nbuf) * (4 * c.hact * c.vact)

/-- R386: the history or output ring of a head, where its pages are mapped in the partition's memory. -/
def State.wipeHistory (s : State) (h : Head) : State :=
  let first := h.cfg.hist.toNat / 65536
  (List.range ((h.cfg.hist.toNat + h.cfg.histBytes h.num + 65535) / 65536 - first)).foldl (fun s i =>
    let lo := max h.cfg.hist.toNat (65536 * (first + i))
    let hi := min (h.cfg.hist.toNat + h.cfg.histBytes h.num) (65536 * (first + i + 1))
    match s.leaf? h.cfg.asid (BitVec.ofNat 64 lo) with
    | some l => if l.p && l.loc.toNat ≤ 1 then s.wipe (l.key (BitVec.ofNat 64 lo)) (hi - lo) else s
    | none => s) s

/-- R386: a head loses its card store, history and output ring. -/
def State.wipeHead (s : State) (n : Nat) : State :=
  let s := match s.head? n with | some h => s.wipeHistory h | none => s
  { s with heads := s.heads.filter (·.num != n) }

/-- R386, R418, R387: the wipe of the whole device: everything but the registers of the ports and what is kept in fuses
and in the hub die's non-volatile store. Memory of CXL devices, of the domain and of the hosts is not covered. -/
def State.wipeDevice (s : State) : State :=
  let outside := fun (k : Nat) => decide (2 ^ 64 ≤ k) && decide (k < 23 * 2 ^ 64)
  { s with mem := s.mem.filter (fun c => outside c.1), poison := s.poison.filter (fun l => outside (128 * l)),
           errs := s.errs.filter (fun l => outside (128 * l)), olds := [], leaves := [], busy := [], busyBy := none,
           tlb := [], walks := [],
           parts := Vector.replicate 8 none, waves := [], cores := [], launches := [], units := [], basalt := [],
           porter := [], waits := [], heldRecs := [], waitRecs := [], worlds := [], heads := [], islands := [], cur := none }

/-! ## Partition records (R367, R368) -/

/-- Read a range entry. -/
def parseRange (b : List Byte) (o : Nat) : MemRange :=
  { base := recNat b o 8, size := 65536 * recNat b (o + 8) 4, loc := BitVec.ofNat 2 (recNat b (o + 12) 1),
    dev := BitVec.ofNat 4 (recNat b (o + 13) 1), pool := recNat b (o + 14) 1 == 1 }

/-- R12, R419: bytes of memory that a location has: 768 GiB of local memory, 4 TiB behind a CXL port. -/
def locBytes (loc : Nat) : Nat := if loc = 0 then 768 * 2 ^ 30 else 4 * 2 ^ 40

/-- R367, R12: a range entry's fields. -/
def rangeOk (b : List Byte) (o : Nat) : Bool :=
  recNat b o 8 % 65536 == 0 && decide (recNat b o 8 + 65536 * recNat b (o + 8) 4 ≤ locBytes (recNat b (o + 12) 1))
    && decide (1 ≤ recNat b (o + 8) 4) && decide (recNat b (o + 12) 1 ≤ 1)
    && (if recNat b (o + 12) 1 = 1 then decide (recNat b (o + 13) 1 ≤ 3) else recNat b (o + 13) 1 == 0)
    && decide (recNat b (o + 14) 1 ≤ 1) && recZero b (o + 15) 1

/-- R367: the record at bytes 64 and the ranges at byte 320 of a PART_SET body. -/
def parsePart (b : List Byte) : Part :=
  let r := (b.drop 64).take 256
  { cpmask := BitVec.ofNat 64 (recNat r 0 8), heads := BitVec.ofNat 16 (recNat r 8 2), asidBase := recNat r 10 2,
    asidCnt := recNat r 12 2, ports := BitVec.ofNat 2 (recNat r 14 1), ways := recNat r 15 1,
    ranges := (List.range (recNat r 16 1)).map fun k => parseRange b (320 + 16 * k),
    nft := Vector.ofFn fun k => BitVec.ofNat 32 (recNat r (80 + 4 * k.val) 4), raw := r }

/-- R367, R385: the fields of a PART_SET body. -/
def partOk (b : List Byte) : Bool :=
  let r := (b.drop 64).take 256
  decide (recNat b 0 1 ≤ 7) && recZero b 1 63 && decide (1 ≤ recNat r 10 2) && decide (recNat r 10 2 + recNat r 12 2 ≤ 65536)
    && decide (recNat r 14 1 ≤ 3) && decide (1 ≤ recNat r 15 1) && decide (recNat r 15 1 ≤ 16) && decide (recNat r 16 1 ≤ 8)
    && recZero r 17 63 && recZero r 144 112 && (List.range 16).all (fun k => recNat r (80 + 4 * k) 4 / 131072 == 0)
    && (List.range 8).all fun k => if k < recNat r 16 1 then rangeOk b (320 + 16 * k) else recZero b (320 + 16 * k) 16

/-- R368: does a record share a cluster pair, head, ASID or memory byte with another? -/
def Part.shares (a b : Part) : Bool :=
  a.cpmask &&& b.cpmask != 0 || a.heads &&& b.heads != 0
    || (decide (a.asidBase < b.asidBase + b.asidCnt) && decide (b.asidBase < a.asidBase + a.asidCnt)
        && a.asidCnt != 0 && b.asidCnt != 0)
    || a.ranges.any fun x => b.ranges.any x.meets

/-- The other partitions. -/
def State.others (s : State) (p : Nat) : List Part := (s.parts.toList.zipIdx).filterMap fun x => if x.2 = p then none else x.1

/-- R368: 0x0C02. -/
def State.partOverlap (s : State) (p : Nat) (r : Part) : Bool :=
  (s.others p).any r.shares || decide (16 < r.ways + ((s.others p).map (·.ways)).sum)
    || r.ranges.any fun x => x.loc == 0 && decide (x.base < Config.reserveBase + 65536 * s.reserve)
        && decide (Config.reserveBase < x.base + x.size)

/-- Pairs, heads, ASIDs and ranges that a new record takes away. -/
def Part.lostPairs (a b : Part) : List Nat := (List.range 64).filter fun k => a.cpmask.getLsbD k && !b.cpmask.getLsbD k
def Part.lostHeads (a b : Part) : List Nat := (List.range 16).filter fun k => a.heads.getLsbD k && !b.heads.getLsbD k
def Part.lostAsid (a b : Part) (x : BitVec 16) : Bool := a.hasAsid x && !b.hasAsid x

/-- The memory that a new record no longer holds. -/
def Part.lostRanges (a b : Part) : List MemRange := a.ranges.flatMap fun r => r.outside b.ranges
def Part.newRanges (a b : Part) : List MemRange := b.lostRanges a

/-- R368: 0x0C05: on something the record takes away a wave, a world (and with it a view) or a mapping remains. -/
def State.partInUse (s : State) (a b : Part) : Bool :=
  s.waves.any (fun w => w.state != .suspended && (a.lostPairs b).contains (w.core.toNat / 16))
    || s.worlds.any (fun w => a.lostAsid b w.asid) || s.leaves.any (fun l => a.lostAsid b l.asid)
    || s.leaves.any (fun l => l.p && (a.hasAsid l.asid) && (a.lostRanges b).any l.range.meets)

/-- An empty record. -/
def Part.none : Part :=
  { cpmask := 0, heads := 0, asidBase := 1, asidCnt := 0, ports := 0, ways := 0, ranges := [], nft := Vector.replicate 16 0, raw := [] }

/-- R389: extend a measurement register with the digest of an image. -/
def State.measure (s : State) (k : Nat) (digest : BitVec 256) : State :=
  if h : k < 8 then { s with mr := s.mr.set k (Config.sha3 (leBytes (s.mr[k]).toNat 32 ++ leBytes digest.toNat 32)) h }
  else s

/-- R369: of a partition's entries in each controller's TLB the newest stay, as many as its groups hold. -/
def Part.trimTlb (p : Part) (tlb : List TlbEntry) : List TlbEntry :=
  tlb.foldl (fun kept e =>
    if p.hasAsid e.leaf.asid && decide (64 * p.ways ≤ (kept.filter fun x =>
        p.hasAsid x.leaf.asid && x.die == e.die && x.ctl == e.ctl).length) then kept
    else kept ++ [e]) []

/-- R368, R386: give a partition a record: wipe what it loses and the ranges it gains. -/
def State.setPart (s : State) (p : BitVec 3) (b : Part) : State :=
  let a := (s.part? p).getD Part.none
  let s := (a.lostPairs b).foldl (fun s k => (List.range 16).foldl (fun s i => s.wipeCore (16 * k + i)) s) s
  let s := { s with tlb := b.trimTlb (s.tlb.filter fun e => !a.lostAsid b e.leaf.asid) }
  let s := (a.lostRanges b ++ a.newRanges b).foldl State.wipeRange s
  let s := (a.lostHeads b).foldl State.wipeHead s
  { s with parts := s.parts.set p.toNat (some b) p.isLt,
           waves := s.waves.map fun w => if w.part == p then { w with refusedFit := false } else w }

/-- R386: PART_RELEASE: everything of a partition is wiped and freed. -/
def State.releasePart (s : State) (p : BitVec 3) : State :=
  match s.part? p with
  | none => s
  | some a =>
    let mine := fun (w : Nat) => (s.waves.any fun x => x.id == w && x.part == p)
    let s1 := { s with waves := s.waves.filter (fun w => w.part != p), launches := s.launches.filter (fun l => l.part != p),
                       units := s.units.filter (fun u => match s.launch? u.launch with | some l => l.part != p | none => false),
                       basalt := s.basalt.filter (fun c => !mine c.wave), porter := s.porter.filter (fun c => c.part != p),
                       waits := s.waits.filter (fun e => e.part != p), heldRecs := s.heldRecs.filter (fun r => r.part != p),
                       waitRecs := s.waitRecs.filter (fun r => r.part != p), worlds := s.worlds.filter (fun w => w.part != p),
                       leaves := s.leaves.filter (fun l => !a.hasAsid l.asid),
                       walks := s.walks.filter (fun w => !a.hasAsid w.asid) }
    let s2 := s1.setPart p Part.none
    { s2 with parts := s2.parts.set p.toNat none p.isLt }

/-! ## The mailbox (R381 to R385) -/

/-- Length of the body that each OP takes (R385); none for an undefined OP. -/
def opLength (op : Nat) : Option Nat :=
  match op with
  | 0x01 => some 448 | 0x02 => some 8 | 0x10 => some 64 | 0x11 => some 64 | 0x12 => some 64 | 0x20 => some 288 | 0x21 => some 8
  | 0x30 => some 64 | 0x40 => some 0 | 0x41 => some 32 | 0x50 => some 3744 | 0x60 => some 64 | 0x70 => some 16 | 0x71 => some 16
  | _ => none

/-- What a request does: the state, the response data, or the code that refuses it; `again` is a request not yet done. -/
inductive Reply where
  | done (s : State) (data : List Byte)
  | refused (code : BitVec 16)
  | abandoned (s : State) (code : BitVec 16)
  | again (s : State)

/-- OP of the request a port has started. -/
def Port.op (p : Port) : Nat := recNat p.mbrec 0 2

/-- LCS codes (R388). -/
def LifeCycle.code : LifeCycle → Nat
  | .manufacturing => 0
  | .provisioned => 1
  | .deployed => 2
  | .returned => 3
  | .scrapped => 4

def lifeOf : Nat → LifeCycle
  | 0 => .manufacturing
  | 1 => .provisioned
  | 2 => .deployed
  | 3 => .returned
  | _ => .scrapped

/-- R387: who may make a transition: true for Caerpin, false for the owner; none where there is no such transition. -/
def transition (a b : LifeCycle) : Option Bool :=
  match a, b with
  | .manufacturing, .provisioned => some true
  | .provisioned, .deployed => some false
  | .deployed, .provisioned => some false
  | .deployed, .returned => some true
  | .returned, .provisioned => some true
  | _, .scrapped => some false
  | _, _ => none

/-- R384: the causes that come before the fields of a body; a transition that R387 does not list is one. -/
def State.earlyCause (s : State) (p : Port) : Option (BitVec 16) :=
  let t := recNat p.mbrec 64 1
  if s.mode == 2 && p.op != 0x40 && p.op != 0x60 then some 0x0C09
  else if s.lcs == .scrapped && p.op != 0x40 then some 0x0C06
  else if p.op == 0x50 && 1 ≤ t && t ≤ 4 && (transition s.lcs (lifeOf t)).isNone then some 0x0C06
  else none

/-- R383, R385: the header. -/
def headerOk (b : List Byte) (len : Nat) : Bool := recZero b 2 2 && recZero b 8 56 && recNat b 4 4 == len

/-- R383: finish a request: response data from byte 8,192 of the record, then RESULT. -/
def State.finishRequest (s : State) (k : PortId) (code : BitVec 16) (data : List Byte) : State :=
  let p := s.port k
  let s := if data.isEmpty then s else s.post k (p.mbaddr + 8192) data
  let p := s.port k
  s.setPort k { p with mbgo := false, mbresult := code, mbstate := if code == 0 then 1 else 2 }

/-- R383, R384: the Guide, or the Nuver monitor, handles a port's request when its OP is the given one. Requests are served
one at a time: another port's waits for a migration (R412). -/
def State.request (s : State) (k : PortId) (op : Nat) (run : State → List Byte → Reply) : State :=
  let p := s.port k
  if !p.mbgo || s.mode == 0 || p.op != op || (s.busyBy.isSome && s.busyBy != some k) then s
  else match s.earlyCause p with
    | some c => s.finishRequest k c []
    | none => match opLength op with
      | none => s
      | some n =>
        if !headerOk p.mbrec n then s.finishRequest k 0x0C01 []
        else match run s (p.mbrec.drop 64) with
          | .done s d => s.finishRequest k 0 d
          | .refused c => s.finishRequest k c []
          | .abandoned s c => s.finishRequest k c []
          | .again s => s

/-- A request that no rule defines, or that carries work (R384). -/
def State.requestRefused (s : State) (k : PortId) (wanted : Nat → Bool) (code : BitVec 16) : State :=
  let p := s.port k
  if !p.mbgo || s.mode == 0 || !wanted p.op || (s.busyBy.isSome && s.busyBy != some k) then s
  else match s.earlyCause p with
    | some c => s.finishRequest k c []
    | none => s.finishRequest k code []

/-- PART_SET (R368). -/
def runPartSet (s : State) (b : List Byte) : Reply :=
  if !partOk b then .refused 0x0C01
  else
    let p := BitVec.ofNat 3 (recNat b 0 1)
    let r := parsePart b
    let old := (s.part? p).getD Part.none
    if s.partOverlap p.toNat r then .refused 0x0C02
    else if s.partInUse old r then .refused 0x0C05
    else .done ((s.setPart p r).measure 3 (Config.sha3 r.raw)) []

/-- PART_RELEASE (R386). -/
def runPartRelease (s : State) (b : List Byte) : Reply :=
  if !(decide (recNat b 0 1 ≤ 7) && recZero b 1 7) then .refused 0x0C01
  else .done (s.releasePart (BitVec.ofNat 3 (recNat b 0 1))) []

/-- The fields of a MAP, UNMAP or PROTECT body (R385). -/
structure MapBody where
  part : BitVec 3
  size : Nat
  asid : BitVec 16
  va : DWord
  len : DWord
  entry : DWord

def parseMap (b : List Byte) : MapBody :=
  ⟨BitVec.ofNat 3 (recNat b 0 1), recNat b 1 1, BitVec.ofNat 16 (recNat b 2 2), recDWord b 8, recDWord b 16, recDWord b 24⟩

/-- R385: the ranges of the fields. -/
def mapBodyOk (b : List Byte) (m : MapBody) : Bool :=
  decide (recNat b 0 1 ≤ 7) && decide (m.size ≤ 2) && recZero b 4 4 && recZero b 32 32 && m.va.toNat % pageBytes m.size == 0
    && m.len != 0 && m.len.toNat % pageBytes m.size == 0 && decide (m.va.toNat + m.len.toNat ≤ 2 ^ 52)
    && !entryBad m.entry m.size

/-- R412: copy a page to a new place: the bytes, or the code of what stopped the copy and the lines found bad. A source that
does not answer counts as an uncorrectable error: a record of kind 6 holds 0x2001 or 0x2002 (R407). -/
def State.migrate (s : State) (old new : Leaf) : Except (State × BitVec 16) State :=
  let n := pageBytes old.size
  let src := physKey old.loc old.dev old.pa.toNat
  let dst := physKey new.loc new.dev new.pa.toNat
  let bad := match s.deadFault [⟨src, n, some old⟩] with
    | some e => some e
    | none => s.lineFault ((s.errs ++ s.poison).filter fun l => decide (src ≤ 128 * l) && decide (128 * l < src + n))
  match bad with
  | some e => .error ((s.markPoison e.2).wipe dst n, if e.1 == 0x2002 then 0x2002 else 0x2001)
  | none =>
    let s := s.wipe dst n
    let moved := (s.mem.filter fun c => decide (src ≤ c.1) && decide (c.1 < src + n)).map fun c => (c.1 - src + dst, c.2)
    .ok { s with mem := moved.foldl (fun m c => Memory.set m c.1 c.2) s.mem }

/-- R385, R412: the present leaf of the same page that a new leaf moves elsewhere. -/
def State.movedBy (s : State) (l : Leaf) : Option Leaf :=
  s.leaves.find? fun x => x.asid == l.asid && x.size == l.size && x.va == l.va && x.p && l.p
    && !(x.pa == l.pa && x.loc == l.loc && x.dev == l.dev)

/-- R412, R384: copy the pages that a MAP moves, in order. What stops one abandons them all: every granule filled so far is
wiped, and the mappings stand. -/
def State.copyPages (s : State) : List (Leaf × Leaf) → Except (State × DWord × BitVec 16) State
  | [] => .ok s
  | x :: r => match s.migrate x.1 x.2 with
    | .error e => .error (e.1, x.2.va, e.2)
    | .ok s1 => match s1.copyPages r with
      | .error e => .error (e.1.wipe (physKey x.2.loc x.2.dev x.2.pa.toNat) (pageBytes x.2.size), e.2)
      | .ok s2 => .ok s2

/-- R385: the leaves a MAP makes. -/
def MapBody.leaves (m : MapBody) : List Leaf :=
  (rangePages m.va m.len m.size).zipIdx.map fun x =>
    let l := leafOf m.entry m.asid m.size x.1
    { l with pa := l.pa + BitVec.ofNat 64 (x.2 * pageBytes m.size) }

/-- R376: the leaves of a list after others took their places. -/
def replaceLeaves (ls new : List Leaf) : List Leaf :=
  new ++ ls.filter fun x => !new.any fun l => x.asid == l.asid && x.size == l.size && x.va == l.va

/-- Does a range meet a world's column region in the ASID? -/
def State.meetsRegion (s : State) (asid : BitVec 16) (va len : DWord) : Bool :=
  s.worlds.any fun w => w.asid == asid && decide (w.cbase.toNat < va.toNat + len.toNat)
    && decide (va.toNat < w.cbase.toNat + w.csize.toNat)

/-- R378, R379: the shoot-down of a request over a range; open legs that have located an access in the ASID begin again. -/
def State.shootRange (s : State) (asid : BitVec 16) (va len : DWord) : State :=
  (s.shootDown asid va.toNat len.toNat).restartLegs asid none

/-- R412: the pages of a MAP that moves some are shot down and busy. -/
def State.markBusy (s : State) (k : PortId) (m : MapBody) : State :=
  { s.shootRange m.asid m.va m.len with busy := m.leaves.map fun l => (l.asid, l.va, l.size), busyBy := some k }

/-- The migration of a MAP ends; the requests that waited for it come next (R233). -/
def State.clearBusy (s : State) : State :=
  { s with busy := [], busyBy := none, agenda := s.delayed ++ s.agenda, delayed := [] }

/-- MAP (R385, R376, R412). A MAP that moves pages first makes them busy; it is done when their copies are. -/
def runMap (k : PortId) (s : State) (b : List Byte) : Reply :=
  let m := parseMap b
  let new := m.leaves
  if !mapBodyOk b m || !m.entry.getLsbD 1 || decide (2 ^ 52 < (m.entry &&& 0x000F_FFFF_FFFF_0000).toNat + m.len.toNat)
      || new.any Leaf.illegal then .refused 0x0C01
  else match s.part? m.part with
    | none => .refused 0x0C04
    | some p =>
      if !p.hasAsid m.asid || new.any (fun l => !p.allowsLeaf l) then .refused 0x0C04
      else
        let all := replaceLeaves s.leaves new
        let moves := new.filterMap fun l => (s.movedBy l).map fun x => (x, l)
        if new.any (synonymOf all) then .refused 0x0C03
        else if s.leaves.any (fun l => l.size != m.size && l.overlaps m.asid m.va m.len)
            || (m.size != 0 && s.meetsRegion m.asid m.va m.len) then .refused 0x0C05
        else if s.shootHeld m.asid then .again s
        else if !moves.isEmpty && s.busyBy.isNone then .again (s.markBusy k m)
        else match s.copyPages moves with
          | .ok s => .done ({ s with leaves := all }.clearBusy.shootRange m.asid m.va m.len) []
          | .error (s, va, c) =>
            .abandoned (s.clearBusy.postRecord m.part 6 fun seq => recordBytes 6 c seq va 0 m.asid 0 0 0 0 0) 0x0C08

/-- UNMAP (R385, R402). -/
def runUnmap (s : State) (b : List Byte) : Reply :=
  let m := parseMap b
  let reserve := m.entry.getLsbD 1 && !m.entry.getLsbD 0
  let new := if reserve then m.leaves else []
  if !mapBodyOk b m || !(m.entry == 0 || reserve) || new.any Leaf.illegal then .refused 0x0C01
  else match s.part? m.part with
    | none => .refused 0x0C04
    | some p =>
      if !p.hasAsid m.asid then .refused 0x0C04
      else if s.shootHeld m.asid then .again s
      else
        let s1 := { s with leaves := new ++ s.leaves.filter fun (l : Leaf) => !l.within m.asid m.va m.len }
        .done (s1.shootRange m.asid m.va m.len) []

/-- PROTECT (R385). -/
def runProtect (s : State) (b : List Byte) : Reply :=
  let m := parseMap b
  let e := leafOf m.entry m.asid m.size m.va
  let change := fun (l : Leaf) => if l.p && l.within m.asid m.va m.len then
    { l with w := e.w, x := e.x, cw := e.cw, fmt := e.fmt, blk := e.blk, scl := e.scl } else l
  if !mapBodyOk b m || e.pa != 0 || e.loc != 0 || e.dev != 0 || !formatOk e.fmt e.blk e.scl then .refused 0x0C01
  else match s.part? m.part with
    | none => .refused 0x0C04
    | some p =>
      let all := s.leaves.map change
      if !p.hasAsid m.asid || all.any (fun l => l.p && l.within m.asid m.va m.len && !p.allowsLeaf l) then .refused 0x0C04
      else
        if all.any (fun l => l.p && l.within m.asid m.va m.len && synonymOf all l) then .refused 0x0C03
        else if s.shootHeld m.asid then .again s
        else
          let s1 := { s with leaves := all }
          .done (s1.shootRange m.asid m.va m.len) []

/-- WORLD_CREATE (R385). -/
def runWorldCreate (s : State) (b : List Byte) : Reply :=
  let id := BitVec.ofNat 8 (recNat b 0 1)
  let part := BitVec.ofNat 3 (recNat b 1 1)
  let asid := BitVec.ofNat 16 (recNat b 2 2)
  let base := recDWord b 8
  let size := recDWord b 16
  let esz := (List.range 256).map fun k => recNat b (32 + k) 1
  if !(decide (recNat b 1 1 ≤ 7) && recZero b 4 4 && recZero b 24 8 && base.toNat % 1073741824 == 0 && size != 0
      && size.toNat % 1073741824 == 0 && decide (base.toNat + size.toNat ≤ 2 ^ 52)
      && esz.all fun e => e == 0 || e == 1 || e == 2 || e == 4 || e == 8 || e == 16) then .refused 0x0C01
  else if !s.partHasAsid part asid then .refused 0x0C04
  else if (s.world? id).isSome || s.leaves.any (fun l => l.overlaps asid base size) || s.meetsRegion asid base size then
    .refused 0x0C05
  else
    let w : World := ⟨id, part, asid, base, size, esz, 0, 0, 0, [], [], [⟨0, [], [], 0⟩], [], 0, 0, 0, 0, 0, [], []⟩
    .done { s with worlds := s.worlds ++ [w] } []

/-- WORLD_DESTROY (R384). The engine first applies the cairns that have reached it (log entry 55). -/
def runWorldDestroy (s : State) (b : List Byte) : Reply :=
  let id := BitVec.ofNat 8 (recNat b 0 1)
  if !(decide (recNat b 1 1 ≤ 7) && recZero b 2 6) then .refused 0x0C01
  else match s.worldOf (BitVec.ofNat 3 (recNat b 1 1)) id with
    | none => .refused 0x0C04
    | some w =>
      if !w.views.isEmpty || s.launches.any (fun l => match l.query with
          | some q => q.world == id && l.state == .accepted
          | none => false) then .refused 0x0C05
      else if !w.cairns.isEmpty then .again s
      else
        let free := fun (l : Launch) => if l.query.any (·.world == id) then { l with query := none } else l
        .done { s with worlds := s.worlds.filter (·.id != id), launches := s.launches.map free } []

/-- R385: the fields of a HEAD_CONFIG body. -/
def parseHead (b : List Byte) : HeadCfg :=
  { part := BitVec.ofNat 3 (recNat b 2 1), share := recNat b 3 1, asid := BitVec.ofNat 16 (recNat b 4 2), hact := recNat b 6 2,
    vact := recNat b 8 2, vtotal := recNat b 10 2, lead := recNat b 12 1, nbuf := recNat b 13 1, lper := recNat b 16 4,
    fill := recWord b 20, staddr := recDWord b 24, hist := recDWord b 32, lanes := recNat b 40 1, rate := recNat b 41 1,
    dsc := recNat b 42 1, dscbpp := recNat b 43 1 }

/-- Payload of a lane in units of 10 kbit/s: 8b/10b up to 8.1 Gbit/s, 128b/132b above (log entry 13). -/
def lanePayload (rate : Nat) : Nat :=
  match rate with
  | 0 => 129600 | 1 => 216000 | 2 => 432000 | 3 => 648000
  | 4 => 969696 | 5 => 1309090 | _ => 1939393

/-- R385: can a physical head's link carry its raster? Bits of a line against the payload of a line period. -/
def HeadCfg.carries (c : HeadCfg) : Bool :=
  decide (c.hact * (if c.dsc = 1 then c.dscbpp else 384) * 120000 ≤ 16 * c.lanes * lanePayload c.rate * c.lper)

/-- R349, R385: the ranges of a configuration. -/
def headOk (b : List Byte) (n : Nat) (c : HeadCfg) : Bool :=
  decide (n ≤ 15) && decide (recNat b 1 1 ≤ 1) && decide (recNat b 2 1 ≤ 7) && decide (1 ≤ c.share) && decide (c.share ≤ 64)
    && decide (16 ≤ c.hact) && decide (c.hact ≤ 7680) && c.hact % 8 == 0 && decide (16 ≤ c.vact) && decide (c.vact ≤ 8192)
    && decide (c.vact + 8 ≤ c.vtotal) && decide (c.vtotal ≤ 16383) && decide (8 ≤ c.lead) && decide (c.lead ≤ 112)
    && decide (64 ≤ c.lper) && decide (c.lper ≤ 1048576) && c.staddr.toNat % 256 == 0 && c.hist.toNat % 4096 == 0
    && recZero b 14 2 && recZero b 44 20
    && (if n < 4 then c.nbuf == 0 && (c.lanes == 1 || c.lanes == 2 || c.lanes == 4) && decide (c.rate ≤ 6) && decide (c.dsc ≤ 1)
          && (if c.dsc = 1 then decide (96 ≤ c.dscbpp) else c.dscbpp == 0) && c.carries
        else decide (2 ≤ c.nbuf) && decide (c.nbuf ≤ 8) && c.lanes == 0 && c.rate == 0 && decide (c.dsc ≤ 1)
          && (if c.dsc = 1 then decide (96 ≤ c.dscbpp) else c.dscbpp == 0))

/-- HEAD_CONFIG (R349, R366). -/
def runHeadConfig (s : State) (b : List Byte) : Reply :=
  let n := recNat b 0 1
  let c := parseHead b
  let enable := recNat b 1 1 == 1
  let others := (s.heads.filter fun h => h.enabled && h.num != n).map (·.cfg.share)
  if !headOk b n c || (enable && decide (64 < c.share + others.sum)) then .refused 0x0C01
  else match s.part? c.part with
    | none => .refused 0x0C04
    | some p =>
      if !p.hasAsid c.asid || !p.heads.getLsbD n then .refused 0x0C04
      else match s.head? n with
        | some h =>
          if h.enabled then
            if !enable && c == h.cfg then .done (s.setHead h.latched.disable) [] else .refused 0x0C05
          else .done (s.setHead { Head.start n c with enabled := enable }) []
        | none => .done (s.setHead { Head.start n c with enabled := enable }) []

/-- R388: the version of the Guide firmware that runs. Log entry 77: in Nuver mode, where none runs, that of the active
slot. -/
def State.firmwareNow (s : State) : Word := if s.mode == 2 then (if s.fwSlot then s.fwB else s.fwA).version else s.fwver

/-- R388: the identity record. -/
def State.identity (s : State) : List Byte :=
  leBytes 0x0810 2 ++ [Config.step] ++ leBytes s.lcs.code 1 ++ leBytes Config.serial.toNat 8 ++ leBytes s.firmwareNow.toNat 4
    ++ leBytes (s.reserve / 16) 4 ++ leBytes s.lcNonce.toNat 32 ++ leBytes 0 12
    ++ (Config.idPub ++ leBytes 0 1312).take 1312 ++ (Config.idCert ++ leBytes 0 2420).take 2420

/-- IDENTITY (R388). -/
def runIdentity (s : State) (_ : List Byte) : Reply := .done s s.identity

/-- R390: the body of an attestation report. -/
def State.report (s : State) (nonce : List Byte) : List Byte :=
  nonce.take 32 ++ s.identity.take 64 ++ (s.mr.toList.flatMap fun m => leBytes m.toNat 32)
    ++ s.parts.toList.flatMap fun p => match p with
      | some r => leBytes (Config.sha3 r.raw).toNat 32
      | none => leBytes 0 32

/-- ATTEST (R390). -/
def runAttest (s : State) (b : List Byte) : Reply :=
  let body := s.report b
  .done s (body ++ (Config.identitySign (Config.sha3 body) ++ leBytes 0 2420).take 2420)

/-- LIFECYCLE (R387). -/
def runLifecycle (s : State) (b : List Byte) : Reply :=
  let t := recNat b 0 1
  let target := lifeOf t
  let auth := (b.drop 8).take 2420
  let pub := (b.drop 2432).take 1312
  let digest := Config.sha3 (leBytes Config.serial.toNat 8 ++ leBytes t 1 ++ leBytes s.lcNonce.toNat 32 ++ pub)
  if !(decide (1 ≤ t) && decide (t ≤ 4)) || !recZero b 1 7 || !recZero b 2428 4 then .refused 0x0C01
  else match transition s.lcs target with
    | none => .refused 0x0C06
    | some byCaerpin =>
      let installs := byCaerpin && target == .provisioned
      let signed := if byCaerpin then Config.caerpinVerify digest auth
        else match s.ownerKey with | some k => Config.ownerVerify k digest auth | none => false
      if !signed || (!installs && pub.any (· != 0)) then .refused 0x0C07
      else
        let w := s.wipeDevice
        .done { w with lcs := target, lcNonce := Config.lcNonce s.tick, tick := s.tick + 1,
                       ownerKey := if installs then some pub else s.ownerKey,
                       hasIdentity := if target == .scrapped then false else if s.lcs == .manufacturing then true else s.hasIdentity } []

/-- Read the bytes of an image from a host's memory. -/
def State.hostBytes (s : State) (k : PortId) (a : DWord) (n : Nat) : List Byte := Memory.read s.mem (hostKey k a) n

/-- R425: a firmware slot that holds an image. -/
def slotOf (img : List Byte) : FwSlot :=
  ⟨true, true, true, Vector.ofFn fun k => Config.firmwareDigest k.val img, Config.firmwareVersion img⟩

/-- FW_UPDATE (R425). -/
def runFwUpdate (k : PortId) (s : State) (b : List Byte) : Reply :=
  let n := recNat b 8 4
  if !(decide (1 ≤ n) && decide (n ≤ 67108864) && recZero b 12 52) then .refused 0x0C01
  else
    let img := s.hostBytes k (recDWord b 0) n
    if !Config.firmwareVerify img || (Config.firmwareVersion img).toNat < s.fwMin.toNat then .refused 0x0C07
    else
      let s := s.measure 4 (Config.sha3 img)
      .done { s with fwA := if s.fwSlot then slotOf img else s.fwA, fwB := if s.fwSlot then s.fwB else slotOf img,
                     fwSlot := !s.fwSlot, fails := 0 } []

/-- The launch that a SUSPEND or RESUME body names. -/
def State.namedLaunch (s : State) (b : List Byte) : Option Launch :=
  s.launches.find? fun l => l.addr == recDWord b 0 && l.asid == BitVec.ofNat 16 (recNat b 8 2)
    && l.part == BitVec.ofNat 3 (recNat b 10 1) && l.state == .accepted

def suspendBodyOk (b : List Byte) : Bool := decide (recNat b 10 1 ≤ 7) && recZero b 11 5

/-- SUSPEND (R383, R308): done once every wave of the launch is suspended. -/
def runSuspend (s : State) (b : List Byte) : Reply :=
  if !suspendBodyOk b then .refused 0x0C01
  else match s.namedLaunch b with
    | none => .refused 0x0C04
    | some l =>
      let s0 := s.setLaunch { l with held := true }
      let keep := fun (w : Wave) => if w.launch == l.id && w.state == .suspended then { w with kept := true } else w
      let s1 := { s0 with waves := s0.waves.map keep }
      let cores := ((s1.waves.filter fun w => w.launch == l.id && w.state != .suspended).map (·.core.toNat)).eraseDups
      let s2 := (if l.lr.all then cores.take 1 else cores).foldl (fun s c => s.preemptUnit l c true) s1
      if s2.waves.all fun w => w.launch != l.id || w.state == .suspended then .done s2 [] else .again s2

/-- RESUME (R383). -/
def runResume (s : State) (b : List Byte) : Reply :=
  if !suspendBodyOk b then .refused 0x0C01
  else match s.namedLaunch b with
    | none => .refused 0x0C04
    | some l =>
      let s1 := s.setLaunch { l with held := false }
      let free := fun (w : Wave) => if w.launch == l.id then { w with kept := false, refusedFit := false } else w
      .done { s1 with waves := s1.waves.map free } []

/-! ## Start-up (R389, R423, R424) -/

/-- R423: a start fails: it is counted, the other slot becomes active, and the third failure enters Nuver mode. FAILS
stops at 3 (R424). -/
def State.failStart (s : State) (reason : BitVec 8) : State :=
  let n := if s.fails < 3 then s.fails + 1 else 3
  let s := { s with booting := false, fails := n, bootReason := reason, fwSlot := !s.fwSlot, mode := 0 }
  if n == 3 then { s.measure 1 Config.nuverDigest with mode := 2 } else s

/-- R389, R423: the boot ROM verifies and measures the stages of the active slot and starts the Guide. The Guide's image is
measured as it is to run, once the stages are verified (log entry 60). -/
def State.boot (s : State) (training clean : Bool) : State :=
  if !s.booting then s
  else
    let f := if s.fwSlot then s.fwB else s.fwA
    if !f.loader then s.failStart 1
    else
      let s := s.measure 0 f.digests[0]
      if !clean then s.failStart 6
      else if !training then s.failStart 5
      else if !f.guide then s.failStart 2
      else
        if !f.ucode then s.failStart 3
        else { (s.measure 1 f.digests[1]).measure 2 f.digests[2] with booting := false, mode := 1, fails := 0, fwver := f.version }

/-- R418, R386: a device reset: everything returns to its reset value, but for what non-volatile stores keep and for
memory outside the package. -/
def State.deviceReset (s : State) : State :=
  let w := s.wipeDevice
  { State.reset with
    mem := w.mem, poison := w.poison, errs := w.errs, fwSlot := s.fwSlot, fails := s.fails, bootReason := s.bootReason,
    fwA := s.fwA, fwB := s.fwB, fwMin := s.fwMin, lcs := s.lcs, ownerKey := s.ownerKey, lcNonce := s.lcNonce,
    hasIdentity := s.hasIdentity, routes := s.routes, exports := s.exports, imports := s.imports, agenda := s.agenda, tick := s.tick,
    turn := s.turn }

end Sys2Proof.Machine
end

