-- ==== Sys2Proof/Machine/Host.lean ====
section
/-! DEFINITION. The ports' registers, root launches, wakes, inbound accesses, links and power (spec/15_scheduling.md R304;
spec/19_isolation.md R382; spec/20_recovery.md R400, R405, R406, R408; spec/21_host.md R414 to R422). -/

namespace Sys2Proof.Machine

/-! ## Wakes (R400, R405) -/

/-- Does a wake of a key reach an entry? A page key wakes entries of its ASID, a token those of its partition. -/
def WaitEntry.hears (e : WaitEntry) (key : DWord) (asid : BitVec 16) (part : BitVec 3) : Bool :=
  if key.getLsbD 63 then e.key == key && e.part == part
  else !e.key.getLsbD 63 && e.asid == asid && e.key >>> 16 == key >>> 16

/-- A wake reaches one entry's path: a path parked by a double fault replays; a TRAP in its handler may commit. -/
def State.wakeEntry (s : State) (e : WaitEntry) (status : Word) : State :=
  match s.wave? e.wave with
  | none => s
  | some w =>
    let x := w.slot e.slot
    if x.dead then s.setWave (w.setSlot e.slot { x with dead := false, frame := { x.frame with waiting := false } })
    else s.setWave (w.setSlot e.slot { x with frame := { x.frame with wakest := status, woken := true } })

/-- R400, R405: wake every path under a key, and every overflow entry of the ASID with status 0xFFFF_FFFF; the number of
paths woken, a stopped cairn counting as one. -/
def State.wakeKey (s : State) (key : DWord) (asid : BitVec 16) (part : BitVec 3) (status : Word) : State × Nat :=
  let hit := fun (e : WaitEntry) => (e.overflow && e.asid == asid) || e.hears key asid part
  let es := s.waits.filter hit
  let s1 := { s with waits := s.waits.filter fun e => !hit e }
  let s2 := es.foldl (fun s e => s.wakeEntry e (if e.overflow && e.asid == asid then 0xFFFF_FFFF else status)) s1
  match (if key.getLsbD 63 then s2.wakeCairn part key else none) with
  | some s3 => (s3, es.length + 1)
  | none => (s2, es.length)

/-! ## Root launches (R304, R302) -/

/-- R304: the Guide takes a port's root launch. The first matching reason of R302 counts, so the record is read before the
port's grants are looked at. -/
def State.rootLaunch (s : State) (k : PortId) : State :=
  let p := s.port k
  let finish := fun (s : State) (reason : BitVec 16) =>
    let p := s.port k
    s.setPort k { p with rlgo := false, rlreason := if reason == 0 then p.rlreason else reason,
                         rlstate := if reason == 0 then 1 else 2 }
  if p.rladdr.toNat % 64 != 0 || !isGlobal p.rladdr then finish s 9
  else match s.readRecord p.rlasid p.rladdr 256 with
    | none => finish s 9
    | some b =>
      let r := parseLaunch b
      let x := s.acceptLaunch p.rlasid p.rlpart (r.view || r.qrec != 0)
        (s.portAllowed k p.rlpart && s.partHasAsid p.rlpart p.rlasid) none p.rladdr
      finish x.1 x.2

/-- R304, R423: a write of RLCTL. While GO reads 1 it is ignored, and so is GO in Nuver mode. GO waits until the Guide takes
the launch in the partition's turn (R17). -/
def State.writeRlctl (s : State) (k : PortId) (v : Word) : State :=
  let p := s.port k
  if p.rlgo then s
  else s.setPort k { p with rlasid := v.extractLsb' 16 16, rlpart := v.extractLsb' 0 3, rlgo := v.getLsbD 3 && s.mode != 2 }

/-! ## Semaphore (R381, R382) -/

/-- The number OWNER holds for a port. -/
def ownerCode (k : PortId) : BitVec 2 := match k with | .p0 => 1 | .p1 => 2

/-- R382: a read of the semaphore register makes its reader the owner of a free semaphore. -/
def State.takeSemaphore (s : State) (k : PortId) : State := if s.owner == 0 then { s with owner := ownerCode k } else s

/-- R382: a write of HELD. -/
def State.dropSemaphore (s : State) (k : PortId) : State := if s.owner == ownerCode k then { s with owner := 0 } else s

/-- R383: the request record is read when GO is written: its header and body. -/
def State.writeMbctl (s : State) (k : PortId) (v : Word) : State :=
  let p := s.port k
  if s.owner != ownerCode k || p.mbgo || !v.getLsbD 3 then s
  else s.setPort k { p with mbgo := true, mbrec := s.hostBytes k p.mbaddr 8192 }

/-! ## Replay registers (R408) -/

/-- R408: a write of the register at 0x188. -/
def State.portReplay (s : State) (k : PortId) (v : DWord) : State :=
  let p := s.port k
  let part := v.extractLsb' 0 3
  let asid := v.extractLsb' 16 16
  if p.rpgo then s
  else
    let s := s.setPort k { p with rpstat := v.hi, rpasid := asid, rppart := part }
    if v.getLsbD 3 && s.portAllowed k part && s.partHasAsid part asid then (s.wakeKey p.rpkey asid part v.hi).1 else s

/-! ## Fault queues (R406) -/

/-- R406: write the held records of a partition that find room, in order; then waiting ones take held places. -/
def State.flushQueue (s : State) (p : BitVec 3) : Nat → State
  | 0 => s
  | n + 1 =>
    if !(s.port (s.recPort p)).room p then s
    else match s.heldRecs.find? (·.part == p) with
      | none => s
      | some r =>
        let rest := s.heldRecs.erase r
        let s1 := match s.waitRecs.find? (·.part == p) with
          | some x => { s with heldRecs := rest ++ [x], waitRecs := s.waitRecs.erase x }
          | none => { s with heldRecs := rest }
        (s1.writeRecord r).flushQueue p n

/-- Change one fault queue of a port. -/
def Port.setQueue (p : Port) (i : BitVec 3) (f : FaultQueue → FaultQueue) : Port :=
  { p with fq := p.fq.set i.toNat (f (p.fq[i.toNat]'i.isLt)) i.isLt }

/-! ## Register writes (R8, R415) -/

/-- R417: CTO as it acts: values outside the range act as the nearer limit. -/
def Port.timeout (p : Port) : Nat := max 1000 (min 1000000 p.cto.toNat)

/-- A write of 8 bytes to a port's BAR0 register space. Offsets that hold no register ignore it (R415). -/
def State.writeReg (s : State) (k : PortId) (off : BitVec 16) (v : DWord) : State :=
  let p := s.port k
  let o := off.toNat
  let own := s.owner == ownerCode k
  if o = 0x000 then (if p.rlgo then s else s.setPort k { p with rladdr := v })
  else if o = 0x008 then s.writeRlctl k v.lo
  else if o = 0x100 then (if v.getLsbD 8 then s.dropSemaphore k else s)
  else if o = 0x108 then (if own && !p.mbgo then s.setPort k { p with mbaddr := v } else s)
  else if o = 0x110 then s.writeMbctl k v.lo
  else if o = 0x180 then (if p.rpgo then s else s.setPort k { p with rpkey := v })
  else if o = 0x188 then s.portReplay k v
  else if 0x200 ≤ o && o < 0x300 then
    let i := BitVec.ofNat 3 ((o - 0x200) / 32)
    if !s.portAllowed k i then s
    else match (o - 0x200) % 32 with
      | 0x00 => s.setPort k (p.setQueue i fun q => { q with addr := v })
      | 0x08 => s.setPort k (p.setQueue i fun q => { q with size := v.lo })
      | 0x10 => s.setPort k (p.setQueue i fun q => { q with tail := v.hi })
      | 0x14 => s.setPort k (p.setQueue i fun q => { q with tail := v.lo })
      | _ => s
  else if o = 0x300 then s.setPort k { p with cto := v.extractLsb' 0 20, pwerr := p.pwerr &&& ~~~v.hi }
  else if o = 0x304 then s.setPort k { p with pwerr := p.pwerr &&& ~~~v.lo }
  else if o = 0x408 then (if own then { s with plimit := v.hi } else s)
  else if o = 0x40C then (if own then { s with plimit := v.lo } else s)
  else if h : 0x800 ≤ o ∧ o < 0x900 then
    let i : Fin 16 := ⟨(o - 0x800) / 16, by omega⟩
    let w := p.win[i]
    if !own then s
    else match (o - 0x800) % 16 with
      | 0 => s.setPort k { p with win := p.win.set i { w with asid := v.extractLsb' 16 16, en := v.getLsbD 0 } }
      | 8 => s.setPort k { p with win := p.win.set i { w with vabase := v } }
      | _ => s
  else s

/-! ## Register reads (R8, R415) -/

/-- A register word from its fields, each with the place of its lowest bit. -/
def regFields (fs : List (Nat × Nat)) : Word := BitVec.ofNat 32 ((fs.map fun f => f.2 * 2 ^ f.1).sum)

/-- R8, R415: the word that a host reads at an offset of a port's BAR0, a multiple of 4: Reserved bits and offsets that hold no
register read zero. -/
def State.regWord (s : State) (k : PortId) (o : Nat) : Word :=
  let p := s.port k
  let bit := fun (b : Bool) => if b then 1 else 0
  if o = 0x000 then p.rladdr.lo
  else if o = 0x004 then p.rladdr.hi
  else if o = 0x008 then regFields [(16, p.rlasid.toNat), (3, bit p.rlgo), (0, p.rlpart.toNat)]
  else if o = 0x00C then regFields [(8, p.rlreason.toNat), (0, p.rlstate.toNat)]
  else if o = 0x040 then regFields [(16, s.bootReason.toNat), (8, s.fails.toNat), (2, bit s.fwSlot), (0, s.mode.toNat)]
  else if o = 0x100 then regFields [(8, bit (s.owner == ownerCode k)), (0, s.owner.toNat)]
  else if o = 0x108 then p.mbaddr.lo
  else if o = 0x10C then p.mbaddr.hi
  else if o = 0x110 then regFields [(8, p.mbresult.toNat), (3, bit p.mbgo), (0, p.mbstate.toNat)]
  else if o = 0x180 then p.rpkey.lo
  else if o = 0x184 then p.rpkey.hi
  else if o = 0x188 then regFields [(16, p.rpasid.toNat), (3, bit p.rpgo), (0, p.rppart.toNat)]
  else if o = 0x18C then p.rpstat
  else if 0x200 ≤ o ∧ o < 0x300 then
    let q := p.fq.getD ((o - 0x200) / 32) FaultQueue.reset
    match (o - 0x200) % 32 with
    | 0x00 => q.addr.lo
    | 0x04 => q.addr.hi
    | 0x08 => q.size
    | 0x0C => q.lost
    | 0x10 => q.head
    | 0x14 => q.tail
    | _ => 0
  else if o = 0x300 then regFields [(0, p.cto.toNat)]
  else if o = 0x304 then p.pwerr
  else if o = 0x308 then p.pwaddr.lo
  else if o = 0x30C then p.pwaddr.hi
  else if o = 0x404 then regFields [(16, s.tmax.toNat)]
  else if o = 0x408 then s.pnow
  else if o = 0x40C then s.plimit
  else if 0x410 ≤ o ∧ o < 0x420 ∧ o % 4 = 0 then
    regFields [(16, (s.throt.getD ((o - 0x410) / 2 + 1) 0).toNat), (0, (s.throt.getD ((o - 0x410) / 2) 0).toNat)]
  else if 0x800 ≤ o ∧ o < 0x900 then
    let w := p.win.getD ((o - 0x800) / 16) Aperture.reset
    match (o - 0x800) % 16 with
    | 0 => regFields [(16, w.asid.toNat), (0, bit w.en)]
    | 8 => w.vabase.lo
    | 12 => w.vabase.hi
    | _ => 0
  else 0

def State.setAnswer (s : State) (k : PortId) (a : Answer) : State :=
  let p := s.port k
  s.setPort k { p with answer := a }

/-- R415, R382: a host's read of 8 bytes of BAR0, its value the port's answer; a read of the semaphore may acquire it, and
shows the new owner. -/
def State.readReg (s : State) (k : PortId) (off : BitVec 16) : State :=
  let o := off.toNat / 8 * 8
  let s := if o = 0x100 then s.takeSemaphore k else s
  s.setAnswer k (.data (leBytes (s.regWord k o).toNat 4 ++ leBytes (s.regWord k (o + 4)).toNat 4))

/-! ## Inbound accesses (R416) -/

/-- The window and virtual address of a BAR2 offset; none when the window refuses. -/
def State.apertureAddr (s : State) (k : PortId) (off : BitVec 40) : Option (BitVec 16 × DWord) :=
  let i : Fin 16 := ⟨off.toNat / 2 ^ 36, by have := off.isLt; omega⟩
  let w := (s.port k).win[i]
  let ok := (List.range 8).any fun p => s.portAllowed k (BitVec.ofNat 3 p) && s.partHasAsid (BitVec.ofNat 3 p) w.asid
  if w.en && ok then some (w.asid, (w.vabase &&& 0x000F_FFF0_0000_0000) + BitVec.ofNat 64 (off.toNat % 2 ^ 36)) else none

/-- R416, R419: the byte an inbound access reaches, or a Completer Abort with the lines that it leaves poisoned. -/
def State.inboundByte (s : State) (asid : BitVec 16) (va : DWord) (u : Use) : Except (List Nat) Piece :=
  match s.translate asid va 1 u with
  | .error _ => .error []
  | .ok p =>
    if (match p.leaf with | some l => decide (2 ≤ l.loc.toNat) | none => false) then .error []
    else match s.deadFault [p] with
      | some e => .error e.2
      | none => .ok p

/-- The bytes of an inbound access, or its abort. -/
def State.inboundBytes (s : State) (asid : BitVec 16) (va : DWord) (u : Use) : Nat → Except (List Nat) (List Piece)
  | 0 => .ok []
  | n + 1 => match s.inboundByte asid va u, s.inboundBytes asid (va + 1) u n with
    | .ok p, .ok r => .ok (p :: r)
    | .error a, .error b => .error (a ++ b)
    | .error a, _ => .error a
    | _, .error b => .error b

/-- R416: an inbound read or write. -/
def State.inbound (s : State) (k : PortId) (r : InboundReq) : State :=
  let off := match r with | .read o _ => o | .write o _ => o
  match s.apertureAddr k off with
  | none => s.setAnswer k .unsupported
  | some (asid, va) =>
    match r with
    | .read _ n =>
      match s.inboundBytes asid va .read n with
      | .error ls => (s.markPoison ls).setAnswer k .abort
      | .ok ps => match s.lineFault (pieceLines ps) with
        | some e => (s.markPoison e.2).setAnswer k .abort
        | none => s.setAnswer k (.data (readPieces s.mem ps))
    | .write _ b =>
      match s.inboundBytes asid va .write b.length with
      | .error ls => (s.markPoison ls).setAnswer k .abort
      | .ok ps => { s with mem := writePieces s.mem ps b }.setAnswer k .none

/-- R414, R416: an inbound AtomicOp: it answers with the old value. -/
def State.inboundAtomic (s : State) (k : PortId) (r : InboundAtomic) : State :=
  let legal := match r.op with
    | .cas => r.width == 4 || r.width == 8 || r.width == 16
    | _ => r.width == 4 || r.width == 8
  match s.apertureAddr k r.off with
  | none => s.setAnswer k .unsupported
  | some (asid, va) =>
    if !legal || va.toNat % r.width != 0 then s.setAnswer k .abort
    else match s.inboundBytes asid va .write r.width with
      | .error ls => (s.markPoison ls).setAnswer k .abort
      | .ok ps => match s.lineFault (pieceLines ps) with
        | some e => (s.markPoison e.2).setAnswer k .abort
        | none =>
          let old := leNat (readPieces s.mem ps)
          let n := 2 ^ (8 * r.width)
          let new := match r.op with
            | .fetchAdd => (old + r.operand.toNat) % n
            | .swap => r.operand.toNat % n
            | .cas => if old = r.compare.toNat % n then r.operand.toNat % n else old
          { s with mem := writePieces s.mem ps (leBytes new r.width) }.setAnswer k (.data (leBytes old r.width))

/-! ## Links (R417 to R420) -/

/-- R417: a posted write fails at its host. A fault record is performed before FQHEAD passes it (R406), so it does not. -/
def State.failPosted (s : State) (k : PortId) (a : DWord) : State :=
  let p := s.port k
  match p.posted.find? (fun x => x.addr == a && x.fq.isNone) with
  | none => s
  | some x => s.setPort k ({ p with posted := p.posted.erase x }.failWrite a)

/-- R418: a port's registers return to reset; its unsent posted writes are dropped and counted. A request already
started runs to its end (R382). -/
def State.resetPort (s : State) (k : PortId) (up : Bool) : State :=
  let p := p' k
  let p := p.posted.foldl (fun p x => p.failWrite x.addr) p
  let s := if s.owner == ownerCode k then { s with owner := 0 } else s
  s.setPort k { Port.reset with pwaddr := p.pwaddr, pwerr := p.pwerr, linkUp := up,
                                mbgo := p.mbgo, mbrec := p.mbrec, mbaddr := if p.mbgo then p.mbaddr else 0 }
where p' (k : PortId) : Port := s.port k

/-- R172: the tiles of a core that a line of its operand banks belongs to. -/
def Core.tilesOn (c : Core) (line : Nat) : List Tile :=
  (((List.range 128).map fun i => Tile.o (BitVec.ofNat 7 i)) ++ (List.range 16).map fun i => Tile.z (BitVec.ofNat 4 i)).filter
    fun t => (pieceLines (tilePieces c (tileSpan t).1 (tileSpan t).2)).contains line

/-- R172: an error in a tile's banks poisons the tile. -/
def Core.spoil (c : Core) (line : Nat) : Core :=
  { c with tilePoison := (c.tilesOn line).foldl (fun b t => b ||| BitVec.ofNat 144 (2 ^ tileBit t)) c.tilePoison }

/-- An uncorrectable error arises in a line that holds none (R411, R419). -/
def State.errorAt (s : State) (key : Nat) : State :=
  if s.damaged (lineOf key) then s else { s with errs := lineOf key :: s.errs }

/-- An uncorrectable error arises in any memory, the operand banks of a core included (R411, R172). -/
def State.lineError (s : State) (key : Nat) : State :=
  if s.cores.any fun c => !(c.tilesOn (lineOf key)).isEmpty then { s with cores := s.cores.map (·.spoil (lineOf key)) }
  else s.errorAt key

/-! ## Power (R421, R422) -/

/-- The step of an island. -/
def State.island (s : State) (i : Nat) : Nat := ((s.islands.find? (·.1 == i)).map (·.2)).getD 24

/-- Lower islands one step. -/
def State.lower (s : State) (is : List Nat) : State :=
  { s with islands := (is.map fun i => (i, s.island i - 1)) ++ s.islands.filter fun x => !is.contains x.1 }

/-- The islands of a partition: two cores each. -/
def Part.islands (p : Part) : List Nat := (p.cores.map (· / 2)).eraseDups

/-- R421: THROT of a partition. -/
def State.countThrottle (s : State) (p : BitVec 3) : State :=
  let t := s.throt[p.toNat]'p.isLt
  { s with throt := s.throt.set p.toNat (if t == 0xFFFF then t else t + 1) p.isLt }

/-- R421: PLIMIT as it acts: values outside the range act as the nearer limit. -/
def State.powerLimit (s : State) : Nat := max 600000 (min 2400000 s.plimit.toNat)

/-- R422: a partition's share, in mW, of what the fixed allowance leaves of the limit. -/
def State.powerShare (s : State) (p : Part) : Nat :=
  (s.powerLimit - 480000) * p.ways / max 1 (s.parts.toList.map fun x => match x with | some r => r.ways | none => 0).sum

/-- R17: the voltage of an island; until the Guide sets one, the model's own number (log entry 9). -/
def State.voltage (s : State) (i : Nat) : Nat := ((s.volts.find? (·.1 == i)).map (·.2)).getD 0

/-- R17, R421: the Guide chooses an island's clock step, 0.4 to 1.0 GHz, and its voltage. -/
def State.setClock (s : State) (island step volt : Nat) : State :=
  if island < 512 ∧ step ≤ 24 then
    { s with islands := (island, step) :: s.islands.filter (·.1 != island),
             volts := (island, volt) :: s.volts.filter (·.1 != island) }
  else s

/-- R421: the package's power and its hottest junction are reported; at 100 °C R422 acts. -/
def State.sense (s : State) (pnow : Word) (tmax : BitVec 16) : State :=
  if tmax.toNat < 1600 then { s with pnow := pnow, tmax := tmax } else { s with pnow := pnow }

/-- R422: a partition whose islands' power, in mW, exceeds their share is lowered one step. -/
def State.throttle (s : State) (p : BitVec 3) (power : Word) : State :=
  match s.part? p with
  | none => s
  | some r =>
    if power.toNat ≤ s.powerShare r then s
    else if r.islands.all fun i => s.island i == 0 then s else (s.lower r.islands).countThrottle p

/-- R422: at 100 °C every island is lowered together; a partition of which some island was lowered counts it. -/
def State.thermal (s : State) (tmax : BitVec 16) : State :=
  if tmax.toNat < 1600 then s
  else
    let s := { s with tmax := tmax }
    let hit := fun (p : BitVec 3) => match s.part? p with | some r => r.islands.any fun i => s.island i != 0 | none => false
    (((List.range 8).map (BitVec.ofNat 3)).filter hit).foldl State.countThrottle (s.lower (List.range 512))

/-- R422, R423: at 110 °C the islands stop, the start counts as failed with reason 0x08, and the device resets. -/
def State.thermalStop (s : State) (tmax : BitVec 16) : State :=
  if tmax.toNat < 1760 then s
  else
    let f := s.failStart 8
    let r := f.deviceReset
    if f.mode == 2 then { r.measure 1 Config.nuverDigest with booting := false, mode := 2 } else r

end Sys2Proof.Machine
end

