-- ==== Sys2Proof/Machine/Turns.lean ====
section
/-! DEFINITION. The Guide's rotation (spec/01_machine.md R17): the management, launch and fault work that each partition has
for the Guide, and the partition whose turn it is. -/

namespace Sys2Proof.Machine

/-- R17, R385: the partition that a mailbox request is for; none for the requests of the package. -/
def Port.mailPart (p : Port) : Option (BitVec 3) :=
  let at_ := fun (o : Nat) => some (BitVec.ofNat 3 (recNat p.mbrec (64 + o) 1))
  match p.op with
  | 0x01 | 0x02 | 0x10 | 0x11 | 0x12 => at_ 0
  | 0x20 | 0x21 => at_ 1
  | 0x30 => at_ 2
  | 0x70 | 0x71 => at_ 10
  | _ => none

/-- R383, R412: may the Guide serve a port's request now? -/
def State.mailOpen (s : State) (k : PortId) : Bool :=
  (s.port k).mbgo && s.mode != 0 && (s.busyBy.isNone || s.busyBy == some k)

/-- R339: does a leg at its marker hand a launch record to the Guide? -/
def Leg.launches (l : Leg) : Bool := l.parked && (match l.closing with | some (.launch _ _ _) => true | _ => false)

/-- R339: a wave's slots whose legs do. -/
def Wave.launchSlots (w : Wave) : List SlotId :=
  if w.state == .suspended then []
  else [SlotId.s0, SlotId.s1].filter fun k => (w.slot k).leg.any Leg.launches

/-- A core for a suspended wave: the first of its partition that its unit fits, else its own (R305, R313). -/
def State.rebindCore (s : State) (w : Wave) : Nat :=
  match s.savedUnit w.id, s.launch? w.launch, s.part? w.part with
  | some u, some l, some p =>
    (p.cores.find? fun c => (s.seatUnits l w.quad.toNat true (s.rebindPlan l u [c] p.cores)).isSome).getD w.core.toNat
  | _, _, _ => w.core.toNat

/-- The Guide's work of a partition: its requests (R383) and root launches (R304), the launches of its waves (R339), its
placements (R305 to R308, R312, R313) and its fault queue (R406). -/
def State.partMoves (s : State) (p : BitVec 3) : List Move :=
  let next := s.nextWaiting p
  ([PortId.p0, PortId.p1].filter fun k => s.mailOpen k && (s.port k).mailPart == some p).map (fun k => Move.own (.mail k))
    ++ ([PortId.p0, PortId.p1].filter fun k => (s.port k).rlgo && s.mode == 1 && s.busyBy.isNone && (s.port k).rlpart == p).map
        (fun k => .own (.root k))
    ++ ((s.waves.filter (·.part == p)).flatMap fun w => w.launchSlots.map fun k => .own (.commit w.id k))
    ++ ((s.waves.filter fun w => w.part == p && s.awaitsRebind w && (next == some (.wave w.id) || !s.rebindFits w)).map
      fun w => .own (.rebind w.id (s.rebindCore w) w.quad))
    ++ ((s.launches.filter (·.part == p)).flatMap fun l =>
      (((s.waves.filter fun w => w.launch == l.id && w.state != .suspended).map (·.core)).eraseDups.filter
        fun c => (s.unitOf l c.toNat).any (·.state == .suspending) || s.preemptWanted l c.toNat).map
          fun c => .own (.preempt l.id c))
    ++ (s.launches.flatMap fun l =>
      if l.part == p && next == some (.launch l.id) then
        match s.placesOf l with
        | x :: _ => [.own (.bind x.1 x.2)]
        | [] => []
      else [])
    ++ (if s.heldRecs.any (·.part == p) && (s.port (s.recPort p)).room p then [.own (.flush p)] else [])

/-- R17: the partition whose turn it is: the next with work. -/
def State.guideTurn (s : State) : Option (BitVec 3) :=
  ((List.range 8).map fun i => s.guideLast + 1 + BitVec.ofNat 3 i).find? fun p => !(s.partMoves p).isEmpty

/-- R17: the Guide takes the partitions' work in a fixed rotation, one item per partition in turn. -/
def State.guideMoves (s : State) : List Move := (s.guideTurn.map s.partMoves).getD []

/-- R17: may the Guide take an item of a partition's work now? -/
def State.guideFree (s : State) (p : BitVec 3) : Bool :=
  match s.guideTurn with
  | none => true
  | some q => q == p

/-- R17: the partition of a wave's launch that its slot hands to the Guide. -/
def State.launchPart (s : State) (id : Nat) (k : SlotId) : Option (BitVec 3) :=
  (s.wave? id).bind fun w => if w.launchSlots.contains k then some w.part else none

/-- R17: the partition whose work a move of the Guide is. -/
def State.guideWork (s : State) : OwnMove → Option (BitVec 3)
  | .mail k => (s.port k).mailPart
  | .root k => some (s.port k).rlpart
  | .commit w k => s.launchPart w k
  | .rebind w _ _ => (s.wave? w).map (·.part)
  | .preempt l _ => (s.launch? l).map (·.part)
  | .bind c q => (s.nextLaunch c q).map (·.part)
  | .flush p => some p
  | _ => none

/-- R17: the partition whose work an event of the table is. -/
def State.guideEvent (s : State) : Instr → Option (BitVec 3)
  | .partSet k | .partRelease k | .map k | .unmap k | .protect k | .worldCreate k | .worldDestroy k | .headConfig k
  | .suspend k | .resume k => s.guideWork (.mail k)
  | .legCommit w k => s.guideWork (.commit w k)
  | .waveRebind w _ _ => (s.wave? w).map (·.part)
  | .wavePreempt l _ => (s.launch? l).map (·.part)
  | .waveBind c q => s.guideWork (.bind c.toNat q.toNat)
  | .faultQueueFlush p => some p
  | _ => none

/-- R17: the Guide has taken an item of a partition's work. -/
def tookTurn (p : Option (BitVec 3)) (r : Host.Outcome State Fault Refusal) : Host.Outcome State Fault Refusal :=
  match p, r with
  | some q, .next t => .next { t with guideLast := q }
  | _, _ => r

end Sys2Proof.Machine
end

