-- ==== Sys2Proof/Machine/Commit.lean ====
section
/-! DEFINITION. Legs (spec/02_wave_state.md R36 to R40): what stands before a leg, how an instruction issues into its leg,
what a leg finds at its marker, and its commit. -/

namespace Sys2Proof.Machine

/-! ## Faults due after a leg (R391) -/

/-- R391, R410, R297, R398: mask and FADDR of the due fault of a DEFER bit. -/
def Slot.dueTrap (x : Slot) (p : Path) (n : Nat) : Trap :=
  match n with
  | 4 => { code := 0x4003, addr := x.qaddr, mask := p.e }
  | 5 | 6 | 7 => { code := deferCode n, addr := p.pc, mask := p.e }
  | 8 => { code := 0xA000 + x.frame.swcode.zeroExtend 16, addr := x.swaddr, mask := p.e }
  | _ => { code := deferCode n, addr := x.frame.daddr, mask := x.frame.dmask }

/-- R391, R395: deliver the lowest fault due after the slot's last leg; none when none is due. While the other slot is in
its handler the fault stays and the slot waits. -/
def State.deliverDue (s : State) (w : Wave) (k : SlotId) (p : Path) : Option State :=
  let x := w.slot k
  match lowestDefer x.frame.defer with
  | none => none
  | some n =>
    if (w.slot k.other).inHandler then some (s.setWave (w.setSlot k { x with held := true }))
    else
      let f := { x.frame with defer := x.frame.defer &&& ~~~deferBit n,
                              dmask := if n = 0 then x.hmask else x.frame.dmask,
                              daddr := if n = 0 then x.haddr else x.frame.daddr }
      let w := w.setSlot k { x with frame := f, sup := x.sup &&& ~~~deferBit n }
      let w := if n = 4 then { w with regs := { w.regs with qabt := x.qtag } } else w
      some (s.takeFault w k { x.dueTrap p n with sup := some (x.sup &&& deferBit n != 0) } p.pc)

/-! ## Before a leg -/

/-- The slot's next instruction waits (R309). -/
def Wave.waits (w : Wave) (k : SlotId) (x : SlotWait) : Wave := w.setSlot k { w.slot k with wait := some x }

/-- R317, R326: the Hamper fills the path's working set before its first leg issues; a fault that stops it surfaces here
(R327). -/
def State.fillPath (s : State) (w : Wave) (k : SlotId) (p : Path) : Except State (State × Wave) :=
  match s.fillSet w p.dep.toNat 0 with
  | .ok x => .ok x
  | .error (.hamper s w) => .error (s.reportHamper w k p)
  | .error (.room n _ _) => .error (s.setWave (w.waits k (.room n)))
  | .error (.fault c a ls) =>
    .error (s.takeFault w k { code := c, addr := if c == 0x0301 then p.pc else a, mask := p.e, poison := ls } p.pc)

/-- R119, R327: before the first leg of a rebound wave whose image has not been read, the Hamper reads it. No leg issues until
it has, but that of a handler. -/
def State.imageGate (s : State) (w : Wave) (k : SlotId) (p : Path) : State :=
  let x := s.hamperGate w
  match x.2.hamper with
  | some h => if h.reported then x.1.setWave x.2 else x.1.reportHamper x.2 k p
  | none => match x.1.loadImage x.2 with
    | .ok y => y.1
    | .error (.stop e) => let y := x.1.stopHamper x.2 .image e; y.1.reportHamper y.2 k p
    | .error (.fault c a ls) =>
      x.1.takeFault x.2 k { code := c, addr := if c == 0x0301 then p.pc else a, mask := p.e, poison := ls } p.pc

/-- R327, R317: a stopped Hamper access surfaces, or goes on once its handler has returned, and the path's working set is
filled. While the handler runs there are no fills: the handler's legs issue, and those of a path that needs none. -/
def State.hamperBoundary (s : State) (w : Wave) (k : SlotId) (p : Path) : Except State (State × Wave) :=
  let x := s.hamperGate w
  match x.2.hamper with
  | none => x.1.fillPath x.2 k p
  | some h =>
    if !h.reported then .error (x.1.reportHamper x.2 k p)
    else if (x.2.slot k).inHandler || (x.2.missing p.dep.toNat).isEmpty then .ok x
    else .error (x.1.setWave x.2)

/-- R391, R327, R317: what comes before a slot's next leg: the image of a rebound wave, a fault that is due, a stopped Hamper
access, the fills. An error is the state in which no leg issues. -/
def State.boundary (s : State) (w : Wave) (k : SlotId) (p : Path) : Except State (State × Wave) :=
  if w.unread && !(w.slot k).inHandler then .error (s.imageGate w k p)
  else match s.deliverDue w k p with
    | some s' => .error s'
    | none => s.hamperBoundary w k p

/-- What exec finds when a slot is to issue: no slot to issue from; a state in which the instruction does not issue; or
the leg it issues into. -/
inductive Begin where
  | stop
  | hold (s : State)
  | leg (c : Ctx)

/-- May the slot issue: it holds a path, is not parked, and its wave is bound (R23, R312, R395, R396)? -/
def Wave.issues (w : Wave) (k : SlotId) : Bool :=
  !(w.slot k).held && !(w.slot k).dead && (w.state == .bound || w.state == .running)
    && (match (w.slot k).leg with | some leg => !leg.parked | none => true)

/-- The leg that the current slot's next instruction belongs to. -/
def State.begin (s : State) : Begin :=
  match s.cur with
  | none => .stop
  | some (id, k) => match s.wave? id with
    | none => .stop
    | some w => match (w.slot k).path with
      | none => .stop
      | some p =>
        if !w.issues k then .stop
        else match (w.slot k).leg with
          | some leg => .leg ⟨s, w, k, p, leg, leg.next⟩
          | none => match s.boundary w k p with
            | .error s' => .hold s'
            | .ok (s', w') => .leg ⟨s', w', k, p, Leg.fresh p.pc p.e w'.regs (s'.tprog w'.id), p.pc⟩

/-! ## What a leg finds at its marker -/

/-- The leg of a slot with its wave and path, if it is parked at its marker. -/
def State.parkedLeg (s : State) (id : Nat) (k : SlotId) : Option (Wave × Path × Leg) :=
  match s.wave? id with
  | none => none
  | some w => match (w.slot k).path, (w.slot k).leg with
    | some p, some leg => if leg.parked then some (w, p, leg) else none
    | _, _ => none

/-- Put a leg back into a slot. -/
def Wave.setLeg (w : Wave) (k : SlotId) (leg : Leg) : Wave := w.setSlot k { w.slot k with leg := some leg }

/-- The fault of a fill at a closing instruction: 0x0301 names the instruction (R116), any other the record's address. -/
def Leg.trapFill (leg : Leg) (c : BitVec 16) (a : DWord) (ls : List Nat) : Trap :=
  { code := c, addr := if c == 0x0301 then leg.closingAt else a, mask := leg.e0, poison := ls }

/-- R327: a stopped Hamper access surfaces at a leg's marker; without one the leg goes on. -/
def State.trapHamper (s : State) (w : Wave) (leg : Leg) : State × Ready :=
  match w.hamper with
  | none => (s.setWave w, .go)
  | some h => (s.setWave { w with hamper := some { h with reported := true } },
      .trap { code := h.code, addr := h.addr, mask := leg.e0, tok := some h.tok })

/-- R327: a closing instruction needs Hamper traffic that a fault has stopped. The fault surfaces, but while the other slot's
handler services it the leg waits. -/
def State.stoppedAt (s : State) (w : Wave) (k : SlotId) (leg : Leg) : State × Ready :=
  if w.hamper.any (·.reported) && !(w.slot k).inHandler then (s.setWave w, .wait) else s.trapHamper w leg

/-- What a fill that a closing instruction needs leaves: the records resident, or a wait, or a fault. -/
def State.afterFill (s : State) (k : SlotId) (leg : Leg) : Except FillStop (State × Wave) → State × Ready
  | .ok x => (x.1.setWave x.2, .go)
  | .error (.hamper s w) => s.stoppedAt w k leg
  | .error (.room _ _ _) => (s, .wait)
  | .error (.fault c a ls) => (s, .trap (leg.trapFill c a ls))

/-- R332, R326, R327: the fills of a RET: the records of the depth below that are not resident. -/
def State.returnReady (s : State) (w : Wave) (k : SlotId) (p : Path) (leg : Leg) : State × Ready :=
  if (w.missing (p.dep.toNat - 1)).isEmpty then (s, .go)
  else
    let x := s.hamperGate w
    x.1.afterFill k leg (x.1.fillBelow x.2 k p.dep leg.resv)

/-- A check that faults at the leg. -/
def readyIf (ok : Bool) (leg : Leg) (code : BitVec 16) : Ready := if ok then .go else .trap (leg.trapClosing code)

/-- R348: GBAR. -/
def State.gbarReady (s : State) (w : Wave) (k : SlotId) (p : Path) (leg : Leg) : State × Ready :=
  match s.recOf w with
  | none => (s, .trap (leg.trapClosing 0x7001))
  | some r =>
    if !r.all then (s, .trap (leg.trapClosing 0x7001))
    else if w.live != p.p then (s, .trap (leg.trapClosing 0x0104))
    else
      let _ := k
      let w := w.arriveGbar
      let s := s.setWave w
      (s, if s.gbarDone w then .go else .wait)

/-- R338, R175, R262: the waits of an EXIT that would leave no live lane: for every command, those in no batch among them.
The batch that it closes has no command left when it commits. -/
def State.exitReady (s : State) (w : Wave) (k : SlotId) (leg : Leg) : State × Ready :=
  if w.live &&& ~~~leg.e0 != 0 then (s, .go)
  else match s.reportBasalt w k leg fun _ => true with
    | (s, some t) => (s, .trap t)
    | (s, none) => match s.reportPorter w k leg fun _ => true with
      | (s, some t) => (s, .trap t)
      | (s, none) => (s, if (s.basaltOf w.id).isEmpty && (s.porterOf w.id).isEmpty then .go else .wait)

/-- R328, R343: WFLUSH spills; both report a stopped Hamper access, and wait for one that has been reported. -/
def State.syncReady (s : State) (w : Wave) (leg : Leg) (flush : Bool) : State × Ready :=
  let y := s.hamperGate w
  let x := if flush && y.2.hamper.isNone then y.1.spillAll y.2 else y
  if x.2.hamper.any (·.reported) then (x.1.setWave x.2, .wait) else x.1.trapHamper x.2 leg

/-- R259: report a suspended command that counts into a barrier. -/
def State.reportBar (s : State) (w : Wave) (k : SlotId) (leg : Leg) (b : BitVec 6) : State × Option Trap :=
  s.reportPorter w k leg fun c => c.desc.ben && c.desc.bar == b

/-- R347: BWAIT and BTEST. -/
def State.barReady (s : State) (w : Wave) (k : SlotId) (leg : Leg) (id : Word) (par wait : Bool) : State × Ready :=
  match s.heldBar w id with
  | none => (s, .trap (leg.trapClosing 0x0104))
  | some (b, x) => match s.reportBar w k leg b with
    | (s, some t) => (s, .trap t)
    | (s, none) => (s, if wait && x.ph == par then .unsat (some b) else .go)

/-- R336: WAITV. The word is located and read again each time; a read of a host or domain page is outstanding until the
next (R240). -/
def State.waitvReady (s : State) (w : Wave) (k : SlotId) (leg : Leg) (b : Word) (a : DWord) : State × Ready :=
  match s.locate w .x true 0 a 4 4 .read with
  | .error e => (s, .trap { code := e.2, addr := a, mask := leg.e0 })
  | .ok x => match s.readFault x.pieces with
    | some e => (s, .trap { code := e.1, addr := a, mask := leg.e0, poison := e.2 })
    | none =>
      let v : Word := BitVec.ofNat 32 (s.valueAt x.pieces)
      if v == b then
        let outs := x.pieces.filterMap Piece.far?
        (if outs.isEmpty then s
          else s.setWave (w.setLeg k { leg with out := outs.map fun u =>
              { host := u.1, dev := u.2, lanes := [(0, a)], scalar := some leg.e0 } }), .unsat none)
      else (s.setWave (w.setLeg k { leg with reply := some v }), .go)

/-- R247, R420: the lanes of an atomic or CLAIM that are sent to a host or another device. -/
def Closing.far : Closing → List (Nat × DWord × List Piece)
  | .atomic _ _ _ _ _ ls =>
    (ls.filter fun l => l.pieces.any fun p => p.far?.isSome).map fun l => (l.lane, l.addr, l.pieces)
  | .claim _ a ps _ => if ps.any fun p => p.far?.isSome then [(0, a, ps)] else []
  | _ => []

/-- R208: the other slot's open leg is passed by accesses that this one performs. -/
def Slot.notePassed (x : Slot) : Slot :=
  match x.leg with
  | none => x
  | some leg => { x with leg := some { leg with passed := true } }

/-- R39, R246, R296: a leg whose side effect is sent from its marker: its stores are performed with it. -/
def State.sendLeg (s : State) (w : Wave) (k : SlotId) (leg : Leg) : State :=
  let t := (s.commitStores w leg.cinvs leg.stores).keepFor w.id s.mem (leg.stores.flatMap (·.pieces))
  t.setWave ((w.setLeg k { leg with stores := [], cinvs := [], sent := true }).setSlot k.other (w.slot k.other).notePassed)

/-- R246, R247, R420: an atomic that leaves the device performs the leg's stores, is sent, and parks for its answer. A
lane whose link is down receives none. -/
def State.sendReady (s : State) (w : Wave) (k : SlotId) (leg : Leg) (cl : Closing) : State × Ready :=
  if cl.far.isEmpty || leg.sent then (s, .go)
  else
    let dead := maskOf ((cl.far.filter fun l => (s.deadFault l.2.2).isSome).map (·.1))
    (s.sendLeg w k { leg with failed := dead, failBit := if dead = 0 then 0 else deferBit 3 }, .wait)

/-- R179, R174, R182, R172: a tile command. -/
def State.tileReady (s : State) (w : Wave) (leg : Leg) (c : TileCmd) : State × Ready :=
  match s.tileProbe w c with
  | some e => (s, .trap { code := e.1, addr := e.2, mask := leg.e0 })
  | none => match c with
    | .store t _ _ =>
      if s.basalt.any fun x => s.onCore w.core.toNat x && x.cmd.conflicts c then (s, .wait)
      else (s, if s.tileBad w.core.toNat t then .trap (leg.trapClosing 0x2002) else .go)
    | _ => (s, if 16 ≤ (s.basaltOf w.id).length then .wait else .go)

/-- R175: TWAIT. -/
def State.twaitReady (s : State) (w : Wave) (k : SlotId) (leg : Leg) (covers : BasaltCmd → Bool) : State × Ready :=
  match s.reportBasalt w k leg covers with
  | (s, some t) => (s, .trap t)
  | (s, none) => (s, if (s.basaltOf w.id).any covers then .wait else .go)

/-- Which commands a TWAIT covers. -/
def twaitCovers (t : Option Tile) (c : BasaltCmd) : Bool :=
  match t with
  | none => true
  | some t => c.cmd.names.contains t

/-- R262: PWAIT. -/
def State.pwaitReady (s : State) (w : Wave) (k : SlotId) (leg : Leg) (n : Word) : State × Ready :=
  let covers := fun (c : PorterCmd) => match c.batch with | some b => batchCovered n b | none => false
  match s.reportPorter w k leg covers with
  | (s, some t) => (s, .trap t)
  | (s, none) => (s, if (s.porterOf w.id).any covers then .wait else .go)

/-- R296: CAIRN is issued, then waits for its number. -/
def State.cairnStep (s : State) (w : Wave) (k : SlotId) (leg : Leg) (world : BitVec 8) : State × Ready :=
  if leg.sent then (s, if leg.reply.isSome then .go else .wait)
  else if s.cairnRefused w (world.zeroExtend 32) then (s, .trap (leg.trapClosing 0x0104))
  else ((s.sendLeg w k leg).issueCairn w k world, .wait)

/-- R398: TRAP in the handler makes its entry, posts its record, and waits for a wake. Its leg has sent nothing, and its
accesses may be made again (log entry 74). -/
def State.trapReady (s : State) (w : Wave) (k : SlotId) (key : DWord) (inH : Bool) : State × Ready :=
  let x := w.slot k
  if !inH then (s, .go)
  else if x.frame.waiting then (s, if x.frame.woken then .go else .wait)
  else
    let s := s.setWave (w.setSlot k { x with frame := { x.frame with waiting := true, waitkey := key, woken := false } })
    let s := s.addWait w k key
    let lrec := match s.launch? w.launch with | some l => l.addr | none => 0
    (s.postRecord w.part 1 fun seq =>
      recordBytes 1 (w.regs.fcode.extractLsb' 0 16) seq w.regs.faddr key w.asid (match k with | .s0 => 0 | .s1 => 1) w.wid
        lrec x.frame.fmask x.frame.rpc, .wait)

/-- R320, R326: what a call waits for at its marker. -/
def State.callReady (s : State) (w : Wave) (k : SlotId) (p : Path) (leg : Leg) : State × Ready :=
  if w.linkHere p then (s, .go)
  else
    let x := s.hamperGate w
    x.1.afterFill k leg (x.1.fillLink x.2 p leg.resv)

/-- R271: does a LAUNCHQ over a world wait at the hub die since before this leg's? -/
def State.earlierQuery (s : State) (w : Wave) (k : SlotId) (leg : Leg) (id : BitVec 8) : Bool :=
  s.waves.any fun v => [SlotId.s0, SlotId.s1].any fun j => !(v.id == w.id && j == k) && (v.slot j).leg.any fun o =>
    o.atHub && o.cwait == some id && (leg.cwait != some id || decide (o.cseq < leg.cseq))

/-- R277, R271: the world that a LAUNCHQ's record names, if a cairn of it is being applied or an earlier LAUNCHQ waits for it.
The leg's own stores come before the record is read (R232). -/
def State.queryBusy (s : State) (w : Wave) (k : SlotId) (leg : Leg) (a : DWord) : Option (BitVec 8) :=
  match (s.commitStores w leg.cinvs leg.stores).drain.readRecord w.asid a 256 with
  | none => none
  | some b =>
    let id := (parseLaunch b).kworld
    if (s.worldOf w.part id).isSome && (s.applying id || s.earlierQuery w k leg id) then some id else none

/-- R277: a leg at its marker begins to wait for the cairn of a world. -/
def State.waitCairn (s : State) (w : Wave) (k : SlotId) (leg : Leg) (world : BitVec 8) : State × Ready :=
  (s.setWave (w.setLeg k (leg.waitFor s world)), .wait)

/-- What the closing instruction of a parked leg finds, with what it does while it waits. -/
def State.closingReady (s : State) (w : Wave) (k : SlotId) (p : Path) (leg : Leg) : Closing → State × Ready
  | .split t _ a => (s, if (w.slot k).inHandler && t != 0 && t != leg.e0 then .double 0x0104 a else .go)
  | .multi call ts a => if (w.slot k).inHandler && decide (1 < (groupTargets ts).length) then (s, .double 0x0104 a)
    else if call && !ts.isEmpty then s.callReady w k p leg else (s, .go)
  | .call _ => s.callReady w k p leg
  | .ret a =>
    if p.dep = 0 then (s, .trap (leg.trapClosing 0x0104))
    else if (w.slot k).inHandler && decide (1 < w.returnGroups p) then (s, .double 0x0104 a)
    else s.returnReady w k p leg
  | .join _ j => (s, readyIf (!w.joinRefused p j) leg 0x0104)
  | .waitv _ b a => s.waitvReady w k leg b a
  | .exit => s.exitReady w k leg
  | .wsync f => s.syncReady w leg f
  | .binit id n => (s, readyIf (s.binitOk w id n) leg 0x0104)
  | .barv _ id n => (s, readyIf (match s.heldBar w id with
      | some (_, x) => decide (barvCount n ≤ x.arr.toNat) | none => false) leg 0x0104)
  | .bexp _ id _ => (s, readyIf (match s.heldBar w id with
      | some (_, x) => decide (1 ≤ x.arr.toNat) | none => false) leg 0x0104)
  | .bwait id par => s.barReady w k leg id par true
  | .btest _ id par => s.barReady w k leg id par false
  | .gbar => s.gbarReady w k p leg
  | .atomic sc op t n dst ls => s.sendReady w k leg (.atomic sc op t n dst ls)
  | .claim d a ps lim => s.sendReady w k leg (.claim d a ps lim)
  | .pcopy _ _ => (s, if 64 ≤ (s.porterOf w.id).length then .wait else .go)
  | .pbatch _ => (s, if 16 ≤ s.openBatches w.id then .wait else .go)
  | .pwait n => s.pwaitReady w k leg n
  | .tile c => s.tileReady w leg c
  | .twait t => s.twaitReady w k leg (twaitCovers t)
  | .qgrp wd => (s, readyIf (p.brk.isNone && (s.worldOf w.part wd).isSome) leg 0x0104)
  | .qcommit => (s, readyIf p.brk.isSome leg 0x0104)
  | .qview _ _ _ wd => if s.partBusy w wd then s.waitCairn w k leg wd
      else (s, readyIf (s.worldOf w.part wd).isSome leg 0x0104)
  | .launch q _ a => match (if q then s.queryBusy w k leg a else none) with
    | some wd => s.waitCairn w k leg wd
    | none => (s, if s.guideFree w.part then .go else .wait)
  | .qdrop v => (s, readyIf (s.viewOf w.part v).isSome leg 0x0104)
  | .cairn wd _ => s.cairnStep w k leg wd
  | .qnew _ _ wd ls => match s.qnewReady w p.brk leg wd ls with
    | .wait => s.waitCairn w k leg wd
    | r => (s, r)
  | .qop _ _ ls => match s.qopReady w p.brk leg ls with
    | .wait => s.waitCairn w k leg ((s.busyHandle w ls).getD 0)
    | r => (s, r)
  | .trap _ key _ inH => s.trapReady w k key inH
  | .svret => (s, readyIf (w.slot k).frame.active leg 0x0104)
  | .jump _ _ | .yield | .lksub _ _ _ | .lkcard _ _ _ _ _ | .lkstat _ _ _
  | .rplay _ _ _ | .csrw _ _ => (s, .go)
  | .tlbinv _ n => (s, if n != 0 && s.shootHeld w.asid then .wait else .go)
  | .mapft _ _ | .mapcw _ _ => (s, if s.shootHeld w.asid then .wait else .go)

/-! ## Side effects that answer into registers -/

/-- A pending scalar result of the closing instruction. -/
def Leg.put (leg : Leg) (d : SReg) (v : Word) : Leg := { leg with sw := (d, v) :: leg.sw }

/-- The leg's context at its closing instruction. -/
def Leg.ctx (leg : Leg) (s : State) (w : Wave) (k : SlotId) (p : Path) : Ctx := ⟨s, w, k, p, leg, leg.closingAt⟩

/-- R245, R247: the lanes of an atomic in increasing order: each old value, and the memory after them. A lane whose
AtomicOp failed returns nothing. -/
def atomRun (op : AtomOp) (t : LTy) (n : Nat) (failed done : Mask) :
    List AtomLane → List Host.Cell → List (Nat × Nat) × List Host.Cell
  | [], m => ([], m)
  | l :: r, m =>
    let old := leNat (readPieces m l.pieces)
    let m' := if failed.getLsbD l.lane && !done.getLsbD l.lane then m
      else writePieces m l.pieces (leBytes (atomNew op t n old (l.v.toNat % 2 ^ (8 * n)) (l.c.toNat % 2 ^ (8 * n))) n)
    let x := atomRun op t n failed done r m'
    ((if failed.getLsbD l.lane then [] else [(l.lane, old)]) ++ x.1, x.2)

/-- R245: put the old values into the destination; other lanes keep what they hold. -/
def Ctx.atomResult (c : Ctx) (x : Sel) (olds : List (Nat × Nat)) : Nat → Ctx
  | 0 => c
  | n + 1 =>
    let old := (c.oldDst x).expand
    let vals := (List.range c.w.ww).map fun l => match olds.find? (·.1 == l) with
      | some o => BitVec.ofNat 32 o.2
      | none => lane old l
    (c.fillLanes x vals).atomResult (selAt x 1) (olds.map fun o => (o.1, o.2 / 4294967296)) n

/-- R245: an atomic at its leg's commit. -/
def State.runAtomic (s : State) (w : Wave) (k : SlotId) (p : Path) (leg : Leg) (scalar : Bool) (op : AtomOp) (t : LTy)
    (n : Nat) (dst : Sel) (ls : List AtomLane) : State × Leg :=
  let r := atomRun op t n leg.failed leg.failDone ls s.mem
  let s := s.written (ls.flatMap (·.pieces)) r.2
  let c := leg.ctx s w k p
  if scalar then
    match dst, r.1 with
    | .s d, (_, old) :: _ => (s, (c.setNat d old (n / 4)).leg)
    | _, _ => (s, leg)
  else (s, (c.atomResult dst r.1 (n / 4)).leg)

/-- R249, R420: CLAIM at its leg's commit. -/
def State.runClaim (s : State) (leg : Leg) (d : SReg) (ps : List Piece) (lim : Word) : State × Leg :=
  let b := readPieces s.mem ps
  let next := recNat b 0 4
  let n := claimCount next (recNat b 4 4) (recNat b 8 4) (recNat b 12 4) lim.toNat
  let s' := s.written ps (writePieces s.mem ps (leBytes (next + n) 4 ++ b.drop 4))
  if leg.failed = 0 then (s', (leg.put d (BitVec.ofNat 32 next)).put (d + 1) (BitVec.ofNat 32 n))
  else (if leg.failDone.getLsbD 0 then s' else s, leg)

/-- R290: QNEW at its leg's commit: handles on its lanes, and the mask of the lanes that found no slot. -/
def State.runQnew (s : State) (w : Wave) (k : SlotId) (p : Path) (leg : Leg) (dst : Sel) (mb : MBase) (wd : BitVec 8)
    (ls : List (Nat × Word)) : State × Leg :=
  let r := s.createLanes w p.brk wd ls
  let vals := (List.range w.ww).map fun l => ((r.2.find? (·.1 == l)).map (·.2)).getD 0
  let c := (leg.ctx r.1 w k p).fillLanes dst (vals.map DWord.lo)
  let c := c.fillLanes (selNext dst) (vals.map DWord.hi)
  (r.1, (c.setStale mb (maskOf ((r.2.filter (·.2 == 0)).map (·.1)))).leg)

/-- R363: LKSUB at its leg's commit; a head that has never been configured is not enabled. -/
def State.runLksub (s : State) (leg : Leg) (d : SReg) (n : BitVec 4) (b : List Byte) : State × Leg :=
  match s.head? n.toNat with
  | none => (s, leg.put d 0x8000_0001)
  | some h => let r := h.latched.submit b; (s.setHead r.1, leg.put d r.2)

/-- R364: LKCARD at its leg's commit. -/
def State.runLkcard (s : State) (leg : Leg) (d : SReg) (n : BitVec 4) (b : List Byte) (ws bs : List (List Byte)) : State × Leg :=
  match s.head? n.toNat with
  | none => (s, leg.put d 0x8000_0001)
  | some h => let r := h.latched.bindCard b ws bs; (s.setHead r.1, leg.put d r.2)

/-- R365: LKSTAT. -/
def State.runLkstat (s : State) (leg : Leg) (d : SReg) (n : BitVec 4) (item : BitVec 3) : State × Leg :=
  (s, leg.put d (match s.head? n.toNat with | some h => h.latched.stat item.toNat | none => 0))

/-- R132, R175: counts of the covered TLD.w commands join the leg's. -/
def State.runCounts (s : State) (w : Wave) (leg : Leg) (covers : BasaltCmd → Bool) : State × Leg :=
  let r := s.takeCounts w.id covers
  (r.1, { leg with csat := leg.csat + r.2.1, cftz := leg.cftz + r.2.2.1, cnan := leg.cnan + r.2.2.2 })

/-- R378, R379: after a leg's shoot-down, if it made one, the other open legs of the ASID begin again. -/
def State.afterShoot (s t : State) (w : Wave) (k : SlotId) : State :=
  if t.shootSeq == s.shootSeq then t else t.restartLegs w.asid (some (w.id, k))

/-- The side effect of a closing instruction, after the leg's stores; results join the leg's. -/
def State.closingRun (s : State) (w : Wave) (k : SlotId) (p : Path) (leg : Leg) : Closing → State × Leg
  | .waitv d _ _ => (s, leg.put d (leg.reply.getD 0))
  | .exit => if w.live &&& ~~~leg.e0 == 0 then s.runCounts w leg fun _ => true else (s, leg)
  | .launch q d a =>
    let r := s.drain.acceptLaunch w.asid w.part q true (if leg.cwait.isSome then some leg.cstage else none) a
    ({ (if r.2 == 9 then r.1.unreadLaunch w.asid w.part a else r.1) with guideLast := w.part }, leg.put d (r.2.zeroExtend 32))
  | .binit id n => (s.binit w id n, leg)
  | .barv d id n => let r := s.barv w id n; (r.1, leg.put d r.2)
  | .bexp d id n => let r := s.bexp w id n; (r.1, leg.put d r.2)
  | .btest d id par => (s, leg.put d (match s.heldBar w id with | some (_, x) => if x.ph != par then 1 else 0 | none => 0))
  | .atomic sc op t n dst ls => s.runAtomic w k p leg sc op t n dst ls
  | .claim d _ ps lim => s.runClaim leg d ps lim
  | .pcopy d _ => (s.sendPorter w d, leg)
  | .pbatch d => let r := s.closeBatch w; (r.1.setWave r.2.1, leg.put d r.2.2)
  | .tile c => (match c with | .store _ _ _ => s | _ => s.sendBasalt w c, leg)
  | .twait t => s.runCounts w leg (twaitCovers t)
  | .qview d req exc wd => let r := s.takeView wd req exc; (r.1, leg.put d r.2)
  | .qdrop v => (s.dropView w.part v, leg)
  | .cairn _ d => (s, leg.put d (leg.reply.getD 0))
  | .qnew dst mb wd ls => s.runQnew w k p leg dst mb wd ls
  | .qop kd mb ls => (s.queueLanes w p.brk kd ls, ((leg.ctx s w k p).setStale mb (s.staleLanes w ls)).leg)
  | .lksub d n b => s.runLksub leg d n b
  | .lkcard d n b ws bs => s.runLkcard leg d n b ws bs
  | .lkstat d n i => s.runLkstat leg d n i
  | .trap d _ _ inH => (s, if inH then leg.put d (w.slot k).frame.wakest else leg)
  | .rplay d key st => let r := s.wakeKey key w.asid w.part st; (r.1, leg.put d (BitVec.ofNat 32 (min r.2 0xFFFF_FFFF)))
  | .mapft d a => let r := s.mapFirstTouch w.asid w.part a; (s.afterShoot r.1 w k, leg.put d (BitVec.ofNat 32 r.2))
  | .mapcw d a => let r := s.mapCopyOnWrite w.asid w.part a; (s.afterShoot r.1 w k, leg.put d (BitVec.ofNat 32 r.2))
  | .tlbinv a n => (if n = 0 then s else s.afterShoot (s.shootDown w.asid a.toNat n.toNat) w k, leg)
  | .jump _ _ | .split _ _ _ | .multi _ _ _ | .call _ | .ret _ | .join _ _ | .yield | .wsync _ | .bwait _ _ | .gbar
  | .pwait _ | .qgrp _ | .qcommit | .svret | .csrw _ _ => (s, leg)

/-! ## The registers of a commit -/

/-- R404: CSRW; fields that are RO keep their value, PWB is cleared by writing one. -/
def Regs.writeCsr (g : Regs) (n : BitVec 12) (v : DWord) : Regs :=
  if n = 0x020 then { g with fcode := v.lo &&& 0xFFFF }
  else if n = 0x021 then { g with faddr := v }
  else if n = 0x040 then { g with csat := v.lo }
  else if n = 0x041 then { g with cftz := v.lo }
  else if n = 0x042 then { g with cnan := v.lo }
  else if n = 0x043 then { g with pwb := g.pwb && !v.getLsbD 0 }
  else if h : 0x030 ≤ n.toNat ∧ n.toNat ≤ 0x037 then
    { g with nf := g.nf.set (n.toNat - 0x030) (v.lo &&& 0x1FFFF) (by omega) }
  else g

/-- R25, R26: one scalar result; s0 discards it and s61 to s63 are no part of the registers. -/
def Regs.putS (g : Regs) (r : SReg) (v : Word) : Regs :=
  if h : r.toNat < 61 then (if r.toNat = 0 then g else { g with s := g.s.set r.toNat v h }) else g

/-- R23, R25: the part of E that a scalar result writes. -/
def putE (e : Mask) (r : SReg) (v : Word) : Mask :=
  if r.toNat < 61 then e
  else
    let at_ := 32 * (r.toNat - 61)
    (e &&& ~~~((0xFFFF_FFFF : Mask) <<< at_)) ||| (v.zeroExtend 96 <<< at_)

/-- One address result. -/
def Regs.putA (g : Regs) (r : AReg) (v : DWord) : Regs := { g with a := g.a.set r.toNat v r.isLt }

/-- R40, R438: a lane register as a leg leaves it; lanes another commit has written since the leg began stand. -/
def Regs.commitLane (g : Regs) (leg : Leg) (k : VKey) (r : LReg) : LReg :=
  if leg.crossed.contains k then
    let cur := g.getV k
    buildRuns (r.bounds ||| cur.bounds ||| maskBounds leg.e0) (mergeLanes leg.e0 r.expand cur.expand)
  else r

/-- R38: the leg's results, in program order. -/
def Regs.commitWrites (g : Regs) (leg : Leg) : Regs :=
  let g := leg.sw.foldr (fun x g => g.putS x.1 x.2) g
  let g := leg.aw.foldr (fun x g => g.putA x.1 x.2) g
  leg.vw.foldl (fun g x => g.setV x.1 (g.commitLane leg x.1 x.2)) g

/-- R411: a register that is written whole loses its poison. -/
def Leg.clears (leg : Leg) (ww : Nat) : RegName → Bool
  | .s r => leg.sw.any (·.1 == r)
  | .a r => leg.aw.any (·.1 == r)
  | .v k => leg.vw.any (·.1 == k) && leg.e0 &&& Mask.below ww == Mask.below ww
  | .link _ => false

/-- Every register a commit writes, counters and PWB included (R132, R204). -/
def Regs.commit (g : Regs) (leg : Leg) (ww : Nat) : Regs :=
  let g := match leg.closing with
    | some (.csrw n v) => g.writeCsr n v
    | _ => g
  let g := g.commitWrites leg
  { g with csat := satAdd g.csat leg.csat, cftz := satAdd g.cftz leg.cftz, cnan := satAdd g.cnan leg.cnan,
           pwb := g.pwb || leg.pwb, bad := g.bad.filter fun b => !leg.clears ww b.1 }

/-- The counters before a commit adds to them (R132, R165). A CSRW that itself lifts a counter above its threshold does not
trap: R166 checks a slot's own counts (log entry 91). -/
def Regs.counters (g : Regs) (leg : Leg) : Word × Word × Word :=
  let g := match leg.closing with
    | some (.csrw n v) => g.writeCsr n v
    | _ => g
  (g.csat, g.cftz, g.cnan)

/-- R391: faults that become due with a commit. -/
def Leg.due (leg : Leg) (excess : BitVec 16) : BitVec 16 :=
  excess ||| (if leg.poisoned = 0 then 0 else deferBit 0) ||| leg.failBit

/-- R247: the address of the lowest lane whose request failed, and the fault's mask: the failing lanes, or the path's
active lanes for a scalar operation (R391). -/
def Leg.failAddr (leg : Leg) : DWord :=
  match leg.closing with
  | some cl => ((cl.far.find? fun l => leg.failed.getLsbD l.1).map (·.2.1)).getD 0
  | none => 0

def Leg.failMask (leg : Leg) : Mask :=
  match leg.closing with
  | some (.atomic false _ _ _ _ _) => leg.failed
  | _ => leg.e0

/-- The frame of a slot with a commit's due faults (R410): DMASK and DADDR hold the lowest code's. -/
def HFrame.defers (f : HFrame) (leg : Leg) (excess : BitVec 16) : HFrame :=
  { f with defer := f.defer ||| leg.due excess,
           dmask := if leg.poisoned != 0 then leg.poisoned else if leg.failBit != 0 then leg.failMask else f.dmask,
           daddr := if leg.poisoned != 0 then leg.poisonAddr else if leg.failBit != 0 then leg.failAddr else f.daddr }

/-- R38, R39: the slot after a commit. -/
def Slot.committed (x : Slot) (p : Path) (leg : Leg) (excess : BitVec 16) : Slot :=
  let e := (leg.sw.foldr (fun y e => putE e y.1 y.2) p.e) &&& p.p
  let p' := { p with pc := leg.next, e := e, jumped := if p.jumped == some leg.start then none else p.jumped }
  { x with path := some p', leg := none, frame := x.frame.defers leg excess, legs := x.legs + 1, waitBar := [], wait := none,
           hmask := leg.failMask, haddr := leg.failAddr,
           sup := if inSupervisor leg.start then x.sup ||| leg.due excess else x.sup &&& ~~~leg.due excess }

/-- R438, R208: the other slot's open leg notes that a leg has committed, and the lane registers it has written. -/
def Slot.noteCross (x : Slot) (keys : List VKey) : Slot :=
  match x.leg with
  | none => x
  | some leg => { x with leg := some { leg with
      passed := true, crossed := leg.crossed ++ keys.filter fun k => !leg.crossed.contains k } }

/-- R226: engine commands of a wave with accesses that a fence puts first. Of Basalt's, only a load still has accesses to
make. -/
def State.fenceTokens (s : State) (w : Nat) (pred : BitVec 6) : List DWord :=
  (if pred &&& 0b001100 != 0 then (s.porterOf w).map (·.tok) else [])
    ++ (if pred &&& 0b110000 != 0 then ((s.basaltOf w).filter (·.cmd.isLoad)).map (·.tok) else [])

/-- R226: the leg's fences take effect; those whose commands are done are dropped. -/
def State.addFences (s : State) (w : Wave) (leg : Leg) : Wave :=
  let live := fun (ts : List DWord) => ts.filter fun t => !s.tokensDone [t]
  let all := w.fences ++ leg.fences.map fun f => (s.fenceTokens w.id f.1, f.2)
  { w with fences := (all.map fun f => (live f.1, f.2)).filter fun f => !f.1.isEmpty }

/-- R38 to R40: the wave after its slot's leg commits, before the closing instruction changes its paths. -/
def Wave.commit (w : Wave) (k : SlotId) (p : Path) (leg : Leg) (t : Word × Word × Word) : Wave :=
  let g := w.regs.commit leg w.ww
  let excess := excessDefer t (w.regs.counters leg) (g.csat, g.cftz, g.cnan)
  let w := { w with regs := g, started := true }
  let w := w.setSlot k ((w.slot k).committed p leg excess)
  w.setSlot k.other ((w.slot k.other).noteCross (leg.vw.map (·.1)))

/-! ## Changes of paths -/

/-- R311, R149: rotate a slot and write the stack; the Sieve keeps nothing of the path that leaves. -/
def State.rotateSlot (s : State) (w : Wave) (k : SlotId) : State :=
  let x := (s.forgetSieve w k).settleStack (w.rotate k)
  x.1.setWave x.2

/-- R346: the slot's path waits on a barrier too. -/
def Slot.waitsOn (x : Slot) (bar : Option (BitVec 6)) : Slot :=
  { x with waitBar := x.waitBar ++ (bar.toList.filter fun b => !x.waitBar.contains b) }

/-- R311, R346: an unsatisfied wait: the slot rotates and its leg is discarded, or the leg parks, or its next instruction
waits. -/
def State.unsatisfied (s : State) (w : Wave) (k : SlotId) (bar : Option (BitVec 6)) (wait : Option SlotWait := none) : State :=
  let x := (w.slot k).waitsOn bar
  if w.hasRunning && !x.inHandler then s.rotateSlot (w.setSlot k x.discard) k
  else s.setWave (w.setSlot k { x with wait := wait })

/-- R338: the exiting lanes leave the path; a path without lanes ends, and its slot takes a running entry. -/
def Wave.exitLanes (w : Wave) (k : SlotId) (p : Path) (gone : Mask) : Wave :=
  let x := w.slot k
  let p' := { p with p := p.p &&& ~~~gone, e := 0 }
  if p'.p != 0 then (w.setPath k p').completeJoins k
  else
    -- R413, R395: a frame ends with its path, and the slot it held back may issue
    let w := if x.frame.active then w.setSlot k.other { w.slot k.other with held := false } else w
    (w.refill k).completeJoins k

/-- R338, R293: EXIT. -/
def State.exitPath (s : State) (w : Wave) (k : SlotId) (p : Path) (gone : Mask) : State :=
  let s := match p.brk with
    | some b => if p.p &&& ~~~gone == 0 then s.abortGroup w.id b else s
    | none => s
  let w := w.exitLanes k p gone
  if w.live == 0 then (s.setWave w).retire w else s.setWave w

/-- R320: the wave enters the depth below a call on the lanes of P. -/
def Wave.enter (w : Wave) (p : Path) (ret : DWord) : Wave := w.pushLink p.dep.toNat p.p fun _ => ret

/-- R292, R274: QCOMMIT. -/
def State.commitGroup (s : State) (w : Wave) (k : SlotId) (p : Path) : State :=
  match p.brk with
  | none => s
  | some b =>
    let w := w.setPath k { p with brk := none }
    let s := s.setWave w
    if w.brackets.contains b then s else s.closeGroup w.id b

/-- What the closing instruction does to the wave's paths, after its registers are committed. -/
def State.closingPath (s : State) (w : Wave) (k : SlotId) (p : Path) (leg : Leg) : Closing → State
  | .jump t check => s.setWave (w.setPath k { p with pc := t, jumped := if check then some t else p.jumped })
  | .split t target _ => s.setWave (w.split k p leg.e0 t target)
  | .multi call ts a =>
    if ts.isEmpty then s
    else if call then s.setWave ((w.enter p (a + 4)).jumpLanes k p leg.e0 (p.dep + 1) ts)
    else s.setWave (w.jumpLanes k p leg.e0 p.dep ts)
  | .call t => s.setWave ((w.enter p (leg.closingAt + 4)).setPath k { p with pc := t, dep := p.dep + 1 })
  | .ret _ => s.setWave (w.returnLanes k p leg.e0)
  | .join m j => s.setWave (w.joinAt k p m j)
  | .yield => if w.hasRunning && !(w.slot k).inHandler then s.rotateSlot w k else s
  | .exit => s.exitPath w k p leg.e0
  | .gbar => s.setWave w.passGbar
  | .qgrp wd =>
    let n := nextBrk w.brkSeq
    let w := { w with brkSeq := n }.setPath k { p with brk := some ⟨wd, n⟩ }
    (s.setWave w).openGroup w wd n
  | .qcommit => s.commitGroup w k p
  | .trap _ a d inH =>
    let x := w.slot k
    if inH then s.setWave (w.setSlot k { x with frame := { x.frame with waiting := false, woken := false } })
    else s.setWave (w.setSlot k { x with
      swaddr := a, frame := { x.frame with swcode := d, defer := x.frame.defer ||| deferBit 8 },
      sup := if inSupervisor leg.start then x.sup ||| deferBit 8 else x.sup &&& ~~~deferBit 8 })
  | .svret => s.setWave (w.svret k)
  | _ => s

/-- R319: every path waits at a JOIN and none can complete: the oldest leaves the stack, to take 0x0104 at its JOIN. -/
def Wave.unstick (w : Wave) : Wave × Option Trap :=
  match w.stuckJoin with
  | none => (w, none)
  | some (i, e, j) => ({ w with stack := w.stack.eraseIdx i }.take .s0 { e.path with pc := j } [] e.due,
      some { code := 0x0104, addr := j, mask := e.path.p })

/-- R311, R316, R319: after a commit: the 4,096-leg rotation, stuck joins, and the stack's entries in memory. -/
def State.settle (s : State) (id : Nat) (k : SlotId) (before : List StackEntry) : State :=
  match s.wave? id with
  | none => s
  | some w =>
    let w := if 4096 ≤ (w.slot k).legs && w.hasRunning && !(w.slot k).inHandler then w.rotate k else w
    let u := w.unstick
    let x := if u.1.stack == before && u.1.s0.took.isNone && u.1.s1.took.isNone then (s, u.1) else s.settleStack u.1
    match u.2 with
    | none => x.1.setWave x.2
    | some t => x.1.takeFault x.2 .s0 t t.addr

/-- The stores of a leg, the rows of a TST among them (R39, R182). -/
def State.legStores (s : State) (w : Wave) (leg : Leg) : List HeldStore :=
  match leg.closing with
  | some (.tile (.store t a st)) => leg.stores ++ s.tileStores w t a st
  | _ => leg.stores

/-- Where an atomic or CLAIM writes at its commit (R245, R249). -/
def Closing.written : Closing → List Piece
  | .atomic _ _ _ _ _ ls => ls.flatMap (·.pieces)
  | .claim _ _ ps _ => ps
  | _ => []

/-- R438: where lanes of both slots have met in a register, a commit may need more run slots than its leg has reserved. -/
def State.roomForCross (s : State) (w : Wave) (k : SlotId) (leg : Leg) : State × Wave :=
  if leg.crossed.isEmpty then (s, w) else s.makeRoom w (w.slot k.other).resv

/-- R438, R117: must a commit wait for run slots that the other slot's open leg has reserved, once the Hamper has spilled what
it can? -/
def State.crossWaits (s : State) (w : Wave) (k : SlotId) (leg : Leg) : Bool :=
  let o := (w.slot k.other).resv
  if leg.crossed.isEmpty || o == 0 then false
  else
    let v := { w with regs := w.regs.commit leg w.ww }
    let x := (s.makeRoom v o).2
    x.hamper.isNone && decide (x.rb < x.residentSlots + o)

/-- R38, R39: THE COMMIT of a parked leg: its stores, the closing side effect, its registers, then its paths. -/
def State.commitLeg (s : State) (id : Nat) (k : SlotId) : State :=
  match s.parkedLeg id k with
  | none => s
  | some (w, p, leg) =>
    let st := s.legStores w leg
    let mem := s.mem
    let s := s.commitStores w leg.cinvs st
    let s := s.keepFor w.id mem (st.flatMap (·.pieces) ++ ((leg.closing.map Closing.written).getD []))
    let (s, leg) := match leg.closing with
      | none => (s, leg)
      | some cl => s.closingRun w k p leg cl
    match s.wave? id with
    | none => s
    | some w =>
      let before := w.stack
      let w := s.addFences (w.commit k p leg (s.thresholds w)) leg
      let (s, w) := s.roomForCross w k leg
      let s := s.setWave w
      let s := match leg.closing, (w.slot k).path with
        | some cl, some p' => s.closingPath w k p' leg cl
        | _, _ => s
      s.settle id k before

/-- R208, R219 to R226 (log entry 74): has a leg of the other slot, committed or sent since this leg began, come before loads
of this one that no longer read the same, or made it wait behind a fence? -/
def State.overtaken (s : State) (w : Wave) (leg : Leg) : Bool :=
  leg.passed && !leg.sent
    && ((w.fences.any fun f => f.2 &&& leg.cls != 0 && !s.tokensDone f.1)
      || leg.loads.any fun x => readPieces s.mem x.1 != x.2 || (s.readFault x.1).isSome)

/-- A leg begins again (R39). -/
def State.restartLeg (s : State) (w : Wave) (k : SlotId) : State := (s.forgetSieve w k).setWave (w.restart k)

/-- Do located pieces share a byte? -/
def piecesMeet (a b : List Piece) : Bool :=
  a.any fun p => b.any fun q => decide (p.key < q.key + q.len) && decide (q.key < p.key + p.len)

/-- R208, R210, R226 (log entry 74): the other slot's leg has been sent and commits when its answer comes. A leg that must not
come before its accesses waits: one that writes what it has loaded, one that commits after what it has loaded has changed, and
one with a fence over its accesses. -/
def State.heldBySent (s : State) (w : Wave) (k : SlotId) (leg : Leg) : Bool :=
  match (w.slot k.other).leg with
  | some o =>
    let writes := (s.legStores w leg).flatMap (·.pieces) ++ ((leg.closing.map Closing.written).getD [])
    o.sent && !(leg.sent && k == .s0)
      && ((o.loads.any fun x => piecesMeet x.1 writes || readPieces s.mem x.1 != x.2)
        || leg.fences.any fun f => f.2 &&& o.cls != 0)
  | none => false

/-- R438, R117: a commit for which the other slot's reservation leaves no room waits for that leg. A leg that is parked gives up
its reservation and begins again (log entry 75). -/
def State.giveWay (s : State) (w : Wave) (k : SlotId) : State :=
  match (w.slot k.other).leg with
  | some o => if o.parked && !o.sent then s.restartLeg w k.other else s
  | none => s

/-- R39, R395: what follows from what a closing instruction finds. A fault that waits for the other slot's handler leaves
nothing reported: the leg replays after it. -/
def State.closeLeg (s t : State) (w : Wave) (k : SlotId) (leg : Leg) (r : Ready) : State :=
  match r with
  | .go => t.commitLeg w.id k
  | .wait => t
  | r => match t.wave? w.id with
    | none => t
    | some v => match r with
      | .unsat b => t.unsatisfied v k b
      | .trap x => if w.faultHolds k then s.takeFault w k x leg.start else t.takeFault v k x leg.start
      | .double c a => t.doubleFault v k c a leg.e0
      | _ => t

/-- R39: a leg at its marker commits, waits, or faults. -/
def State.tryCommit (s : State) (id : Nat) (k : SlotId) : State :=
  match s.parkedLeg id k with
  | none => s
  | some (w, p, leg) =>
    if !leg.out.isEmpty then s
    else if s.overtaken w leg then s.restartLeg w k
    else if s.heldBySent w k leg then s
    else if s.crossWaits w k leg then s.giveWay w k
    else match leg.closing with
      | none => s.commitLeg id k
      | some cl =>
        let x := s.closingReady w k p leg cl
        s.closeLeg x.1 w k leg x.2

/-! ## Issue -/

/-- What the leg rules need of an instruction: its length in words, its class (R46), and its fence classes (R225). -/
structure Shape where
  words : Nat
  mem : Bool := false
  closing : Bool := false
  cls : BitVec 6 := 0

/-- R226: does a fence hold the instruction's accesses? -/
def Ctx.fenced (c : Ctx) (cls : BitVec 6) : Bool := c.w.fences.any fun f => f.2 &&& cls != 0 && !c.s.tokensDone f.1

/-- R36: does the instruction break a leg limit? -/
def Ctx.overLimit (c : Ctx) (x : Shape) (m : Bool) : Bool :=
  decide (24 ≤ c.leg.count) || (x.mem && decide (8 ≤ c.leg.memCount)) || (x.closing && !m)

/-- R39, R391: a fault at the leg. -/
def Ctx.fail (c : Ctx) (t : Trap) : State := c.s.takeFault c.w c.k t c.leg.start

/-- An instruction that cannot issue yet: its slot waits (R309). -/
def Ctx.holdFor (c : Ctx) (x : SlotWait) : State := c.s.setWave (c.w.waits c.k x)

/-- R117: an instruction whose reservation is held up waits: for the other slot's leg, or for a spill that has stopped on a
fault. Log entry 75: slot 1 then gives up its own leg, which replays, so that the two never wait for each other. Log entry 73: so
does a leg that waits for a stopped spill, whose fault surfaces at the leg boundary that the slot thus reaches (R327). -/
def Ctx.holdShort (c : Ctx) : State :=
  if c.k == .s0 && c.w.hamper.isNone then c.holdFor (.room c.leg.resv)
  else (c.s.forgetSieve c.w c.k).setWave ((c.w.restart c.k).waits c.k (.room c.leg.resv))

/-- The leg goes on after an instruction, or reaches its marker. -/
def Ctx.advance (c : Ctx) (x : Shape) (m : Bool) : State :=
  if c.leg.short then c.holdShort
  else
    let leg := { c.leg with count := c.leg.count + 1, memCount := c.leg.memCount + (if x.mem then 1 else 0),
                            next := c.pc + BitVec.ofNat 64 (4 * x.words), cls := c.leg.cls ||| x.cls, parked := m, cwait := none }
    let w := { c.w with state := .running }.setSlot c.k { c.w.slot c.k with leg := some leg, wait := none }
    if m then (c.s.setWave w).tryCommit w.id c.k else c.s.setWave w

/-- One instruction issues into its leg: `gate` may hold it in another state, `body` gives its results. -/
def State.issueVia (s : State) (x : Shape) (m : Bool) (gate : Ctx → Except State Ctx) (body : Ctx → Except Trap Ctx) :
    Host.Outcome State Fault Refusal :=
  match s.begin with
  | .stop => .fault .noSlot
  | .hold s' => .next s'
  | .leg c =>
    if c.fenced x.cls then .next (c.holdFor (.fence x.cls))
    else if c.overLimit x m then .next (c.fail (c.trapHere 0x0104))
    else match gate c with
      | .error s' => .next s'
      | .ok c => match body c with
        | .error t => .next (c.fail t)
        | .ok c => .next (c.advance x m)

/-- THE ISSUE of one instruction of a wave (R36 to R39, R391). -/
def State.issue (s : State) (x : Shape) (m : Bool) (body : Ctx → Except Trap Ctx) : Host.Outcome State Fault Refusal :=
  s.issueVia x m .ok body

end Sys2Proof.Machine
end

