-- ==== Sys2Proof/Machine/Scalar.lean ====
section
/-! DEFINITION. Scalar integer, floating-point and conversion instructions (spec/07_arith_instr.md R123 to R132). -/

namespace Sys2Proof.Machine

/-- A 32-bit instruction that is neither a memory instruction nor closing. -/
def plainShape : Shape := { words := 1 }

/-! ## Shared forms -/

/-- `sD <- g(sA, sB)`. -/
def Ctx.scalar2 (d a b : SReg) (g : Word → Word → Word) (c : Ctx) : Except Trap Ctx := do
  let x ← c.getS a
  let y ← c.getS b
  return c.setS d (g x y)

/-- `sD <- g(sA)`. -/
def Ctx.scalar1 (d a : SReg) (g : Word → Word) (c : Ctx) : Except Trap Ctx := do
  let x ← c.getS a
  return c.setS d (g x)

/-- `sD <- g(sA, sB, old sD)`; the old value is that from before the leg (R38, R69). -/
def Ctx.scalar3 (d a b : SReg) (g : Word → Word → Word → Word) (c : Ctx) : Except Trap Ctx := do
  let x ← c.getS a
  let y ← c.getS b
  let o ← c.getS d
  return c.setS d (g x y o)

/-! ## Values (R123 to R131) -/

/-- High half of a signed product. -/
def mulHigh (a b : Word) : Word := DWord.hi (a.signExtend 64 * b.signExtend 64)

/-- High half of an unsigned product. -/
def mulHighN (a b : Word) : Word := DWord.hi (a.zeroExtend 64 * b.zeroExtend 64)

/-- R124. -/
def divS (a b : Word) : Word := if b = 0 then 0xFFFF_FFFF else a.sdiv b
def divN (a b : Word) : Word := if b = 0 then 0xFFFF_FFFF else a / b
def remS (a b : Word) : Word := if b = 0 then a else a.srem b
def remN (a b : Word) : Word := if b = 0 then a else a % b

/-- R125: the count is all of sB, unsigned. -/
def shlS (a b : Word) : Word := a <<< b.toNat
def shrS (a b : Word) : Word := a >>> b.toNat
def sraS (a b : Word) : Word := a.sshiftRight b.toNat

def minS (a b : Word) : Word := if a.sle b then a else b
def maxS (a b : Word) : Word := if a.sle b then b else a
def minN (a b : Word) : Word := if a ≤ b then a else b
def maxN (a b : Word) : Word := if a ≤ b then b else a

/-- Count of leading zero bits; 32 for zero. -/
def clzS (a : Word) : Word := if a = 0 then 32 else BitVec.ofNat 32 (31 - Nat.log2 a.toNat)

/-- Count of one bits. -/
def cntS (a : Word) : Word := BitVec.ofNat 32 ((List.range 32).filter fun k => a.getLsbD k).length

/-- R126: an 11-bit immediate. -/
def imm11 (i : BitVec 11) : Word := i.signExtend 32

/-- R127: SBFX. -/
def bfxS (pos len1 : BitVec 5) (a : Word) : Word := (a >>> pos.toNat) &&& BitVec.ofNat 32 (2 ^ (len1.toNat + 1) - 1)

/-- R127: SBFI. -/
def bfiS (pos len1 : BitVec 5) (a old : Word) : Word :=
  let m : Word := BitVec.ofNat 32 (2 ^ (len1.toNat + 1) - 1)
  (old &&& ~~~(m <<< pos.toNat)) ||| ((a &&& m) <<< pos.toNat)

/-- R129: 1 or 0. -/
def flagS (b : Bool) : Word := if b then 1 else 0

/-- R130: FP32 results rounded to nearest even. -/
def fp2 (g : Fmt → Rm → Bool → Nat → Nat → Nat) (a b : Word) : Word := BitVec.ofNat 32 (g fp32 .rne false a.toNat b.toNat)
def fmaS (a b o : Word) : Word := BitVec.ofNat 32 (fp32.fmaBits .rne false a.toNat b.toNat o.toNat)

/-- The variants of SCVT and VCVT (R131). -/
inductive Cvt where
  | i2f | n2f | f2i | f2n | f2ir | f2nr | f2b | b2f | f2h | h2f
  deriving DecidableEq, Repr

/-- An integer result of a conversion with its class. -/
def cvtInt (rm : Rm) (signed : Bool) (x : Word) : Word × Ev :=
  let r := intRange 32 signed
  let v := toInt rm r.1 r.2 (f32 x)
  (BitVec.ofInt 32 v.1, v.2)

/-- A float result of a conversion with its class. -/
def cvtFlt (f : Fmt) (rm : Rm) (sat : Bool) (v : Val) : Word × Ev :=
  let r := f.convert rm sat v
  (BitVec.ofNat 32 r.1, r.2)

/-- R131, R91: the result of a conversion and its class. -/
def cvtOf (k : Cvt) (sat : Bool) (x : Word) : Word × Ev :=
  match k with
  | .i2f => cvtFlt fp32 .rz false (ofInt x.toInt 0)
  | .n2f => cvtFlt fp32 .rz false (ofInt x.toNat 0)
  | .f2i => cvtInt .rz true x
  | .f2n => cvtInt .rz false x
  | .f2ir => cvtInt .rne true x
  | .f2nr => cvtInt .rne false x
  | .f2b => cvtFlt bf16 .rz sat (f32 x)
  | .b2f => cvtFlt fp32 .rne false (bf16.decode (x.toNat % 65536))
  | .f2h => cvtFlt fp16 .rz sat (f32 x)
  | .h2f => cvtFlt fp32 .rne false (fp16.decode (x.toNat % 65536))

/-- R131, R132: SCVT. -/
def Ctx.scalarCvt (d a : SReg) (k : Cvt) (c : Ctx) : Except Trap Ctx := do
  let x ← c.getS a
  let r := cvtOf k false x
  return (c.setS d r.1).countEvents [r.2]

/-! ## The instructions -/

/-- SADD (R123). -/
def execSadd (m : Bool) (d a b : SReg) (s : State) : Host.Outcome State Fault Refusal :=
  s.issue plainShape m (Ctx.scalar2 d a b (fun x y => x + y))

/-- SSUB (R123). -/
def execSsub (m : Bool) (d a b : SReg) (s : State) : Host.Outcome State Fault Refusal :=
  s.issue plainShape m (Ctx.scalar2 d a b (fun x y => x - y))

/-- SMUL (R123). -/
def execSmul (m : Bool) (d a b : SReg) (s : State) : Host.Outcome State Fault Refusal :=
  s.issue plainShape m (Ctx.scalar2 d a b (fun x y => x * y))

/-- SMULH (R123). -/
def execSmulh (m : Bool) (d a b : SReg) (s : State) : Host.Outcome State Fault Refusal :=
  s.issue plainShape m (Ctx.scalar2 d a b mulHigh)

/-- SMULHN (R123). -/
def execSmulhn (m : Bool) (d a b : SReg) (s : State) : Host.Outcome State Fault Refusal :=
  s.issue plainShape m (Ctx.scalar2 d a b mulHighN)

/-- SDIV (R124). -/
def execSdiv (m : Bool) (d a b : SReg) (s : State) : Host.Outcome State Fault Refusal :=
  s.issue plainShape m (Ctx.scalar2 d a b divS)

/-- SDIVN (R124). -/
def execSdivn (m : Bool) (d a b : SReg) (s : State) : Host.Outcome State Fault Refusal :=
  s.issue plainShape m (Ctx.scalar2 d a b divN)

/-- SREM (R124). -/
def execSrem (m : Bool) (d a b : SReg) (s : State) : Host.Outcome State Fault Refusal :=
  s.issue plainShape m (Ctx.scalar2 d a b remS)

/-- SREMN (R124). -/
def execSremn (m : Bool) (d a b : SReg) (s : State) : Host.Outcome State Fault Refusal :=
  s.issue plainShape m (Ctx.scalar2 d a b remN)

/-- SAND (R123). -/
def execSand (m : Bool) (d a b : SReg) (s : State) : Host.Outcome State Fault Refusal :=
  s.issue plainShape m (Ctx.scalar2 d a b (fun x y => x &&& y))

/-- SOR (R123). -/
def execSor (m : Bool) (d a b : SReg) (s : State) : Host.Outcome State Fault Refusal :=
  s.issue plainShape m (Ctx.scalar2 d a b (fun x y => x ||| y))

/-- SXOR (R123). -/
def execSxor (m : Bool) (d a b : SReg) (s : State) : Host.Outcome State Fault Refusal :=
  s.issue plainShape m (Ctx.scalar2 d a b (fun x y => x ^^^ y))

/-- SSHL (R125). -/
def execSshl (m : Bool) (d a b : SReg) (s : State) : Host.Outcome State Fault Refusal :=
  s.issue plainShape m (Ctx.scalar2 d a b shlS)

/-- SSHR (R125). -/
def execSshr (m : Bool) (d a b : SReg) (s : State) : Host.Outcome State Fault Refusal :=
  s.issue plainShape m (Ctx.scalar2 d a b shrS)

/-- SSRA (R125). -/
def execSsra (m : Bool) (d a b : SReg) (s : State) : Host.Outcome State Fault Refusal :=
  s.issue plainShape m (Ctx.scalar2 d a b sraS)

/-- SMIN (R123). -/
def execSmin (m : Bool) (d a b : SReg) (s : State) : Host.Outcome State Fault Refusal :=
  s.issue plainShape m (Ctx.scalar2 d a b minS)

/-- SMAX (R123). -/
def execSmax (m : Bool) (d a b : SReg) (s : State) : Host.Outcome State Fault Refusal :=
  s.issue plainShape m (Ctx.scalar2 d a b maxS)

/-- SMINN (R123). -/
def execSminn (m : Bool) (d a b : SReg) (s : State) : Host.Outcome State Fault Refusal :=
  s.issue plainShape m (Ctx.scalar2 d a b minN)

/-- SMAXN (R123). -/
def execSmaxn (m : Bool) (d a b : SReg) (s : State) : Host.Outcome State Fault Refusal :=
  s.issue plainShape m (Ctx.scalar2 d a b maxN)

/-- SCLZ (R123). -/
def execSclz (m : Bool) (d a : SReg) (s : State) : Host.Outcome State Fault Refusal :=
  s.issue plainShape m (Ctx.scalar1 d a clzS)

/-- SCNT (R123). -/
def execScnt (m : Bool) (d a : SReg) (s : State) : Host.Outcome State Fault Refusal :=
  s.issue plainShape m (Ctx.scalar1 d a cntS)

/-- SMOV (R123). -/
def execSmov (m : Bool) (d a : SReg) (s : State) : Host.Outcome State Fault Refusal :=
  s.issue plainShape m (Ctx.scalar1 d a id)

/-- SSEL (R123). -/
def execSsel (m : Bool) (d a b : SReg) (s : State) : Host.Outcome State Fault Refusal :=
  s.issue plainShape m (Ctx.scalar3 d a b fun x y o => if o = 0 then y else x)

/-- SADD_IMM (R126). -/
def execSaddImm (m : Bool) (d a : SReg) (imm : BitVec 11) (s : State) : Host.Outcome State Fault Refusal :=
  s.issue plainShape m (Ctx.scalar1 d a fun x => x + imm11 imm)

/-- SMUL_IMM (R126). -/
def execSmulImm (m : Bool) (d a : SReg) (imm : BitVec 11) (s : State) : Host.Outcome State Fault Refusal :=
  s.issue plainShape m (Ctx.scalar1 d a fun x => x * imm11 imm)

/-- SAND_IMM (R126). -/
def execSandImm (m : Bool) (d a : SReg) (imm : BitVec 11) (s : State) : Host.Outcome State Fault Refusal :=
  s.issue plainShape m (Ctx.scalar1 d a fun x => x &&& imm11 imm)

/-- SOR_IMM (R126). -/
def execSorImm (m : Bool) (d a : SReg) (imm : BitVec 11) (s : State) : Host.Outcome State Fault Refusal :=
  s.issue plainShape m (Ctx.scalar1 d a fun x => x ||| imm11 imm)

/-- SXOR_IMM (R126). -/
def execSxorImm (m : Bool) (d a : SReg) (imm : BitVec 11) (s : State) : Host.Outcome State Fault Refusal :=
  s.issue plainShape m (Ctx.scalar1 d a fun x => x ^^^ imm11 imm)

/-- SSHL_IMM (R126). -/
def execSshlImm (m : Bool) (d a : SReg) (cnt : BitVec 5) (s : State) : Host.Outcome State Fault Refusal :=
  s.issue plainShape m (Ctx.scalar1 d a fun x => x <<< cnt.toNat)

/-- SSHR_IMM (R126). -/
def execSshrImm (m : Bool) (d a : SReg) (cnt : BitVec 5) (s : State) : Host.Outcome State Fault Refusal :=
  s.issue plainShape m (Ctx.scalar1 d a fun x => x >>> cnt.toNat)

/-- SSRA_IMM (R126). -/
def execSsraImm (m : Bool) (d a : SReg) (cnt : BitVec 5) (s : State) : Host.Outcome State Fault Refusal :=
  s.issue plainShape m (Ctx.scalar1 d a fun x => x.sshiftRight cnt.toNat)

/-- SBFX (R127). -/
def execSbfx (m : Bool) (d a : SReg) (pos len1 : BitVec 5) (s : State) : Host.Outcome State Fault Refusal :=
  s.issue plainShape m (Ctx.scalar1 d a (bfxS pos len1))

/-- SBFI (R127). -/
def execSbfi (m : Bool) (d a : SReg) (pos len1 : BitVec 5) (s : State) : Host.Outcome State Fault Refusal :=
  s.issue plainShape m (Ctx.scalar2 d a d (bfiS pos len1))

/-- SLI (R128). -/
def execSli (m : Bool) (d : SReg) (imm : BitVec 16) (s : State) : Host.Outcome State Fault Refusal :=
  s.issue plainShape m (fun c => .ok (c.setS d (imm.signExtend 32)))

/-- SLIH (R128). -/
def execSlih (m : Bool) (d : SReg) (imm : BitVec 16) (s : State) : Host.Outcome State Fault Refusal :=
  s.issue plainShape m (Ctx.scalar1 d d fun x => imm ++ x.extractLsb' 0 16)

/-- SSET_EQ (R129). -/
def execSsetEq (m : Bool) (d a b : SReg) (s : State) : Host.Outcome State Fault Refusal :=
  s.issue plainShape m (Ctx.scalar2 d a b fun x y => flagS (x == y))

/-- SSET_NE (R129). -/
def execSsetNe (m : Bool) (d a b : SReg) (s : State) : Host.Outcome State Fault Refusal :=
  s.issue plainShape m (Ctx.scalar2 d a b fun x y => flagS (x != y))

/-- SSET_LT (R129). -/
def execSsetLt (m : Bool) (d a b : SReg) (s : State) : Host.Outcome State Fault Refusal :=
  s.issue plainShape m (Ctx.scalar2 d a b fun x y => flagS (x.slt y))

/-- SSET_LE (R129). -/
def execSsetLe (m : Bool) (d a b : SReg) (s : State) : Host.Outcome State Fault Refusal :=
  s.issue plainShape m (Ctx.scalar2 d a b fun x y => flagS (x.sle y))

/-- SSET_LTN (R129). -/
def execSsetLtn (m : Bool) (d a b : SReg) (s : State) : Host.Outcome State Fault Refusal :=
  s.issue plainShape m (Ctx.scalar2 d a b fun x y => flagS (x.ult y))

/-- SSET_LEN (R129). -/
def execSsetLen (m : Bool) (d a b : SReg) (s : State) : Host.Outcome State Fault Refusal :=
  s.issue plainShape m (Ctx.scalar2 d a b fun x y => flagS (x.ule y))

/-- SFADD (R130). -/
def execSfadd (m : Bool) (d a b : SReg) (s : State) : Host.Outcome State Fault Refusal :=
  s.issue plainShape m (Ctx.scalar2 d a b (fp2 Fmt.addBits))

/-- SFSUB (R130). -/
def execSfsub (m : Bool) (d a b : SReg) (s : State) : Host.Outcome State Fault Refusal :=
  s.issue plainShape m (Ctx.scalar2 d a b (fp2 Fmt.subBits))

/-- SFMUL (R130). -/
def execSfmul (m : Bool) (d a b : SReg) (s : State) : Host.Outcome State Fault Refusal :=
  s.issue plainShape m (Ctx.scalar2 d a b (fp2 Fmt.mulBits))

/-- SFFMA (R130). -/
def execSffma (m : Bool) (d a b : SReg) (s : State) : Host.Outcome State Fault Refusal :=
  s.issue plainShape m (Ctx.scalar3 d a b fmaS)

/-- SCVT_I2F (R131). -/
def execScvtI2f (m : Bool) (d a : SReg) (s : State) : Host.Outcome State Fault Refusal :=
  s.issue plainShape m (Ctx.scalarCvt d a .i2f)

/-- SCVT_N2F (R131). -/
def execScvtN2f (m : Bool) (d a : SReg) (s : State) : Host.Outcome State Fault Refusal :=
  s.issue plainShape m (Ctx.scalarCvt d a .n2f)

/-- SCVT_F2I (R131). -/
def execScvtF2i (m : Bool) (d a : SReg) (s : State) : Host.Outcome State Fault Refusal :=
  s.issue plainShape m (Ctx.scalarCvt d a .f2i)

/-- SCVT_F2N (R131). -/
def execScvtF2n (m : Bool) (d a : SReg) (s : State) : Host.Outcome State Fault Refusal :=
  s.issue plainShape m (Ctx.scalarCvt d a .f2n)

/-- SCVT_F2IR (R131). -/
def execScvtF2ir (m : Bool) (d a : SReg) (s : State) : Host.Outcome State Fault Refusal :=
  s.issue plainShape m (Ctx.scalarCvt d a .f2ir)

/-- SCVT_F2NR (R131). -/
def execScvtF2nr (m : Bool) (d a : SReg) (s : State) : Host.Outcome State Fault Refusal :=
  s.issue plainShape m (Ctx.scalarCvt d a .f2nr)

/-- SCVT_F2B (R131). -/
def execScvtF2b (m : Bool) (d a : SReg) (s : State) : Host.Outcome State Fault Refusal :=
  s.issue plainShape m (Ctx.scalarCvt d a .f2b)

/-- SCVT_B2F (R131). -/
def execScvtB2f (m : Bool) (d a : SReg) (s : State) : Host.Outcome State Fault Refusal :=
  s.issue plainShape m (Ctx.scalarCvt d a .b2f)

/-- SCVT_F2H (R131). -/
def execScvtF2h (m : Bool) (d a : SReg) (s : State) : Host.Outcome State Fault Refusal :=
  s.issue plainShape m (Ctx.scalarCvt d a .f2h)

/-- SCVT_H2F (R131). -/
def execScvtH2f (m : Bool) (d a : SReg) (s : State) : Host.Outcome State Fault Refusal :=
  s.issue plainShape m (Ctx.scalarCvt d a .h2f)

end Sys2Proof.Machine
end

