-- ==== Sys2Proof/Machine/Address.lean ====
section
/-! DEFINITION. Address arithmetic (spec/07_arith_instr.md R133), the space instructions (spec/19_isolation.md R370 to
R373) and the mask instructions (R134). -/

namespace Sys2Proof.Machine

/-! ## Shared forms -/

/-- `aD <- g(aA)`. -/
def Ctx.addr1 (d a : AReg) (g : DWord → DWord) (c : Ctx) : Except Trap Ctx := do
  let x ← c.getA a
  return c.setA d (g x)

/-- `aD <- aA + sext(sB) * k` (R133). -/
def Ctx.addrIndex (d a : AReg) (b : SReg) (k : DWord) (c : Ctx) : Except Trap Ctx := do
  let x ← c.getA a
  let y ← c.getS b
  return c.setA d (x + y.sext * k)

/-- `aD <- aA - aB` (R133). -/
def Ctx.addrSub (d a b : AReg) (c : Ctx) : Except Trap Ctx := do
  let x ← c.getA a
  let y ← c.getA b
  return c.setA d (x - y)

/-- AFROM (R133). -/
def Ctx.addrFrom (d : AReg) (a b : SReg) (c : Ctx) : Except Trap Ctx := do
  let lo ← c.getS a
  let hi ← c.getS b
  return c.setA d (DWord.mk hi lo)

/-- ATO (R133). -/
def Ctx.addrTo (d : SReg) (a : AReg) (hi : Bool) (c : Ctx) : Except Trap Ctx := do
  let x ← c.getA a
  return c.setS d (if hi then x.hi else x.lo)

/-! ## Spaces (R370 to R373) -/

/-- R371: the space code of a pointer for a wave. -/
def Wave.spaceCode (w : Wave) (a : DWord) : Word :=
  match windowOf a with
  | none => 7
  | some .glob => 0
  | some .priv => 1
  | some .scr => 2 ||| (if a.extractLsb' 40 10 == w.core then 0 else 8)
  | some .clus => 3 ||| (if a.extractLsb' 42 7 == w.core.extractLsb' 3 7 then 0 else 8)

/-- ASPC (R371). -/
def Ctx.aspc (d : SReg) (a : AReg) (c : Ctx) : Except Trap Ctx := do
  let x ← c.getA a
  return c.setS d (c.w.spaceCode x)

/-- The allocation of the wave's launch on a core (R197). -/
def Ctx.allocOn (c : Ctx) (core : Nat) : Option Alloc := (c.s.core core).alloc? c.w.launch

/-- The core offset of an address inside the allocation of the wave's launch on a core, from its base. -/
def Ctx.inAlloc (c : Ctx) (core off : Nat) : Option Nat :=
  match c.allocOn core with
  | some x => if x.base ≤ off && off < x.base + x.size then some (off - x.base) else none
  | none => none

/-- R372: the bare offset of a pointer in a space, or the code of the first failing check. -/
def Ctx.castTo (c : Ctx) (win : Window) (a : DWord) : Except (BitVec 16) DWord :=
  match windowOf a with
  | none => .error 0x1103
  | some x =>
    if x != win then .error 0x1104
    else match win with
      | .glob => .ok a
      | .priv => if (a.extractLsb' 0 24).toNat < c.s.psz c.w then .ok (a &&& 0xFF_FFFF) else .error 0x0104
      | .scr =>
        if a.extractLsb' 40 10 != c.w.core then .error 0x1101
        else match c.inAlloc c.w.core.toNat (a.extractLsb' 0 21).toNat with
          | some o => .ok (BitVec.ofNat 64 o)
          | none => .error 0x0104
      | .clus =>
        if a.extractLsb' 42 7 != c.w.core.extractLsb' 3 7 then .error 0x1102
        else match c.inAlloc (c.w.core.toNat / 8 * 8 + (a.extractLsb' 21 3).toNat) (a.extractLsb' 0 21).toNat with
          | some o => .ok (BitVec.ofNat 64 ((a.extractLsb' 21 3).toNat * 2097152 + o))
          | none => .error 0x0104

/-- ACAST (R372). -/
def Ctx.acast (win : Window) (d a : AReg) (c : Ctx) : Except Trap Ctx := do
  let x ← c.getA a
  match c.castTo win x with
  | .ok y => return c.setA d y
  | .error e => .error (c.trap e x)

/-- R373: the generic pointer of a bare offset; none outside the space. -/
def Ctx.genericOf (c : Ctx) (win : Window) (a : DWord) : Option DWord :=
  match win with
  | .glob => some a
  | .priv => if a.toNat < c.s.psz c.w then some (0xF000_0000_0000_0000 + a) else none
  | .scr => match c.allocOn c.w.core.toNat with
    | some x =>
      if a.toNat < x.size then
        some (0xF100_0000_0000_0000 + c.w.core.zeroExtend 64 * 0x100_0000_0000 + BitVec.ofNat 64 x.base + a)
      else none
    | none => none
  | .clus =>
    if a.extractLsb' 24 40 != 0 then none
    else match c.allocOn (c.w.core.toNat / 8 * 8 + (a.extractLsb' 21 3).toNat) with
      | some x =>
        if (a.extractLsb' 0 21).toNat < x.size then
          some (0xF200_0000_0000_0000 + (c.w.core.extractLsb' 3 7).zeroExtend 64 * 0x400_0000_0000
            + (a.extractLsb' 21 3).zeroExtend 64 * 0x20_0000 + BitVec.ofNat 64 x.base + (a.extractLsb' 0 21).zeroExtend 64)
        else none
      | none => none

/-- AGEN (R373). -/
def Ctx.agen (win : Window) (d a : AReg) (c : Ctx) : Except Trap Ctx := do
  let x ← c.getA a
  match c.genericOf win x with
  | some y => return c.setA d y
  | none => .error (c.trap 0x0104 x)

/-! ## Masks (R134) -/

/-- `D <- g(A, B)`. -/
def Ctx.mask2 (d a b : MBase) (g : Mask → Mask → Mask) (c : Ctx) : Except Trap Ctx := do
  let x ← c.getM a
  let y ← c.getM b
  return c.setM d (g x y)

/-- `D <- g(A)`. -/
def Ctx.mask1 (d a : MBase) (g : Mask → Mask) (c : Ctx) : Except Trap Ctx := do
  let x ← c.getM a
  return c.setM d (g x)

/-- `sD <- g(A)`. -/
def Ctx.maskScalar (d : SReg) (a : MBase) (g : Mask → Nat) (c : Ctx) : Except Trap Ctx := do
  let x ← c.getM a
  return c.setS d (BitVec.ofNat 32 (g x))

/-- MSET. -/
def Ctx.maskSet (d : MBase) (a : SReg) (c : Ctx) : Except Trap Ctx := do
  let x ← c.getS a
  return c.setM d (Mask.below (min x.toNat 96))

/-- MGET. -/
def Ctx.maskGet (d : SReg) (a : MBase) (b : SReg) (c : Ctx) : Except Trap Ctx := do
  let x ← c.getM a
  let y ← c.getS b
  return c.setS d (flagS (x.getLsbD y.toNat))

/-! ## The instructions -/

/-- AADD (R133). -/
def execAadd (m : Bool) (d a : AReg) (b : SReg) (s : State) : Host.Outcome State Fault Refusal :=
  s.issue plainShape m (Ctx.addrIndex d a b 1)

/-- ASUB (R133). -/
def execAsub (m : Bool) (d a b : AReg) (s : State) : Host.Outcome State Fault Refusal :=
  s.issue plainShape m (Ctx.addrSub d a b)

/-- AMOV (R133). -/
def execAmov (m : Bool) (d a : AReg) (s : State) : Host.Outcome State Fault Refusal :=
  s.issue plainShape m (Ctx.addr1 d a id)

/-- AFROM (R133). -/
def execAfrom (m : Bool) (d : AReg) (a b : SReg) (s : State) : Host.Outcome State Fault Refusal :=
  s.issue plainShape m (Ctx.addrFrom d a b)

/-- ATO (R133). -/
def execAto (m : Bool) (d : SReg) (a : AReg) (hi : Bool) (s : State) : Host.Outcome State Fault Refusal :=
  s.issue plainShape m (Ctx.addrTo d a hi)

/-- ALEA_1 (R133). -/
def execAlea1 (m : Bool) (d a : AReg) (b : SReg) (s : State) : Host.Outcome State Fault Refusal :=
  s.issue plainShape m (Ctx.addrIndex d a b 1)

/-- ALEA_2 (R133). -/
def execAlea2 (m : Bool) (d a : AReg) (b : SReg) (s : State) : Host.Outcome State Fault Refusal :=
  s.issue plainShape m (Ctx.addrIndex d a b 2)

/-- ALEA_4 (R133). -/
def execAlea4 (m : Bool) (d a : AReg) (b : SReg) (s : State) : Host.Outcome State Fault Refusal :=
  s.issue plainShape m (Ctx.addrIndex d a b 4)

/-- ALEA_8 (R133). -/
def execAlea8 (m : Bool) (d a : AReg) (b : SReg) (s : State) : Host.Outcome State Fault Refusal :=
  s.issue plainShape m (Ctx.addrIndex d a b 8)

/-- ALEA_16 (R133). -/
def execAlea16 (m : Bool) (d a : AReg) (b : SReg) (s : State) : Host.Outcome State Fault Refusal :=
  s.issue plainShape m (Ctx.addrIndex d a b 16)

/-- AADD_IMM (R133). -/
def execAaddImm (m : Bool) (d a : AReg) (imm : BitVec 11) (s : State) : Host.Outcome State Fault Refusal :=
  s.issue plainShape m (Ctx.addr1 d a fun x => x + imm.signExtend 64)

/-- ALI (R133). -/
def execAli (m : Bool) (d : AReg) (imm : BitVec 16) (s : State) : Host.Outcome State Fault Refusal :=
  s.issue plainShape m (fun c => .ok (c.setA d (imm.signExtend 64)))

/-- ASPC (R371). -/
def execAspc (m : Bool) (d : SReg) (a : AReg) (s : State) : Host.Outcome State Fault Refusal :=
  s.issue plainShape m (Ctx.aspc d a)

/-- ACAST_G (R372). -/
def execAcastG (m : Bool) (d a : AReg) (s : State) : Host.Outcome State Fault Refusal :=
  s.issue plainShape m (Ctx.acast .glob d a)

/-- ACAST_P (R372). -/
def execAcastP (m : Bool) (d a : AReg) (s : State) : Host.Outcome State Fault Refusal :=
  s.issue plainShape m (Ctx.acast .priv d a)

/-- ACAST_S (R372). -/
def execAcastS (m : Bool) (d a : AReg) (s : State) : Host.Outcome State Fault Refusal :=
  s.issue plainShape m (Ctx.acast .scr d a)

/-- ACAST_C (R372). -/
def execAcastC (m : Bool) (d a : AReg) (s : State) : Host.Outcome State Fault Refusal :=
  s.issue plainShape m (Ctx.acast .clus d a)

/-- AGEN_P (R373). -/
def execAgenP (m : Bool) (d a : AReg) (s : State) : Host.Outcome State Fault Refusal :=
  s.issue plainShape m (Ctx.agen .priv d a)

/-- AGEN_S (R373). -/
def execAgenS (m : Bool) (d a : AReg) (s : State) : Host.Outcome State Fault Refusal :=
  s.issue plainShape m (Ctx.agen .scr d a)

/-- AGEN_C (R373). -/
def execAgenC (m : Bool) (d a : AReg) (s : State) : Host.Outcome State Fault Refusal :=
  s.issue plainShape m (Ctx.agen .clus d a)

/-- MAND (R134). -/
def execMand (m : Bool) (d a b : MBase) (s : State) : Host.Outcome State Fault Refusal :=
  s.issue plainShape m (Ctx.mask2 d a b fun x y => x &&& y)

/-- MOR (R134). -/
def execMor (m : Bool) (d a b : MBase) (s : State) : Host.Outcome State Fault Refusal :=
  s.issue plainShape m (Ctx.mask2 d a b fun x y => x ||| y)

/-- MXOR (R134). -/
def execMxor (m : Bool) (d a b : MBase) (s : State) : Host.Outcome State Fault Refusal :=
  s.issue plainShape m (Ctx.mask2 d a b fun x y => x ^^^ y)

/-- MANDN (R134). -/
def execMandn (m : Bool) (d a b : MBase) (s : State) : Host.Outcome State Fault Refusal :=
  s.issue plainShape m (Ctx.mask2 d a b fun x y => x &&& ~~~y)

/-- MNOT (R134). -/
def execMnot (m : Bool) (d a : MBase) (s : State) : Host.Outcome State Fault Refusal :=
  s.issue plainShape m (Ctx.mask1 d a fun x => ~~~x)

/-- MCNT (R134). -/
def execMcnt (m : Bool) (d : SReg) (a : MBase) (s : State) : Host.Outcome State Fault Refusal :=
  s.issue plainShape m (Ctx.maskScalar d a maskCount)

/-- MFIRST (R134). -/
def execMfirst (m : Bool) (d : SReg) (a : MBase) (s : State) : Host.Outcome State Fault Refusal :=
  s.issue plainShape m (Ctx.maskScalar d a lowestLane)

/-- MSET (R134). -/
def execMset (m : Bool) (d : MBase) (a : SReg) (s : State) : Host.Outcome State Fault Refusal :=
  s.issue plainShape m (Ctx.maskSet d a)

/-- MGET (R134). -/
def execMget (m : Bool) (d : SReg) (a : MBase) (b : SReg) (s : State) : Host.Outcome State Fault Refusal :=
  s.issue plainShape m (Ctx.maskGet d a b)

end Sys2Proof.Machine
end

