-- ==== Sys2Proof/Machine/EventsWave.lean ====
section
/-! DEFINITION. The events of waves and engines (the rows of spec/opcode_table.json that have no encoding): leg commits,
fault delivery, rotation, the Hamper, the Sieve, Basalt, Porter, the Guide's placements, cairns and table walks. An event
whose condition does not hold leaves the state as it is (log entry 4). -/

namespace Sys2Proof.Machine

/-! ## Legs and slots -/

/-- R39: the outstanding results of a parked leg have returned, and it commits as far as it can. -/
def State.legCommit (s : State) (id : Nat) (k : SlotId) : State :=
  match s.parkedLeg id k with
  | none => s
  | some (w, _, leg) =>
    if w.state == .suspended then s else (s.setWave (w.setLeg k { leg with out := [] })).tryCommit id k

/-- LEG_COMMIT (R39). -/
def execLegCommit (w : Nat) (k : SlotId) (s : State) : Host.Outcome State Fault Refusal := .next (s.legCommit w k)

/-- R391, R394: what is due before a slot's next leg is delivered. -/
def State.deliver (s : State) (id : Nat) (k : SlotId) : State :=
  match s.wave? id with
  | none => s
  | some w => match (w.slot k).path, (w.slot k).leg with
    | some p, none =>
      if !w.issues k then s
      else match s.boundary w k p with
        | .error s' => s'
        | .ok _ => s
    | _, _ => s

/-- FAULT_DELIVERY (R394). -/
def execFaultDelivery (w : Nat) (k : SlotId) (s : State) : Host.Outcome State Fault Refusal := .next (s.deliver w k)

/-- R226, R161, R117: does what a slot's next instruction waits for still stand? -/
def State.stillWaits (s : State) (w : Wave) (k : SlotId) : SlotWait → Bool
  | .fence cls => w.fences.any fun f => f.2 &&& cls != 0 && !s.tokensDone f.1
  | .bar id par => match s.heldBar w (id.zeroExtend 32) with
    | some (b, x) => x.ph == par && !(w.hasRunning && !(w.slot k).inHandler)
        && !(s.porterOf w.id).any fun c => c.susp.isSome && !c.reported && c.desc.ben && c.desc.bar == b
    | none => false
  | .room need =>
    let o := (w.slot k.other).resv
    decide (w.rb < w.residentSlots + need + o)
      && (if w.hamper.any (·.reported) then (w.s0.inHandler || w.s1.inHandler) && !(w.slot k).inHandler
          else w.hamper.isNone && o != 0)

/-- R119, R317, R327: does a stopped Hamper access hold the slot's next leg: the image of a rebound wave, or a fill that the
path needs, while the handler of the stop runs? -/
def Wave.hamperHolds (w : Wave) (k : SlotId) : Bool :=
  let x := w.slot k
  x.leg.isNone && !x.inHandler && (w.s0.inHandler || w.s1.inHandler) && (w.hamper.any (·.reported))
    && (w.unread || match x.path with | some p => !(w.missing p.dep.toNat).isEmpty | none => false)

/-- R309: may the slot's next instruction issue? It holds a path, is not parked, and waits for no Sieve reply (R147), no
cairn (R277), no fence, barrier or run slots, no Hamper access, and for nothing that it lags for. -/
def State.slotReady (s : State) (w : Wave) (k : SlotId) : Bool :=
  let x := w.slot k
  x.path.isSome && !x.lag && w.issues k && !(s.core w.core.toNat).sieveQ.contains ⟨w.id, k, w.quad⟩
    && (match x.wait with | some y => !s.stillWaits w k y | none => true)
    && (match x.leg.bind (·.cwait) with | some id => !s.applying id | none => true)
    && !w.hamperHolds k

/-- R309: the ready slots of a quadrant, the waves bound earliest first and slot 0 before slot 1. -/
def State.readySlots (s : State) (core : BitVec 10) (quad : BitVec 2) : List (Wave × SlotId) :=
  (s.waves.filter fun w => w.core == core && w.quad == quad && w.state != .suspended).flatMap fun w =>
    ([SlotId.s0, SlotId.s1].filter fun k => s.slotReady w k).map fun k => (w, k)

/-- R309 step 1: of two slots that have been ready for 256 turns or more, the one that goes first. -/
def olderSlot (a b : Wave × SlotId) : Wave × SlotId :=
  let x := (a.1.slot a.2).age
  let y := (b.1.slot b.2).age
  if x < y then b
  else if y < x then a
  else if b.1.entry < a.1.entry then b else a

/-- R309 step 1: the slot that age puts first, if there is one. -/
def State.agedSlot (s : State) (core : BitVec 10) (quad : BitVec 2) : Option (Wave × SlotId) :=
  match (s.readySlots core quad).filter fun x => decide (256 ≤ (x.1.slot x.2).age) with
  | [] => none
  | x :: r => some (r.foldl olderSlot x)

/-- R309: the slot a quadrant picks. -/
def State.pickSlot (s : State) (core : BitVec 10) (quad : BitVec 2) : Option (Wave × SlotId) :=
  match s.agedSlot core quad with
  | some x => some x
  | none => (s.readySlots core quad).head?

/-- R309: after a quadrant's turn the slot that issued is new, and the others that were ready are one turn older. -/
def State.ageSlots (s : State) (id : Nat) (k : SlotId) : State :=
  match s.wave? id with
  | none => s
  | some w =>
    let rs := (s.readySlots w.core w.quad).map fun x => (x.1.id, x.2)
    let age := fun (x : Wave) (j : SlotId) =>
      let sl := x.slot j
      if x.id == id && j == k then { sl with age := 0 }
      else if rs.contains (x.id, j) then { sl with age := sl.age + 1 } else { sl with age := 0 }
    { s with waves := s.waves.map fun x =>
        if x.core == w.core && x.quad == w.quad then { x with s0 := age x .s0, s1 := age x .s1 } else x }

/-- ISSUE_AGE_PRIORITY (R309): the slot that age puts first issues next. -/
def execIssueAgePriority (w : Nat) (k : SlotId) (s : State) : Host.Outcome State Fault Refusal :=
  .next (match s.wave? w with
    | none => s
    | some x => match s.agedSlot x.core x.quad with
      | some y => if y.1.id == w && y.2 == k then { s with agenda := .issue w k :: s.agenda } else s
      | none => s)

/-- SLOT_ROTATION (R311): a slot that has committed 4,096 legs rotates between legs. -/
def execSlotRotation (w : Nat) (k : SlotId) (s : State) : Host.Outcome State Fault Refusal :=
  .next (match s.wave? w with
    | none => s
    | some x =>
      if decide (4096 ≤ (x.slot k).legs) && x.hasRunning && (x.slot k).leg.isNone && !(x.slot k).inHandler
          && x.state != .suspended then s.rotateSlot x k
      else s)

/-- HAMPER_SPILL (R325): a spill starts when RFREE is below what the open legs need. -/
def execHamperSpill (w : Nat) (s : State) : Host.Outcome State Fault Refusal :=
  .next (match s.wave? w with
    | none => s
    | some x =>
      if x.hamper.isSome || x.state == .suspended || decide (x.residentSlots + x.reserved ≤ x.rb) then s
      else match x.candidates with
        | [] => s
        | r :: _ => let y := s.spill x r; y.1.setWave y.2)

/-- WAITV_RECHECK (R336): the watched word of a parked leg is read again. -/
def execWaitvRecheck (w : Nat) (k : SlotId) (s : State) : Host.Outcome State Fault Refusal :=
  .next (match s.parkedLeg w k with
    | some (_, _, leg) => (match leg.closing with
      | some (.waitv _ _ _) => s.legCommit w k
      | _ => s)
    | none => s)

/-! ## Engines -/

/-- SIEVE_SERVE (R148). -/
def execSieveServe (core : BitVec 10) (s : State) : Host.Outcome State Fault Refusal :=
  .next (s.setCore (s.core core.toNat).serveSieve)

/-- BASALT_COMMAND_START (R173). -/
def execBasaltCommandStart (tok : DWord) (s : State) : Host.Outcome State Fault Refusal :=
  .next (match s.basalt.find? (·.tok == tok) with
    | some c => if c.susp.isSome then s else s.startBasalt c
    | none => s)

/-- BASALT_COMMAND_FINISH (R174). -/
def execBasaltCommandFinish (tok : DWord) (s : State) : Host.Outcome State Fault Refusal :=
  .next (match s.basalt.find? (·.tok == tok) with
    | some c => s.finishBasalt c
    | none => s)

/-- PORTER_CHUNK (R258). -/
def execPorterChunk (tok : DWord) (s : State) : Host.Outcome State Fault Refusal :=
  .next (match s.porter.find? (·.tok == tok) with
    | some c => if c.susp.isSome || !s.tokensDone c.after then s else s.porterChunk c
    | none => s)

/-- CAIRN_APPLY (R276). -/
def execCairnApply (world : BitVec 8) (s : State) : Host.Outcome State Fault Refusal := .next (s.applyCairn world)

/-! ## Placement of waves -/

/-- WAVE_BIND (R305): the Guide binds the next wave of a quadrant. -/
def execWaveBind (core : BitVec 10) (quad : BitVec 2) (s : State) : Host.Outcome State Fault Refusal :=
  .next (match s.nextLaunch core.toNat quad.toNat with
    | some l => s.bindWave l core.toNat quad.toNat
    | none => s)

/-- WAVE_PREEMPT (R308, R312): the Guide pre-empts a unit it has chosen, or goes on with one it has begun. -/
def execWavePreempt (launch : Nat) (core : BitVec 10) (s : State) : Host.Outcome State Fault Refusal :=
  .next (match s.launch? launch with
    | some l =>
      if s.preemptWanted l core.toNat || (s.unitOf l core.toNat).any (·.state == .suspending) then
        s.preemptUnit l core.toNat false
      else s
    | none => s)

/-- WAVE_REBIND (R305, R313). -/
def execWaveRebind (w : Nat) (core : BitVec 10) (quad : BitVec 2) (s : State) : Host.Outcome State Fault Refusal :=
  .next (s.rebind w core.toNat quad.toNat)

/-! ## Table walks (R379) -/

/-- R369, R377: an entry joins a controller's TLB. A partition fills only its WAYS groups of 64 entries there, so its oldest
entry leaves when they are full. -/
def State.fillTlb (s : State) (w : Walk) (l : Leaf) : State :=
  match s.asidPart? w.asid with
  | none => s
  | some p =>
    let mine := fun (e : TlbEntry) => e.die == w.die && e.ctl == w.ctl && p.hasAsid e.leaf.asid
    let tag := fun (e : TlbEntry) => mine e && e.leaf.asid == l.asid && e.leaf.va == l.va && e.leaf.size == l.size
    let old := s.tlb.filter fun e => !tag e
    { s with tlb := ⟨w.die, w.ctl, l⟩ :: (old.filter fun e => !mine e) ++ (old.filter mine).take (64 * p.ways - 1) }

/-- R379: a walk ends. It walks again when a later shoot-down covers its page; else a leaf that is present fills an
entry. -/
def State.endWalk (s : State) (idx : Nat) : State :=
  match s.walks[idx]? with
  | none => s
  | some w =>
    let leaf := s.leaf? w.asid w.va
    let size := match leaf with | some l => l.size | none => 0
    if s.shoots.any fun x => decide (w.seq < x.seq) && x.asid == w.asid && pageOverlaps w.va size x.lo x.len then
      { s with walks := s.walks.set idx { w with seq := s.shootSeq } }
    else
      let s := { s with walks := s.walks.eraseIdx idx }
      match leaf with
      | some l => if l.p then s.fillTlb w l else s
      | none => s

/-- TLB_WALK (R379). -/
def execTlbWalk (idx : Nat) (s : State) : Host.Outcome State Fault Refusal := .next (s.endWalk idx)

end Sys2Proof.Machine
end

