-- ==== Sys2Proof/Machine/EventsHost.lean ====
section
/-! DEFINITION. The events of the ports, links, the mailbox, power and start-up (spec/19_isolation.md, spec/20_recovery.md,
spec/21_host.md). -/

namespace Sys2Proof.Machine

/-! ## Answers to what a leg has sent (R240, R247, R417, R420) -/

/-- The port of a host page's DEV (R202). -/
def portOfDev (d : BitVec 4) : PortId := if d.toNat % 2 = 0 then .p0 else .p1

/-- The lanes of an outstanding read among `m`, each with its address; a scalar read is one request. -/
def OutRead.failing (o : OutRead) (m : Mask) : List (Nat × DWord) :=
  if o.scalar.isSome then o.lanes else o.lanes.filter fun l => m.getLsbD l.1

/-- R240: outstanding reads of a leg fail on lanes: the leg is discarded; the earliest such read decides, and FADDR holds
the address of its first failing lane. -/
def State.failRead (s : State) (id : Nat) (k : SlotId) (sel : OutRead → Bool) (lanes : Mask) (code : BitVec 16) : State :=
  match s.wave? id with
  | none => s
  | some w => match (w.slot k).leg with
    | none => s
    | some leg => match leg.out.find? fun o => sel o && !(o.failing lanes).isEmpty with
      | none => s
      | some o =>
        if w.state == .suspended then s
        else s.takeFault w k { code := code, addr := ((o.failing lanes).map (·.2)).headD 0,
                               mask := o.scalar.getD (maskOf ((o.failing lanes).map (·.1))) } leg.start

/-- Is a byte's page behind a port, or for no answer also in another device's memory? -/
def Piece.mayFail (p : Piece) (abort : Bool) : Bool :=
  match p.far? with
  | some u => u.1 || !abort
  | none => false

/-- R176: does a tile load read the byte at an address from a page whose read may fail so? -/
def State.loadReads (s : State) (c : BasaltCmd) (addr : DWord) (abort : Bool) : Bool :=
  let hit := fun (a st : DWord) (n : Nat) => ((List.range 32).any fun i => decide ((addr - rowAddr a st i).toNat < n))
    && (match s.leaf? c.asid addr with | some l => l.p && (⟨l.key addr, 1, some l⟩ : Piece).mayFail abort | none => false)
  match c.cmd with
  | .load t a st => windowOf a == some .glob && hit a st (rowBytes t)
  | .loadW _ a st e => hit a st 1 || hit a st (tileElems (loadElem e))
  | _ => false

/-- R259, R419, R420: the code with which an engine's read or write of a byte fails: Completer Abort and no answer of a host, no
answer of another device, no answer in CXL memory. A host's write is posted. -/
def Piece.failCode (p : Piece) (abort write : Bool) : Option (BitVec 16) :=
  match p.leaf with
  | none => none
  | some l => match l.loc.toNat with
    | 1 => if abort then none else some 0x2001
    | 2 => if abort then none else some 0x3003
    | 3 => if write then none else some (if abort then 0x3002 else 0x3003)
    | _ => none

/-- R259: the code with which a command's next chunk fails at an address that it reads. -/
def State.chunkReads (s : State) (c : PorterCmd) (addr : DWord) (abort : Bool) : Option (BitVec 16) :=
  let at_ := fun (base a : DWord) => if a != addr then none else match s.engineByte c base a .read with
    | .ok p => p.failCode abort false
    | .error _ => none
  ((List.range c.chunk).map (· + c.done)).findSome? fun j =>
    if c.desc.kind = 2 then
      ((List.range 4).findSome? fun i => at_ c.desc.table (c.desc.table + BitVec.ofNat 64 (4 * (j / c.desc.n0) + i))).or
        (match s.walkEntry c j with
          | .ok e => if e == 0xFFFF_FFFF then none else at_ c.desc.src (c.desc.src + c.desc.srcOff j e)
          | .error _ => none)
    else at_ c.desc.src (c.desc.src + c.desc.srcOff j 0)

/-- R420: the code with which a command's next chunk fails at an address that it writes. -/
def State.chunkWrites (s : State) (c : PorterCmd) (addr : DWord) (abort : Bool) : Option (BitVec 16) :=
  ((List.range c.chunk).map (· + c.done)).findSome? fun j =>
    let a := c.desc.dst + c.desc.dstOff j
    if a != addr then none else match s.engineByte c c.desc.dst a .write with
      | .ok p => p.failCode abort true
      | .error _ => none

/-- R259, R420: an access of a Porter command fails. The reads of a chunk in work have been answered. -/
def State.copyFail (s : State) (c : PorterCmd) (addr : DWord) (abort : Bool) : State :=
  match (if c.work.isSome then none else s.chunkReads c addr abort).or (s.chunkWrites c addr abort) with
  | some e =>
    let ls := match s.leaf? c.asid addr with | some l => if e == 0x2001 then [lineOf (l.key addr)] else [] | none => []
    (s.markPoison ls).setPorter { c with susp := some (e, addr), work := none }
  | none => s

/-- R176, R259, R420: an access of an engine's command is answered with Completer Abort, or gets no answer: the command
suspends. -/
def State.engineFail (s : State) (tok addr : DWord) (abort : Bool) : State :=
  let e := ((if abort then 0x3002 else 0x3003 : BitVec 16), addr)
  let s := { s with basalt := s.basalt.map fun (c : BasaltCmd) =>
    if c.tok == tok && !c.done && c.susp.isNone && s.loadReads c addr abort then
      { c with susp := some e, data := none, started := false }
    else c }
  match s.porter.find? (·.tok == tok) with
  | some c => if c.susp.isNone && s.tokensDone c.after then s.copyFail c addr abort else s
  | none => s

/-- R203: HAU of pages, in the tables and in the TLBs. -/
def State.setHau (s : State) (ls : List Leaf) : State :=
  let hit := fun (x : Leaf) => ls.any fun l => l.asid == x.asid && l.va == x.va && l.size == x.size
  let mark := fun (x : Leaf) => if hit x then { x with hau := true } else x
  { s with leaves := s.leaves.map mark, tlb := s.tlb.map fun (e : TlbEntry) => { e with leaf := mark e.leaf } }

/-- R247: of two DEFER bits the one of the lower code. -/
def lowerBit (a b : BitVec 16) : BitVec 16 := if a = 0 then b else if b.toNat < a.toNat then b else a

/-- R247, R420: lanes of a sent atomic or CLAIM fail with a fault that is due after the leg, the lowest code's where they fail
in different ways; the leg commits once every lane that was sent has failed, and otherwise when the rest are answered. -/
def State.failAtomic (s : State) (id : Nat) (k : SlotId) (sel : Bool × BitVec 4 → Bool) (lanes : Mask) (bit : Nat)
    (performed : Bool) : State :=
  match s.parkedLeg id k with
  | none => s
  | some (w, _, leg) =>
    let far := leg.closing.elim [] Closing.far
    let hit := far.filter fun l => lanes.getLsbD l.1 && !leg.failed.getLsbD l.1 && l.2.2.any fun p => match p.far? with | some u => sel u | none => false
    if !leg.sent || hit.isEmpty then s
    else
      let s := if bit = 1 then s.setHau (hit.flatMap fun l => l.2.2.filterMap (·.leaf)) else s
      let m := maskOf (hit.map (·.1))
      let s := s.setWave (w.setLeg k { leg with
        failed := leg.failed ||| m, failBit := lowerBit leg.failBit (deferBit bit),
        failDone := leg.failDone ||| (if performed then m else 0) })
      if far.all fun l => (leg.failed ||| m).getLsbD l.1 then s.tryCommit id k else s

/-- Does a leg wait for an atomic that it has sent to an agent? -/
def State.atomicSent (s : State) (id : Nat) (k : SlotId) (sel : Bool × BitVec 4 → Bool) : Bool :=
  match s.parkedLeg id k with
  | none => false
  | some (_, _, leg) => leg.sent && (leg.closing.elim [] Closing.far).any fun l =>
      l.2.2.any fun p => match p.far? with | some u => sel u | none => false

/-- R417, R420: the fetch of a slot's next instruction gets no answer. -/
def State.failOther (s : State) (id : Nat) (k : SlotId) (sel : Bool × BitVec 4 → Bool) : State :=
  match s.wave? id with
  | none => s
  | some w => match (w.slot k).path with
    | none => s
    | some p =>
      let leg := (w.slot k).leg
      let at_ := (leg.map (·.next)).getD p.pc
      let hit := match s.translate w.asid at_ 4 .fetch with
        | .ok x => (match x.far? with | some u => sel u | none => false)
        | .error _ => false
      if hit && w.issues k then
        s.takeFault w k { code := 0x3003, addr := at_, mask := (leg.map (·.e0)).getD p.e } ((leg.map (·.start)).getD p.pc)
      else s

/-- R240, R420: has a slot's leg an outstanding access to an agent? -/
def State.readSent (s : State) (id : Nat) (k : SlotId) (sel : Bool × BitVec 4 → Bool) : Bool :=
  match s.wave? id with
  | some w => (match (w.slot k).leg with | some leg => leg.out.any fun o => !o.cxl && sel (o.host, o.dev) | none => false)
  | none => false

/-- R240, R247: what a slot's leg has sent to an agent gets no answer on lanes. -/
def State.noReply (s : State) (id : Nat) (k : SlotId) (sel : Bool × BitVec 4 → Bool) (lanes : Mask) (performed : Bool) :
    State :=
  if s.atomicSent id k sel then s.failAtomic id k sel lanes 3 performed
  else s.failRead id k (fun o => !o.cxl && sel (o.host, o.dev)) lanes 0x3003

/-- R240, R247, R417, R420: an access of a slot to an agent gets no answer. -/
def State.noAnswer (s : State) (id : Nat) (k : SlotId) (sel : Bool × BitVec 4 → Bool) (lanes : Mask) (performed : Bool) :
    State :=
  if s.atomicSent id k sel || s.readSent id k sel then s.noReply id k sel lanes performed else s.failOther id k sel

/-- HOST_ATOMIC_FAILURE (R247): Unsupported Request (0x3001) or Completer Abort (0x3002) for some lanes. -/
def execHostAtomicFailure (w : Nat) (k : SlotId) (lanes : Mask) (abort : Bool) (s : State) :
    Host.Outcome State Fault Refusal :=
  .next (s.failAtomic w k (fun u => u.1) lanes (if abort then 2 else 1) false)

/-- COMPLETION_TIMEOUT (R417). -/
def execCompletionTimeout (w : Nat) (k : SlotId) (lanes : Mask) (performed : Bool) (s : State) :
    Host.Outcome State Fault Refusal :=
  .next (s.noAnswer w k (fun u => u.1) lanes performed)

/-- DOMAIN_RESPONSE_TIMEOUT (R420). -/
def execDomainResponseTimeout (w : Nat) (k : SlotId) (lanes : Mask) (performed : Bool) (s : State) :
    Host.Outcome State Fault Refusal :=
  .next (s.noAnswer w k (fun u => !u.1) lanes performed)

/-- LATE_COMPLETION (R417): discarded. -/
def execLateCompletion (_port : PortId) (s : State) : Host.Outcome State Fault Refusal := .next s

/-- POSTED_WRITE_ERROR (R240, R417). -/
def execPostedWriteError (port : PortId) (addr : DWord) (s : State) : Host.Outcome State Fault Refusal :=
  .next (s.failPosted port addr)

/-- R419: the lanes of a slot's outstanding stores to some lines of CXL memory behind a port. -/
def State.cxlLanes (s : State) (w : Wave) (leg : Leg) (dev : BitVec 4) (lines : Nat → Bool) : List (Nat × DWord × Option Mask) :=
  let at_ := fun (va : DWord) => (s.legStores w leg).any fun h => h.va == va && (pieceLines h.pieces).any lines
  (leg.out.filter fun o => o.cxl && o.dev == dev).flatMap fun o =>
    (o.lanes.filter fun l => at_ l.2).map fun l => (l.1, l.2, o.scalar)

/-- R419: a slot's stores to some lines of CXL memory get no answer: 0x2001, and the lines are poisoned. -/
def State.failCxlStore (s : State) (dev : BitVec 4) (lines : Nat → Bool) (id : Nat) (k : SlotId) : Option State :=
  match s.wave? id with
  | none => none
  | some w => match (w.slot k).leg with
    | none => none
    | some leg => match s.cxlLanes w leg dev lines with
      | [] => none
      | x :: r =>
        let ps := ((s.legStores w leg).flatMap (·.pieces)).filter fun p => p.owner? == some (true, dev)
        if w.state == .suspended then none
        else some (s.takeFault w k { code := 0x2001, addr := x.2.1, poison := (pieceLines ps).filter lines,
                                     mask := x.2.2.getD (maskOf ((x :: r).map (·.1))) } leg.start)

/-- CXL_RESPONSE_TIMEOUT (R419): a store that waits for its answer takes the fault. Else the line holds an error that its next
reader takes as 0x2001 and that poisons it. -/
def execCxlResponseTimeout (port : BitVec 2) (addr : DWord) (s : State) : Host.Outcome State Fault Refusal :=
  let key := physKey 1 (port.zeroExtend 4) addr.toNat
  .next (((s.waves.flatMap fun w => [(w.id, SlotId.s0), (w.id, SlotId.s1)]).findSome? fun x =>
    s.failCxlStore (port.zeroExtend 4) (· == lineOf key) x.1 x.2).getD (s.errorAt key))

/-- JEXKIN_LINK_LOSS (R420). -/
def execJexkinLinkLoss (link : BitVec 4) (s : State) : Host.Outcome State Fault Refusal :=
  .next { s with jexUp := s.jexUp &&& ~~~BitVec.ofNat 12 (2 ^ link.toNat) }

/-- CXL_LINK_LOSS (R419): the stores that wait for an answer of the port fail with it. -/
def execCxlLinkLoss (port : BitVec 2) (s : State) : Host.Outcome State Fault Refusal :=
  let s := { s with cxlUp := s.cxlUp &&& ~~~BitVec.ofNat 4 (2 ^ port.toNat) }
  .next ((s.waves.flatMap fun w => [(w.id, SlotId.s0), (w.id, SlotId.s1)]).foldl
    (fun s x => (s.failCxlStore (port.zeroExtend 4) (fun _ => true) x.1 x.2).getD s) s)

/-- R245, R420: a domain access from a peer, against this device's export table; an atomic answers with the old value. -/
def State.domainInbound (s : State) (r : DomainReq) : State :=
  let atRange := fun (a n : Nat) (reads : Bool) (go : State) =>
    if !exported s.exports a n then { s with domAnswer := .refused 0x1002 }
    else match (if reads then s.lineFault (linesOf a n) else none) with
      | some e => { s.markPoison e.2 with domAnswer := .refused e.1 }
      | none => go
  match r with
  | .read a n => atRange a.toNat n true { s with domAnswer := .data (Memory.read s.mem a.toNat n) }
  | .write a b => atRange a.toNat b.length false { s with mem := Memory.write s.mem a.toNat b, domAnswer := .none }
  | .atomic a op ty v c =>
    let n := atomBytes op ty
    let old := Memory.read s.mem a.toNat n
    let new := atomNew op ty n (leNat old) (v.toNat % 2 ^ (8 * n)) (c.toNat % 2 ^ (8 * n))
    atRange a.toNat n true { s with mem := Memory.write s.mem a.toNat (leBytes new n), domAnswer := .data old }

/-- DOMAIN_INBOUND_ACCESS (R420). -/
def execDomainInboundAccess (_peer : BitVec 4) (req : DomainReq) (s : State) : Host.Outcome State Fault Refusal :=
  .next (s.domainInbound req)

/-! ## Ports -/

/-- R418: everything that waves have sent to a port fails. -/
def State.failPort (s : State) (k : PortId) : State :=
  (s.waves.flatMap fun w => [(w.id, SlotId.s0), (w.id, SlotId.s1)]).foldl
    (fun s x => s.noReply x.1 x.2 (fun u => u.1 && portOfDev u.2 == k) (Mask.below 96) false) s

/-- FAULT_QUEUE_FLUSH (R406). -/
def execFaultQueueFlush (part : BitVec 3) (s : State) : Host.Outcome State Fault Refusal := .next (s.flushQueue part 4096)

/-- ROOT_LAUNCH (R304). -/
def execRootLaunch (port : PortId) (rlctl : Word) (s : State) : Host.Outcome State Fault Refusal :=
  .next (s.writeRlctl port rlctl)

/-- SEMAPHORE_ACQUIRE (R382). -/
def execSemaphoreAcquire (port : PortId) (s : State) : Host.Outcome State Fault Refusal := .next (s.readReg port 0x100)

/-- SEMAPHORE_RELEASE (R382). -/
def execSemaphoreRelease (port : PortId) (s : State) : Host.Outcome State Fault Refusal := .next (s.dropSemaphore port)

/-- PORT_REPLAY (R408). -/
def execPortReplay (port : PortId) (ctl : DWord) (s : State) : Host.Outcome State Fault Refusal :=
  .next (s.portReplay port ctl)

/-- REGISTER_WRITE (R8). -/
def execRegisterWrite (port : PortId) (off : BitVec 16) (val : DWord) (s : State) : Host.Outcome State Fault Refusal :=
  .next (s.writeReg port off val)

/-- APERTURE_ACCESS (R416). -/
def execApertureAccess (port : PortId) (req : InboundReq) (s : State) : Host.Outcome State Fault Refusal :=
  .next (s.inbound port req)

/-- INBOUND_ATOMICOP (R416). -/
def execInboundAtomicop (port : PortId) (req : InboundAtomic) (s : State) : Host.Outcome State Fault Refusal :=
  .next (s.inboundAtomic port req)

/-- R418: a hot reset of a port. -/
def State.hotReset (s : State) (k : PortId) : State := (s.resetPort k true).failPort k

/-- PORT_HOT_RESET (R418). -/
def execPortHotReset (port : PortId) (s : State) : Host.Outcome State Fault Refusal := .next (s.hotReset port)

/-- PORT_LINK_LOSS (R418). -/
def execPortLinkLoss (port : PortId) (s : State) : Host.Outcome State Fault Refusal :=
  .next ((s.resetPort port false).failPort port)

/-- FUNDAMENTAL_RESET (R418): of both ports, or of one while the other's link is down, it resets the device; of one port
alone it affects only that port. -/
def execFundamentalReset (both : Bool) (port : PortId) (s : State) : Host.Outcome State Fault Refusal :=
  .next (if both || !(s.port port.other).linkUp then s.deviceReset else s.hotReset port)

/-! ## The mailbox (R383 to R387, R425) -/

/-- PART_SET (R368). -/
def execPartSet (port : PortId) (s : State) : Host.Outcome State Fault Refusal := .next (s.request port 0x01 runPartSet)

/-- PART_RELEASE (R386). -/
def execPartRelease (port : PortId) (s : State) : Host.Outcome State Fault Refusal :=
  .next (s.request port 0x02 runPartRelease)

/-- MAP (R385). -/
def execMap (port : PortId) (s : State) : Host.Outcome State Fault Refusal := .next (s.request port 0x10 (runMap port))

/-- UNMAP (R385). -/
def execUnmap (port : PortId) (s : State) : Host.Outcome State Fault Refusal := .next (s.request port 0x11 runUnmap)

/-- PROTECT (R385). -/
def execProtect (port : PortId) (s : State) : Host.Outcome State Fault Refusal := .next (s.request port 0x12 runProtect)

/-- WORLD_CREATE (R385). -/
def execWorldCreate (port : PortId) (s : State) : Host.Outcome State Fault Refusal :=
  .next (s.request port 0x20 runWorldCreate)

/-- WORLD_DESTROY (R384). -/
def execWorldDestroy (port : PortId) (s : State) : Host.Outcome State Fault Refusal :=
  .next (s.request port 0x21 runWorldDestroy)

/-- HEAD_CONFIG (R349). -/
def execHeadConfig (port : PortId) (s : State) : Host.Outcome State Fault Refusal :=
  .next (s.request port 0x30 runHeadConfig)

/-- IDENTITY (R388). -/
def execIdentity (port : PortId) (s : State) : Host.Outcome State Fault Refusal := .next (s.request port 0x40 runIdentity)

/-- ATTEST (R390). -/
def execAttest (port : PortId) (s : State) : Host.Outcome State Fault Refusal := .next (s.request port 0x41 runAttest)

/-- LIFECYCLE (R387). -/
def execLifecycle (port : PortId) (s : State) : Host.Outcome State Fault Refusal :=
  .next (s.request port 0x50 runLifecycle)

/-- FW_UPDATE (R425). -/
def execFwUpdate (port : PortId) (s : State) : Host.Outcome State Fault Refusal :=
  .next (s.request port 0x60 (runFwUpdate port))

/-- SUSPEND (R383). -/
def execSuspend (port : PortId) (s : State) : Host.Outcome State Fault Refusal := .next (s.request port 0x70 runSuspend)

/-- RESUME (R383). -/
def execResume (port : PortId) (s : State) : Host.Outcome State Fault Refusal := .next (s.request port 0x71 runResume)

/-- WORK_REQUEST (R384). -/
def execWorkRequest (port : PortId) (s : State) : Host.Outcome State Fault Refusal :=
  .next (s.requestRefused port (fun op => op == 0x80) 0x000B)

/-- UNKNOWN_OP (R384). -/
def execUnknownOp (port : PortId) (s : State) : Host.Outcome State Fault Refusal :=
  .next (s.requestRefused port (fun op => (opLength op).isNone && op != 0x80) 0x0C01)

/-! ## Start-up and power -/

/-- START_TIMEOUT (R423). -/
def execStartTimeout (s : State) : Host.Outcome State Fault Refusal := .next (if s.booting then s.failStart 4 else s)

/-- POWER_RAIL_FAULT (R424). -/
def execPowerRailFault (s : State) : Host.Outcome State Fault Refusal := .next (if s.booting then s.failStart 7 else s)

/-- POWER_THROTTLE (R422). -/
def execPowerThrottle (part : BitVec 3) (power : Word) (s : State) : Host.Outcome State Fault Refusal :=
  .next (s.throttle part power)

/-- THERMAL_THROTTLE (R422). -/
def execThermalThrottle (tmax : BitVec 16) (s : State) : Host.Outcome State Fault Refusal := .next (s.thermal tmax)

/-- THERMAL_STOP (R422). -/
def execThermalStop (tmax : BitVec 16) (s : State) : Host.Outcome State Fault Refusal := .next (s.thermalStop tmax)

/-! ## Lookout -/

/-- REFRESH_LATCH (R353). -/
def execRefreshLatch (head : BitVec 4) (s : State) : Host.Outcome State Fault Refusal := .next (s.refreshLatch head.toNat)

/-- BAND_START (R356). -/
def execBandStart (head : BitVec 4) (s : State) : Host.Outcome State Fault Refusal := .next (s.bandStart head.toNat)

/-- BAND_PROJECTION (R357). -/
def execBandProjection (head : BitVec 4) (late : Bool) (s : State) : Host.Outcome State Fault Refusal :=
  .next (s.bandLate head.toNat late)

/-- BAND_LAYER_END (R357). -/
def execBandLayerEnd (head : BitVec 4) (late : Bool) (s : State) : Host.Outcome State Fault Refusal :=
  .next (s.bandLate head.toNat late)

/-- TIER0_DEADLINE (R357). -/
def execTier0Deadline (head : BitVec 4) (s : State) : Host.Outcome State Fault Refusal := .next (s.tier0Deadline head.toNat)

/-- TIER1_CUTOFF (R357). -/
def execTier1Cutoff (head : BitVec 4) (s : State) : Host.Outcome State Fault Refusal := .next (s.tier1Cutoff head.toNat)

/-- BAND_DONE (R360). -/
def execBandDone (head : BitVec 4) (s : State) : Host.Outcome State Fault Refusal := .next (s.bandDone head.toNat)

/-- LINE_SCANOUT (R349). -/
def execLineScanout (head : BitVec 4) (s : State) : Host.Outcome State Fault Refusal := .next (s.lineScanout head.toNat)

/-- LOOKOUT_ACCESS_FAULT (R361). -/
def execLookoutAccessFault (head : BitVec 4) (code : BitVec 16) (addr : DWord) (s : State) :
    Host.Outcome State Fault Refusal :=
  .next (s.lookAccessFault head.toNat code addr)

end Sys2Proof.Machine
end

