-- ==== Sys2Proof/Machine/Lane.lean ====
section
/-! DEFINITION. Lane arithmetic, compares, moves, cross-lane reads, reductions and run management
(spec/07_arith_instr.md R135 to R146; spec/06_runs.md R109 to R113). -/

namespace Sys2Proof.Machine

/-- A 96-bit instruction that is neither a memory instruction nor closing. -/
def laneShape : Shape := { words := 3 }

/-! ## Operands by type (R28, R72, R73, R110, R135) -/

/-- A lane source: one value of the type's width a lane, and the boundaries it adds (R105). -/
structure Src where
  vals : List Nat
  bnd : Mask

/-- A source of a type: a register or pair, or the immediate, sign-extended for `.i64`. -/
def Ctx.src (c : Ctx) (t : LTy) (x : Sel) (imm : Word) : Except Trap Src :=
  if wideTy t then do
    let v ← c.lanes64 x imm (t == .i64)
    return ⟨v.vals.map BitVec.toNat, v.bnd⟩
  else do
    let v ← c.lanes x imm
    return ⟨v.vals.map BitVec.toNat, v.bnd⟩

/-- Write a result of a type. -/
def Ctx.dst (c : Ctx) (t : LTy) (x : Sel) (vals : List Nat) (bnd : Mask) : Except Trap Ctx :=
  if wideTy t then c.setLanes64 x (vals.map (BitVec.ofNat 64)) bnd else c.setLanes x (vals.map (BitVec.ofNat 32)) bnd

/-- R136: the generic lane effect with one, two and three sources. -/
def Ctx.lane1 (f : LA) (op : Nat → Nat) (c : Ctx) : Except Trap Ctx := do
  let a ← c.src f.ty f.sa f.imm
  c.dst f.ty f.dst (a.vals.map op) a.bnd

def Ctx.lane2 (f : LA) (op : Nat → Nat → Nat) (c : Ctx) : Except Trap Ctx := do
  let a ← c.src f.ty f.sa f.imm
  let b ← c.src f.ty f.sb f.imm
  c.dst f.ty f.dst (List.zipWith op a.vals b.vals) (a.bnd ||| b.bnd)

def Ctx.lane3 (f : LA) (op : Nat → Nat → Nat → Nat) (c : Ctx) : Except Trap Ctx := do
  let a ← c.src f.ty f.sa f.imm
  let b ← c.src f.ty f.sb f.imm
  let d ← c.src f.ty f.sc f.imm
  c.dst f.ty f.dst (List.zipWith (fun g z => g z) (List.zipWith op a.vals b.vals) d.vals) (a.bnd ||| b.bnd ||| d.bnd)

/-! ## Values by type -/

/-- Bits of a type's value. -/
def tyBits (t : LTy) : Nat := if wideTy t then 64 else 32

def floatTy (t : LTy) : Bool := t == .f32 || t == .bf16x2 || t == .f16x2
def packedTy (t : LTy) : Bool := t == .bf16x2 || t == .f16x2

/-- The element format of a float type (R73). -/
def tyFmt (t : LTy) : Fmt :=
  match t with
  | .bf16x2 => bf16
  | .f16x2 => fp16
  | _ => fp32

/-- R96: element `h` of a packed value. -/
def half (a h : Nat) : Nat := a / 2 ^ (16 * h) % 65536

/-- R96: an operation on each element of a float type. -/
def each1 (t : LTy) (g : Nat → Nat) (a : Nat) : Nat :=
  if packedTy t then g (half a 0) + 65536 * g (half a 1) else g a

def each2 (t : LTy) (g : Nat → Nat → Nat) (a b : Nat) : Nat :=
  if packedTy t then g (half a 0) (half b 0) + 65536 * g (half a 1) (half b 1) else g a b

def each3 (t : LTy) (g : Nat → Nat → Nat → Nat) (a b d : Nat) : Nat :=
  if packedTy t then g (half a 0) (half b 0) (half d 0) + 65536 * g (half a 1) (half b 1) (half d 1) else g a b d

/-- Is an integer type signed (R139)? -/
def signedTy (t : LTy) : Bool := t == .i32 || t == .i64

/-- The integer a value of a type stands for. -/
def intVal (t : LTy) (a : Nat) : Int := if signedTy t then sintOf (tyBits t) a else a

/-- R139, R95: an exact integer narrowed to a type, modulo or clamped. -/
def narrow (t : LTy) (sat : Bool) (x : Int) : Nat :=
  let r := intRange (tyBits t) (signedTy t)
  let y := if sat then max r.1 (min x r.2) else x
  (y % ((2 ^ tyBits t : Nat) : Int)).toNat

/-- R137, R139: sums, differences and products. -/
def addOf (f : LA) (a b : Nat) : Nat :=
  if floatTy f.ty then each2 f.ty ((tyFmt f.ty).addBits f.rm f.sat) a b
  else narrow f.ty f.sat (intVal f.ty a + intVal f.ty b)

def subOf (f : LA) (a b : Nat) : Nat :=
  if floatTy f.ty then each2 f.ty ((tyFmt f.ty).subBits f.rm f.sat) a b
  else narrow f.ty f.sat (intVal f.ty a - intVal f.ty b)

def mulOf (f : LA) (a b : Nat) : Nat := each2 f.ty ((tyFmt f.ty).mulBits f.rm f.sat) a b
def fmaOf (f : LA) (a b d : Nat) : Nat := each3 f.ty ((tyFmt f.ty).fmaBits f.rm f.sat) a b d
def imulOf (f : LA) (a b : Nat) : Nat := narrow f.ty f.sat (intVal f.ty a * intVal f.ty b)

/-- R139: the upper half of the exact product. -/
def imulhOf (t : LTy) (a b : Nat) : Nat :=
  (intVal t a * intVal t b / ((2 ^ tyBits t : Nat) : Int) % ((2 ^ tyBits t : Nat) : Int)).toNat

/-- R138, R139: minimum and maximum. -/
def pickOf (t : LTy) (least : Bool) (a b : Nat) : Nat :=
  if floatTy t then each2 t ((tyFmt t).pick least) a b
  else if decide (intVal t a < intVal t b) == least then a else b

/-- R138: the sign bit cleared or inverted. -/
def absBits (f : Fmt) (a : Nat) : Nat := a % 2 ^ (f.width - 1)
def negBits (f : Fmt) (a : Nat) : Nat := (a + 2 ^ (f.width - 1)) % 2 ^ f.width

/-- R138, R139: VABS and VNEG. -/
def absOf (f : LA) (a : Nat) : Nat :=
  if floatTy f.ty then each1 f.ty (absBits (tyFmt f.ty)) a else narrow f.ty f.sat (intVal f.ty a).natAbs
def negOf (f : LA) (a : Nat) : Nat :=
  if floatTy f.ty then each1 f.ty (negBits (tyFmt f.ty)) a else narrow f.ty f.sat (-(intVal f.ty a))

/-- R139: shifts by an unsigned 32-bit count. -/
def shlOf (t : LTy) (a b : Nat) : Nat := if tyBits t ≤ b then 0 else a * 2 ^ b % 2 ^ tyBits t
def shrOf (t : LTy) (a b : Nat) : Nat := if tyBits t ≤ b then 0 else a / 2 ^ b
def sraOf (t : LTy) (a b : Nat) : Nat :=
  narrow t false (sintOf (tyBits t) a / ((2 ^ (min b (tyBits t)) : Nat) : Int))

/-- R139: a shift: the count is a 32-bit lane value whatever the type. -/
def Ctx.laneShift (f : LA) (op : Nat → Nat → Nat) (c : Ctx) : Except Trap Ctx := do
  let a ← c.src f.ty f.sa f.imm
  let b ← c.lanes f.sb f.imm
  c.dst f.ty f.dst (List.zipWith op a.vals (b.vals.map BitVec.toNat)) (a.bnd ||| b.bnd)

/-- R140: a special function of FP32. -/
def Ctx.special (f : LA) (g : Bool → Word → Word) (c : Ctx) : Except Trap Ctx :=
  c.lane1 f fun a => (g f.sat (BitVec.ofNat 32 a)).toNat

/-! ## Compares (R141) -/

/-- The conditions of VCMP. -/
inductive Cond where
  | eq | ne | lt | le | gt | ge | un | ord
  deriving DecidableEq, Repr

/-- A condition by an order of two numbers. -/
def Cond.ofOrder (k : Cond) (o : Ordering) : Bool :=
  match k with
  | .eq => o == .eq
  | .ne => o != .eq
  | .lt => o == .lt
  | .le => o != .gt
  | .gt => o == .gt
  | .ge => o != .lt
  | .un => false
  | .ord => true

/-- A condition on float encodings. -/
def Cond.float (k : Cond) (f : Fmt) (a b : Nat) : Bool :=
  let x := f.decode a
  let y := f.decode b
  if x.isNan || y.isNan then k == .ne || k == .un else k.ofOrder (Val.compare x y)

/-- A condition on values of a type; a packed type needs it of both elements. -/
def Cond.holds (k : Cond) (t : LTy) (a b : Nat) : Bool :=
  if packedTy t then k.float (tyFmt t) (half a 0) (half b 0) && k.float (tyFmt t) (half a 1) (half b 1)
  else if floatTy t then k.float fp32 a b
  else k.ofOrder (compare (intVal t a) (intVal t b))

/-- VCMP. -/
def Ctx.vcmp (f : LA) (k : Cond) (c : Ctx) : Except Trap Ctx := do
  let a ← c.src f.ty f.sa f.imm
  let b ← c.src f.ty f.sb f.imm
  return c.setM f.mb (maskOf (c.active.filter fun l => k.holds f.ty (a.vals.getD l 0) (b.vals.getD l 0)))

/-! ## Selects and moves (R142) -/

/-- VSEL. -/
def Ctx.vsel (f : LA) (c : Ctx) : Except Trap Ctx := do
  let a ← c.src f.ty f.sa f.imm
  let b ← c.src f.ty f.sb f.imm
  let m ← c.getM f.mb
  c.dst f.ty f.dst ((List.range c.w.ww).map fun l => if m.getLsbD l then a.vals.getD l 0 else b.vals.getD l 0)
    (a.bnd ||| b.bnd ||| maskBounds m)

/-- Is lane `k` active (R121)? -/
def Ctx.isActive (c : Ctx) (k : Nat) : Bool := decide (k < c.w.ww) && c.leg.e0.getLsbD k

/-- R142: write one value to the active lanes. Of the destination's old boundaries only those at its inactive lanes stand: the
result costs their segments and one (log entry 46). -/
def Ctx.dstOne (c : Ctx) (t : LTy) (x : Sel) (v : Nat) : Except Trap Ctx := do
  let wide := wideTy t
  let inner := c.leg.e0 &&& (c.leg.e0 <<< 1)
  let olds := (c.oldDst x).bounds ||| (if wide then (c.oldDst (selNext x)).bounds else 0)
  let bnd := maskBounds c.leg.e0 ||| (if c.partialMask then olds &&& ~~~inner else 0)
  let run := fun (x : Sel) (v : Nat) =>
    buildRuns bnd (mergeLanes c.leg.e0 (List.replicate c.w.ww (BitVec.ofNat 32 v)) (c.oldDst x).expand)
  let lo := run x v
  let hi := if wide then run (selNext x) (v / 4294967296) else []
  let c ← if selIsV x then c.reserve (lo.length + hi.length) else .ok c
  let c := c.putV x lo
  return if wide then c.putV (selNext x) hi else c

/-- VBCAST: when lane k is active the result is one value. -/
def Ctx.vbcast (f : LA) (c : Ctx) : Except Trap Ctx := do
  let a ← c.src f.ty f.sa f.imm
  let b ← c.src f.ty f.sb f.imm
  let k := b.vals.headD 0
  if c.isActive k then c.dstOne f.ty f.dst (a.vals.getD k 0)
  else c.dst f.ty f.dst a.vals a.bnd

/-- VIOTA. -/
def Ctx.viota (f : LA) (c : Ctx) : Except Trap Ctx := c.dst f.ty f.dst (List.range c.w.ww) perLane

/-! ## Conversions (R131, R132) -/

/-- VCVT: only active lanes are counted. -/
def Ctx.vcvt (f : LA) (k : Cvt) (c : Ctx) : Except Trap Ctx := do
  let a ← c.lanes f.sa f.imm
  let rs := a.vals.map (cvtOf k f.sat)
  let c ← c.setLanes f.dst (rs.map (·.1)) a.bnd
  return c.countEvents (c.active.map fun l => (rs.getD l (0, .none)).2)

/-! ## Cross-lane reads (R143) -/

/-- Each active lane reads the lane that `idx` gives it; a read of an inactive lane keeps its own source value and
clears its bit of the validity mask. -/
def Ctx.cross (c : Ctx) (f : LA) (a : Src) (idx : Nat → Nat) : Except Trap Ctx := do
  let c ← c.dst f.ty f.dst
    ((List.range c.w.ww).map fun l => if c.isActive (idx l) then a.vals.getD (idx l) 0 else a.vals.getD l 0) perLane
  return c.setM f.mb (maskOf (c.active.filter fun l => c.isActive (idx l)))

/-- VSHFL. -/
def Ctx.vshfl (f : LA) (c : Ctx) : Except Trap Ctx := do
  let a ← c.src f.ty f.sa f.imm
  let b ← c.lanes f.sb f.imm
  c.cross f a fun l => (lane b.vals l).toNat

/-- VROT. -/
def Ctx.vrot (f : LA) (c : Ctx) : Except Trap Ctx := do
  let a ← c.src f.ty f.sa f.imm
  let b ← c.src f.ty f.sb f.imm
  c.cross f a fun l => (l + b.vals.headD 0) % c.w.ww

/-! ## Reductions and scans (R111, R112, R144) -/

/-- The operations of VRED and VSCAN. -/
inductive RedOp where
  | add | min | max | and | or | xor
  deriving DecidableEq, Repr

/-- combine(p, q). -/
def RedOp.combine (k : RedOp) (f : LA) (p q : Nat) : Nat :=
  match k with
  | .add => addOf f p q
  | .min => pickOf f.ty true p q
  | .max => pickOf f.ty false p q
  | .and => p &&& q
  | .or => p ||| q
  | .xor => p ^^^ q

/-- The identity for an empty set of lanes. -/
def RedOp.identity (k : RedOp) (t : LTy) : Nat :=
  let n := 2 ^ tyBits t
  match k with
  | .add | .or | .xor => 0
  | .min => if t == .f32 then fp32.inf false else if signedTy t then n / 2 - 1 else n - 1
  | .max => if t == .f32 then fp32.inf true else if signedTy t then n / 2 else 0
  | .and => n - 1

/-- The tree over a set of lanes. A single lane's value passes through as it is, a NaN's payload too, since no
combination takes place (R111; log entry 78). -/
def RedOp.over (k : RedOp) (f : LA) (vals : List Nat) (m : Mask) : Nat :=
  (tree (k.combine f) (treeLeaves m fun l => vals.getD l 0)).getD (k.identity f.ty)

/-- The active lanes below WW. -/
def Ctx.activeMask (c : Ctx) : Mask := c.leg.e0 &&& Mask.below c.w.ww

/-- VRED: one scalar register, or two for a 64-bit type. -/
def Ctx.vred (f : LA) (k : RedOp) (c : Ctx) : Except Trap Ctx := do
  let a ← c.src f.ty f.sa f.imm
  let v := k.over f a.vals c.activeMask
  match f.dst with
  | .s d => return c.setNat d v (tyBits f.ty / 32)
  | _ => return c

/-- VSCAN. -/
def Ctx.vscan (f : LA) (k : RedOp) (c : Ctx) : Except Trap Ctx := do
  let a ← c.src f.ty f.sa f.imm
  c.dst f.ty f.dst ((List.range c.w.ww).map fun l => k.over f a.vals (c.activeMask &&& Mask.below (l + 1))) perLane

/-! ## Runs (R145, R146) -/

/-- Join adjacent runs of equal values. -/
def LReg.coalesce : LReg → LReg
  | [] => []
  | r :: rest => match LReg.coalesce rest with
    | [] => [r]
    | q :: qs => if r.val == q.val then ⟨r.val, r.cnt + q.cnt⟩ :: qs else r :: q :: qs

/-- VCOAL. -/
def Ctx.vcoal (f : LA) (c : Ctx) : Except Trap Ctx := do
  let a ← c.lanes f.sa 0
  let r := (c.result f.dst a.vals a.bnd).coalesce
  let c ← c.reserve r.length
  return c.putV f.dst r

/-- VRUNS. -/
def Ctx.vruns (f : LA) (c : Ctx) : Except Trap Ctx :=
  match f.sa, f.dst with
  | .v r, .s d => do
    c.clean (.v (c.key r))
    return c.setS d (BitVec.ofNat 32 (c.leg.snap.getV (c.key r)).length)
  | _, _ => .ok c

/-! ## The instructions -/

/-- VADD (R137, R139). -/
def execVadd (m : Bool) (f : LA) (s : State) : Host.Outcome State Fault Refusal :=
  s.issue laneShape m (Ctx.lane2 f (addOf f))

/-- VSUB (R137, R139). -/
def execVsub (m : Bool) (f : LA) (s : State) : Host.Outcome State Fault Refusal :=
  s.issue laneShape m (Ctx.lane2 f (subOf f))

/-- VMUL (R137, R139). -/
def execVmul (m : Bool) (f : LA) (s : State) : Host.Outcome State Fault Refusal :=
  s.issue laneShape m (Ctx.lane2 f (mulOf f))

/-- VFMA (R137, R139). -/
def execVfma (m : Bool) (f : LA) (s : State) : Host.Outcome State Fault Refusal :=
  s.issue laneShape m (Ctx.lane3 f (fmaOf f))

/-- VMIN (R138, R139). -/
def execVmin (m : Bool) (f : LA) (s : State) : Host.Outcome State Fault Refusal :=
  s.issue laneShape m (Ctx.lane2 f (pickOf f.ty true))

/-- VMAX (R138, R139). -/
def execVmax (m : Bool) (f : LA) (s : State) : Host.Outcome State Fault Refusal :=
  s.issue laneShape m (Ctx.lane2 f (pickOf f.ty false))

/-- VABS (R138, R139). -/
def execVabs (m : Bool) (f : LA) (s : State) : Host.Outcome State Fault Refusal :=
  s.issue laneShape m (Ctx.lane1 f (absOf f))

/-- VNEG (R138, R139). -/
def execVneg (m : Bool) (f : LA) (s : State) : Host.Outcome State Fault Refusal :=
  s.issue laneShape m (Ctx.lane1 f (negOf f))

/-- VRCP (R140). -/
def execVrcp (m : Bool) (f : LA) (s : State) : Host.Outcome State Fault Refusal :=
  s.issue laneShape m (Ctx.special f rcpF32)

/-- VRSQ (R140). -/
def execVrsq (m : Bool) (f : LA) (s : State) : Host.Outcome State Fault Refusal :=
  s.issue laneShape m (Ctx.special f rsqF32)

/-- VSQRT (R140). -/
def execVsqrt (m : Bool) (f : LA) (s : State) : Host.Outcome State Fault Refusal :=
  s.issue laneShape m (Ctx.special f sqrtF32)

/-- VEXP2 (R140). -/
def execVexp2 (m : Bool) (f : LA) (s : State) : Host.Outcome State Fault Refusal :=
  s.issue laneShape m (Ctx.special f exp2F32)

/-- VLOG2 (R140). -/
def execVlog2 (m : Bool) (f : LA) (s : State) : Host.Outcome State Fault Refusal :=
  s.issue laneShape m (Ctx.special f log2F32)

/-- VSIN (R140). -/
def execVsin (m : Bool) (f : LA) (s : State) : Host.Outcome State Fault Refusal :=
  s.issue laneShape m (Ctx.special f sinF32)

/-- VCOS (R140). -/
def execVcos (m : Bool) (f : LA) (s : State) : Host.Outcome State Fault Refusal :=
  s.issue laneShape m (Ctx.special f cosF32)

/-- VIMUL (R139). -/
def execVimul (m : Bool) (f : LA) (s : State) : Host.Outcome State Fault Refusal :=
  s.issue laneShape m (Ctx.lane2 f (imulOf f))

/-- VIMULH (R139). -/
def execVimulh (m : Bool) (f : LA) (s : State) : Host.Outcome State Fault Refusal :=
  s.issue laneShape m (Ctx.lane2 f (imulhOf f.ty))

/-- VAND (R139). -/
def execVand (m : Bool) (f : LA) (s : State) : Host.Outcome State Fault Refusal :=
  s.issue laneShape m (Ctx.lane2 f fun a b => a &&& b)

/-- VOR (R139). -/
def execVor (m : Bool) (f : LA) (s : State) : Host.Outcome State Fault Refusal :=
  s.issue laneShape m (Ctx.lane2 f fun a b => a ||| b)

/-- VXOR (R139). -/
def execVxor (m : Bool) (f : LA) (s : State) : Host.Outcome State Fault Refusal :=
  s.issue laneShape m (Ctx.lane2 f fun a b => a ^^^ b)

/-- VSHL (R139). -/
def execVshl (m : Bool) (f : LA) (s : State) : Host.Outcome State Fault Refusal :=
  s.issue laneShape m (Ctx.laneShift f (shlOf f.ty))

/-- VSHR (R139). -/
def execVshr (m : Bool) (f : LA) (s : State) : Host.Outcome State Fault Refusal :=
  s.issue laneShape m (Ctx.laneShift f (shrOf f.ty))

/-- VSRA (R139). -/
def execVsra (m : Bool) (f : LA) (s : State) : Host.Outcome State Fault Refusal :=
  s.issue laneShape m (Ctx.laneShift f (sraOf f.ty))

/-- VCMP_EQ (R141). -/
def execVcmpEq (m : Bool) (f : LA) (s : State) : Host.Outcome State Fault Refusal :=
  s.issue laneShape m (Ctx.vcmp f .eq)

/-- VCMP_NE (R141). -/
def execVcmpNe (m : Bool) (f : LA) (s : State) : Host.Outcome State Fault Refusal :=
  s.issue laneShape m (Ctx.vcmp f .ne)

/-- VCMP_LT (R141). -/
def execVcmpLt (m : Bool) (f : LA) (s : State) : Host.Outcome State Fault Refusal :=
  s.issue laneShape m (Ctx.vcmp f .lt)

/-- VCMP_LE (R141). -/
def execVcmpLe (m : Bool) (f : LA) (s : State) : Host.Outcome State Fault Refusal :=
  s.issue laneShape m (Ctx.vcmp f .le)

/-- VCMP_GT (R141). -/
def execVcmpGt (m : Bool) (f : LA) (s : State) : Host.Outcome State Fault Refusal :=
  s.issue laneShape m (Ctx.vcmp f .gt)

/-- VCMP_GE (R141). -/
def execVcmpGe (m : Bool) (f : LA) (s : State) : Host.Outcome State Fault Refusal :=
  s.issue laneShape m (Ctx.vcmp f .ge)

/-- VCMP_UN (R141). -/
def execVcmpUn (m : Bool) (f : LA) (s : State) : Host.Outcome State Fault Refusal :=
  s.issue laneShape m (Ctx.vcmp f .un)

/-- VCMP_ORD (R141). -/
def execVcmpOrd (m : Bool) (f : LA) (s : State) : Host.Outcome State Fault Refusal :=
  s.issue laneShape m (Ctx.vcmp f .ord)

/-- VSEL (R142). -/
def execVsel (m : Bool) (f : LA) (s : State) : Host.Outcome State Fault Refusal :=
  s.issue laneShape m (Ctx.vsel f)

/-- VMOV (R142). -/
def execVmov (m : Bool) (f : LA) (s : State) : Host.Outcome State Fault Refusal :=
  s.issue laneShape m (Ctx.lane1 f id)

/-- VBCAST (R142). -/
def execVbcast (m : Bool) (f : LA) (s : State) : Host.Outcome State Fault Refusal :=
  s.issue laneShape m (Ctx.vbcast f)

/-- VIOTA (R142). -/
def execViota (m : Bool) (f : LA) (s : State) : Host.Outcome State Fault Refusal :=
  s.issue laneShape m (Ctx.viota f)

/-- VCVT_I2F (R131). -/
def execVcvtI2f (m : Bool) (f : LA) (s : State) : Host.Outcome State Fault Refusal :=
  s.issue laneShape m (Ctx.vcvt f .i2f)

/-- VCVT_N2F (R131). -/
def execVcvtN2f (m : Bool) (f : LA) (s : State) : Host.Outcome State Fault Refusal :=
  s.issue laneShape m (Ctx.vcvt f .n2f)

/-- VCVT_F2I (R131). -/
def execVcvtF2i (m : Bool) (f : LA) (s : State) : Host.Outcome State Fault Refusal :=
  s.issue laneShape m (Ctx.vcvt f .f2i)

/-- VCVT_F2N (R131). -/
def execVcvtF2n (m : Bool) (f : LA) (s : State) : Host.Outcome State Fault Refusal :=
  s.issue laneShape m (Ctx.vcvt f .f2n)

/-- VCVT_F2IR (R131). -/
def execVcvtF2ir (m : Bool) (f : LA) (s : State) : Host.Outcome State Fault Refusal :=
  s.issue laneShape m (Ctx.vcvt f .f2ir)

/-- VCVT_F2NR (R131). -/
def execVcvtF2nr (m : Bool) (f : LA) (s : State) : Host.Outcome State Fault Refusal :=
  s.issue laneShape m (Ctx.vcvt f .f2nr)

/-- VCVT_F2B (R131). -/
def execVcvtF2b (m : Bool) (f : LA) (s : State) : Host.Outcome State Fault Refusal :=
  s.issue laneShape m (Ctx.vcvt f .f2b)

/-- VCVT_B2F (R131). -/
def execVcvtB2f (m : Bool) (f : LA) (s : State) : Host.Outcome State Fault Refusal :=
  s.issue laneShape m (Ctx.vcvt f .b2f)

/-- VCVT_F2H (R131). -/
def execVcvtF2h (m : Bool) (f : LA) (s : State) : Host.Outcome State Fault Refusal :=
  s.issue laneShape m (Ctx.vcvt f .f2h)

/-- VCVT_H2F (R131). -/
def execVcvtH2f (m : Bool) (f : LA) (s : State) : Host.Outcome State Fault Refusal :=
  s.issue laneShape m (Ctx.vcvt f .h2f)

/-- VSHFL (R143). -/
def execVshfl (m : Bool) (f : LA) (s : State) : Host.Outcome State Fault Refusal :=
  s.issue laneShape m (Ctx.vshfl f)

/-- VROT (R143). -/
def execVrot (m : Bool) (f : LA) (s : State) : Host.Outcome State Fault Refusal :=
  s.issue laneShape m (Ctx.vrot f)

/-- VRED_ADD (R144). -/
def execVredAdd (m : Bool) (f : LA) (s : State) : Host.Outcome State Fault Refusal :=
  s.issue laneShape m (Ctx.vred f .add)

/-- VRED_MIN (R144). -/
def execVredMin (m : Bool) (f : LA) (s : State) : Host.Outcome State Fault Refusal :=
  s.issue laneShape m (Ctx.vred f .min)

/-- VRED_MAX (R144). -/
def execVredMax (m : Bool) (f : LA) (s : State) : Host.Outcome State Fault Refusal :=
  s.issue laneShape m (Ctx.vred f .max)

/-- VRED_AND (R144). -/
def execVredAnd (m : Bool) (f : LA) (s : State) : Host.Outcome State Fault Refusal :=
  s.issue laneShape m (Ctx.vred f .and)

/-- VRED_OR (R144). -/
def execVredOr (m : Bool) (f : LA) (s : State) : Host.Outcome State Fault Refusal :=
  s.issue laneShape m (Ctx.vred f .or)

/-- VRED_XOR (R144). -/
def execVredXor (m : Bool) (f : LA) (s : State) : Host.Outcome State Fault Refusal :=
  s.issue laneShape m (Ctx.vred f .xor)

/-- VSCAN_ADD (R112, R144). -/
def execVscanAdd (m : Bool) (f : LA) (s : State) : Host.Outcome State Fault Refusal :=
  s.issue laneShape m (Ctx.vscan f .add)

/-- VSCAN_MIN (R112, R144). -/
def execVscanMin (m : Bool) (f : LA) (s : State) : Host.Outcome State Fault Refusal :=
  s.issue laneShape m (Ctx.vscan f .min)

/-- VSCAN_MAX (R112, R144). -/
def execVscanMax (m : Bool) (f : LA) (s : State) : Host.Outcome State Fault Refusal :=
  s.issue laneShape m (Ctx.vscan f .max)

/-- VSCAN_AND (R112, R144). -/
def execVscanAnd (m : Bool) (f : LA) (s : State) : Host.Outcome State Fault Refusal :=
  s.issue laneShape m (Ctx.vscan f .and)

/-- VSCAN_OR (R112, R144). -/
def execVscanOr (m : Bool) (f : LA) (s : State) : Host.Outcome State Fault Refusal :=
  s.issue laneShape m (Ctx.vscan f .or)

/-- VSCAN_XOR (R112, R144). -/
def execVscanXor (m : Bool) (f : LA) (s : State) : Host.Outcome State Fault Refusal :=
  s.issue laneShape m (Ctx.vscan f .xor)

/-- VCOAL (R145). -/
def execVcoal (m : Bool) (f : LA) (s : State) : Host.Outcome State Fault Refusal :=
  s.issue laneShape m (Ctx.vcoal f)

/-- VRUNS (R146). -/
def execVruns (m : Bool) (f : LA) (s : State) : Host.Outcome State Fault Refusal :=
  s.issue laneShape m (Ctx.vruns f)

end Sys2Proof.Machine
end

