-- ==== Sys2Proof/Machine/Control.lean ====
section
/-! DEFINITION. Branches, calls, joins, yields, watches, exit, launches, Hamper synchronisation and barriers
(spec/16_divergence.md R314 to R322; spec/17_control_instr.md R329 to R348). -/

namespace Sys2Proof.Machine

/-- A 32-bit closing instruction. -/
def closeShape : Shape := { words := 1, closing := true }

/-- R69, R329: the target of a branch: its own address plus 4 times OFF. -/
def Ctx.branchTo (c : Ctx) (off : BitVec 17) : DWord := c.pc + off.signExtend 64 * 4

/-- BR (R330). -/
def Ctx.br (off : BitVec 17) (c : Ctx) : Except Trap Ctx := .ok (c.close (.jump (c.branchTo off) false))

/-- BRZ (R330). -/
def Ctx.brz (a : SReg) (off : BitVec 17) (c : Ctx) : Except Trap Ctx := do
  let x ← c.getS a
  return c.close (.jump (if x = 0 then c.branchTo off else c.pc + 4) false)

/-- BRV (R314): the lanes of E that the mask names are taken. -/
def Ctx.brv (a : MBase) (off : BitVec 17) (c : Ctx) : Except Trap Ctx := do
  let x ← c.getM a
  return c.close (.split (c.leg.e0 &&& x) (c.branchTo off) c.pc)

/-- R116, R320: a call's checks and its reservation, returning to the next instruction. -/
def Ctx.callReserve (c : Ctx) : Except Trap Ctx :=
  if c.s.callRefused c.w c.path.dep.toNat then .error (c.trapHere 0x0401)
  else c.reserve (c.w.callSlots c.path.dep.toNat c.path.p fun _ => c.pc + 4)

/-- CALL (R320). -/
def Ctx.call (off : BitVec 17) (c : Ctx) : Except Trap Ctx := do
  let c ← c.callReserve
  return c.close (.call (c.branchTo off))

/-- JMP (R331). -/
def Ctx.jmp (a : AReg) (c : Ctx) : Except Trap Ctx := do
  let x ← c.getA a
  return c.close (.jump x true)

/-- JMPV and CALLV (R331): with E empty neither does anything (R315). -/
def Ctx.jmpv (isCall : Bool) (a : VReg) (c : Ctx) : Except Trap Ctx := do
  let x ← c.lanes64 (.v a) 0 false
  let ts := c.active.map fun l => (l, x.vals.getD l 0)
  let c ← if isCall && !ts.isEmpty then c.callReserve else .ok c
  return c.close (.multi isCall ts c.pc)

/-- JOIN (R333). -/
def Ctx.joinAt (a : MBase) (c : Ctx) : Except Trap Ctx := do
  let x ← c.getM a
  return c.close (.join x c.pc)

/-- LAND (R334): only as the first instruction of a leg. -/
def Ctx.land (c : Ctx) : Except Trap Ctx := if c.pc = c.leg.start then .ok c else .error (c.trapHere 0x0104)

/-- WAITV (R336): the word is located as the instruction issues and read at the marker. -/
def Ctx.waitv (d : SReg) (a : AReg) (b : SReg) (c : Ctx) : Except Trap Ctx := do
  let x ← c.getA a
  let y ← c.getS b
  let ps ← scalarMask c.leg.e0 (joinLanes [(0, x,
    match c.s.locate c.w .x true 0 x 4 4 .read with
    | .error e => .error (e.1, e.2, [])
    | .ok p => .ok p)])
  return (c.close (.waitv d y x)).await true [(0, x)] ps

/-- R190, R339, R362: an address that must be global and aligned. -/
def Ctx.globalAt (c : Ctx) (a : DWord) (align : Nat) : Except Trap Unit :=
  match windowOf a with
  | none => .error (c.trap 0x1103 a)
  | some w => if w != .glob then .error (c.trap 0x1104 a)
    else if a.toNat % align != 0 then .error (c.trap 0x0201 a) else .ok ()

/-- LAUNCH and LAUNCHQ (R339 to R341). -/
def Ctx.launch (query : Bool) (d : SReg) (a : AReg) (c : Ctx) : Except Trap Ctx := do
  let x ← c.getA a
  c.globalAt x 64
  return c.close (.launch query d x)

/-- A barrier instruction's two operands (R346). -/
def Ctx.barrier (a b : SReg) (g : Word → Word → Closing) (c : Ctx) : Except Trap Ctx := do
  let x ← c.getS a
  let y ← c.getS b
  return c.close (g x y)

/-! ## The instructions -/

/-- BR (R330). -/
def execBr (m : Bool) (off : BitVec 17) (s : State) : Host.Outcome State Fault Refusal :=
  s.issue closeShape m (Ctx.br off)

/-- BRZ (R330). -/
def execBrz (m : Bool) (a : SReg) (off : BitVec 17) (s : State) : Host.Outcome State Fault Refusal :=
  s.issue closeShape m (Ctx.brz a off)

/-- BRV (R314). -/
def execBrv (m : Bool) (a : MBase) (off : BitVec 17) (s : State) : Host.Outcome State Fault Refusal :=
  s.issue closeShape m (Ctx.brv a off)

/-- CALL (R320). -/
def execCall (m : Bool) (off : BitVec 17) (s : State) : Host.Outcome State Fault Refusal :=
  s.issue closeShape m (Ctx.call off)

/-- JMP (R331). -/
def execJmp (m : Bool) (a : AReg) (s : State) : Host.Outcome State Fault Refusal :=
  s.issue closeShape m (Ctx.jmp a)

/-- JMPV (R315, R331). -/
def execJmpv (m : Bool) (a : VReg) (s : State) : Host.Outcome State Fault Refusal :=
  s.issue closeShape m (Ctx.jmpv false a)

/-- CALLV (R331). -/
def execCallv (m : Bool) (a : VReg) (s : State) : Host.Outcome State Fault Refusal :=
  s.issue closeShape m (Ctx.jmpv true a)

/-- RET (R332): it reads the link vector of its depth (R411). -/
def Ctx.ret (c : Ctx) : Except Trap Ctx := do
  c.clean (.link c.path.dep.toNat)
  return c.close (.ret c.pc)

/-- RET (R332). -/
def execRet (m : Bool) (s : State) : Host.Outcome State Fault Refusal :=
  s.issue closeShape m Ctx.ret

/-- JOIN (R318, R333). -/
def execJoin (m : Bool) (a : MBase) (s : State) : Host.Outcome State Fault Refusal :=
  s.issue closeShape m (Ctx.joinAt a)

/-- LAND (R334). -/
def execLand (m : Bool) (s : State) : Host.Outcome State Fault Refusal :=
  s.issue plainShape m Ctx.land

/-- YIELD (R335). -/
def execYield (m : Bool) (s : State) : Host.Outcome State Fault Refusal :=
  s.issue closeShape m fun c => .ok (c.close .yield)

/-- WAITV (R336). -/
def execWaitv (m : Bool) (d : SReg) (a : AReg) (b : SReg) (s : State) : Host.Outcome State Fault Refusal :=
  s.issue { closeShape with cls := 1 } m (Ctx.waitv d a b)

/-- EXIT (R338). -/
def execExit (m : Bool) (s : State) : Host.Outcome State Fault Refusal :=
  s.issue closeShape m fun c => .ok (c.close .exit)

/-- NOP (R337). -/
def execNop (m : Bool) (s : State) : Host.Outcome State Fault Refusal :=
  s.issue plainShape m fun c => .ok c

/-- LAUNCH (R340). -/
def execLaunch (m : Bool) (d : SReg) (a : AReg) (s : State) : Host.Outcome State Fault Refusal :=
  s.issue closeShape m (Ctx.launch false d a)

/-- LAUNCHQ (R341). -/
def execLaunchq (m : Bool) (d : SReg) (a : AReg) (s : State) : Host.Outcome State Fault Refusal :=
  s.issue closeShape m (Ctx.launch true d a)

/-- WSYNC (R343). -/
def execWsync (m : Bool) (s : State) : Host.Outcome State Fault Refusal :=
  s.issue closeShape m fun c => .ok (c.close (.wsync false))

/-- WFLUSH (R343). -/
def execWflush (m : Bool) (s : State) : Host.Outcome State Fault Refusal :=
  s.issue closeShape m fun c => .ok (c.close (.wsync true))

/-- BINIT (R346). -/
def execBinit (m : Bool) (a b : SReg) (s : State) : Host.Outcome State Fault Refusal :=
  s.issue closeShape m (Ctx.barrier a b .binit)

/-- BARV (R346). -/
def execBarv (m : Bool) (d a b : SReg) (s : State) : Host.Outcome State Fault Refusal :=
  s.issue closeShape m (Ctx.barrier a b (.barv d))

/-- BEXP (R346). -/
def execBexp (m : Bool) (d a b : SReg) (s : State) : Host.Outcome State Fault Refusal :=
  s.issue closeShape m (Ctx.barrier a b (.bexp d))

/-- BWAIT (R347). -/
def execBwait (m : Bool) (a b : SReg) (s : State) : Host.Outcome State Fault Refusal :=
  s.issue closeShape m (Ctx.barrier a b fun x y => .bwait x (y.getLsbD 0))

/-- BTEST (R347). -/
def execBtest (m : Bool) (d a b : SReg) (s : State) : Host.Outcome State Fault Refusal :=
  s.issue closeShape m (Ctx.barrier a b fun x y => .btest d x (y.getLsbD 0))

/-- GBAR (R348). -/
def execGbar (m : Bool) (s : State) : Host.Outcome State Fault Refusal :=
  s.issue closeShape m fun c => .ok (c.close .gbar)

end Sys2Proof.Machine
end

