-- ==== Sys2Proof/Machine/MemoryInstr.lean ====
section
/-! DEFINITION. Loads, stores, atomics, CLAIM, Porter commands, FENCE and cache instructions (spec/12_memory_instr.md R235
to R262; spec/11_ordering.md R225, R226). -/

namespace Sys2Proof.Machine

/-- Shapes of R46 with the fence classes of R225. -/
def loadShape : Shape := { words := 3, mem := true, cls := 1 }
def storeShape : Shape := { words := 3, mem := true, cls := 2 }
def atomShape : Shape := { words := 3, mem := true, closing := true, cls := 3 }
def lineShape (cls : BitVec 6) : Shape := { words := 1, mem := true, cls := cls }

/-- PCOPY (R253 to R256): the descriptor is read and checked as the instruction issues. -/
def Ctx.pcopy (a : AReg) (c : Ctx) : Except Trap Ctx := do
  let x ← c.getA a
  let r ← c.readUnits x 64 1
  match parseDesc r.2 with
  | none => .error (r.1.trapHere 0x0104)
  | some d => match r.1.s.descFault r.1.w d with
    | some e => .error (r.1.trap e.1 e.2)
    | none => return r.1.close (.pcopy d x)

/-- PWAIT (R262). -/
def Ctx.pwait (a : SReg) (c : Ctx) : Except Trap Ctx := do
  let x ← c.getS a
  return c.close (.pwait x)

/-- FENCE (R226): it takes effect at its leg's commit. -/
def Ctx.fence (pred succ : BitVec 6) (c : Ctx) : Except Trap Ctx :=
  .ok { c with leg := { c.leg with fences := c.leg.fences ++ [(pred, succ)] } }

/-- The checks of CINV and CWB (R250, R251). CWB does no more: the L2 is transparent (log entry 3). -/
def Ctx.cacheRange (a : AReg) (b : SReg) (c : Ctx) : Except Trap Ctx := do
  let x ← c.getA a
  let _ ← c.getS b
  c.globalAt x 1
  return c

/-- CINV (R250): its range's lines go at the leg's commit. -/
def Ctx.cinv (a : AReg) (b : SReg) (c : Ctx) : Except Trap Ctx := do
  let x ← c.getA a
  let y ← c.getS b
  c.globalAt x 1
  return { c with leg := { c.leg with cinvs := c.leg.cinvs ++ [(x, y, c.leg.stores.length)] } }

/-- R377, R379: an access of a mapped line that misses in its home slice starts a walk at the controller that R198 names. -/
def State.missLine (s : State) (asid : BitVec 16) (v : DWord) : State :=
  let line := v.toNat / 128
  match s.leaf? asid v with
  | some l =>
    if l.p && isGlobal v then
      { s with walks := s.walks ++ [⟨Config.homeSlice asid line / 64, Config.homeController asid line, asid, v, s.shootSeq⟩] }
    else s
  | none => s

/-- PREF (R252): no fault of any kind, damaged operand registers included; the lines of the first 64 KiB of the range that
are mapped start table walks. -/
def Ctx.pref (a : AReg) (b : SReg) (c : Ctx) : Except Trap Ctx := do
  let x := c.leg.snap.a[a.toNat]'a.isLt
  let y := c.leg.snap.readS c.leg.e0 b
  let n := min y.toNat 65536
  if n = 0 then return c
  else
    let lines := (List.range ((x.toNat % 128 + n + 127) / 128)).map fun i => x - BitVec.ofNat 64 (x.toNat % 128)
      + BitVec.ofNat 64 (128 * i)
    return { c with s := lines.foldl (fun s v => s.missLine c.w.asid v) c.s }

/-! ## The instructions -/

/-- VLD (R238). -/
def execVld (m : Bool) (f : LM) (s : State) : Host.Outcome State Fault Refusal :=
  s.issue loadShape m (Ctx.vld · f)

/-- VLD_W (R241, R242). -/
def execVldW (m : Bool) (f : LM) (s : State) : Host.Outcome State Fault Refusal :=
  s.issue loadShape m (Ctx.vldW · f)

/-- VST (R239). -/
def execVst (m : Bool) (f : LM) (s : State) : Host.Outcome State Fault Refusal :=
  s.issue storeShape m (Ctx.vst · f)

/-- SLD (R238). -/
def execSld (m : Bool) (f : LM) (s : State) : Host.Outcome State Fault Refusal :=
  s.issue loadShape m (Ctx.sld · f)

/-- SST (R239). -/
def execSst (m : Bool) (f : LM) (s : State) : Host.Outcome State Fault Refusal :=
  s.issue storeShape m (Ctx.sst · f)

/-- SLDP (R243). -/
def execSldp (m : Bool) (f : LM) (s : State) : Host.Outcome State Fault Refusal :=
  s.issue loadShape m (Ctx.sldp · f)

/-- VLDP (R243). -/
def execVldp (m : Bool) (f : LM) (s : State) : Host.Outcome State Fault Refusal :=
  s.issue loadShape m (Ctx.vldp · f)

/-- VATOM_ADD (R244, R245). -/
def execVatomAdd (m : Bool) (f : LM) (s : State) : Host.Outcome State Fault Refusal :=
  s.issue atomShape m (Ctx.vatom · .add f)

/-- VATOM_AND (R244, R245). -/
def execVatomAnd (m : Bool) (f : LM) (s : State) : Host.Outcome State Fault Refusal :=
  s.issue atomShape m (Ctx.vatom · .and f)

/-- VATOM_OR (R244, R245). -/
def execVatomOr (m : Bool) (f : LM) (s : State) : Host.Outcome State Fault Refusal :=
  s.issue atomShape m (Ctx.vatom · .or f)

/-- VATOM_XOR (R244, R245). -/
def execVatomXor (m : Bool) (f : LM) (s : State) : Host.Outcome State Fault Refusal :=
  s.issue atomShape m (Ctx.vatom · .xor f)

/-- VATOM_MIN (R244, R245). -/
def execVatomMin (m : Bool) (f : LM) (s : State) : Host.Outcome State Fault Refusal :=
  s.issue atomShape m (Ctx.vatom · .min f)

/-- VATOM_MAX (R244, R245). -/
def execVatomMax (m : Bool) (f : LM) (s : State) : Host.Outcome State Fault Refusal :=
  s.issue atomShape m (Ctx.vatom · .max f)

/-- VATOM_SWAP (R244, R245). -/
def execVatomSwap (m : Bool) (f : LM) (s : State) : Host.Outcome State Fault Refusal :=
  s.issue atomShape m (Ctx.vatom · .swap f)

/-- VATOM_CAS (R244, R245). -/
def execVatomCas (m : Bool) (f : LM) (s : State) : Host.Outcome State Fault Refusal :=
  s.issue atomShape m (Ctx.vatom · .cas f)

/-- SATOM_ADD (R244, R245). -/
def execSatomAdd (m : Bool) (f : LM) (s : State) : Host.Outcome State Fault Refusal :=
  s.issue atomShape m (Ctx.satom · .add f)

/-- SATOM_AND (R244, R245). -/
def execSatomAnd (m : Bool) (f : LM) (s : State) : Host.Outcome State Fault Refusal :=
  s.issue atomShape m (Ctx.satom · .and f)

/-- SATOM_OR (R244, R245). -/
def execSatomOr (m : Bool) (f : LM) (s : State) : Host.Outcome State Fault Refusal :=
  s.issue atomShape m (Ctx.satom · .or f)

/-- SATOM_XOR (R244, R245). -/
def execSatomXor (m : Bool) (f : LM) (s : State) : Host.Outcome State Fault Refusal :=
  s.issue atomShape m (Ctx.satom · .xor f)

/-- SATOM_MIN (R244, R245). -/
def execSatomMin (m : Bool) (f : LM) (s : State) : Host.Outcome State Fault Refusal :=
  s.issue atomShape m (Ctx.satom · .min f)

/-- SATOM_MAX (R244, R245). -/
def execSatomMax (m : Bool) (f : LM) (s : State) : Host.Outcome State Fault Refusal :=
  s.issue atomShape m (Ctx.satom · .max f)

/-- SATOM_SWAP (R244, R245). -/
def execSatomSwap (m : Bool) (f : LM) (s : State) : Host.Outcome State Fault Refusal :=
  s.issue atomShape m (Ctx.satom · .swap f)

/-- SATOM_CAS (R244, R245). -/
def execSatomCas (m : Bool) (f : LM) (s : State) : Host.Outcome State Fault Refusal :=
  s.issue atomShape m (Ctx.satom · .cas f)

/-- CLAIM (R249). -/
def execClaim (m : Bool) (f : LM) (s : State) : Host.Outcome State Fault Refusal :=
  s.issue atomShape m (Ctx.claim · f)

/-- PCOPY (R253 to R256). -/
def execPcopy (m : Bool) (a : AReg) (_ord : Ord) (_scp : Scp) (s : State) : Host.Outcome State Fault Refusal :=
  s.issue { closeShape with cls := 1 } m (Ctx.pcopy a)

/-- PBATCH (R261). -/
def execPbatch (m : Bool) (d : SReg) (s : State) : Host.Outcome State Fault Refusal :=
  s.issue closeShape m fun c => .ok (c.close (.pbatch d))

/-- PWAIT (R262). -/
def execPwait (m : Bool) (a : SReg) (s : State) : Host.Outcome State Fault Refusal :=
  s.issue closeShape m (Ctx.pwait a)

/-- FENCE (R226). -/
def execFence (m : Bool) (pred succ : BitVec 6) (_scp : Scp) (s : State) : Host.Outcome State Fault Refusal :=
  s.issue (lineShape 0) m (Ctx.fence pred succ)

/-- CINV (R250). -/
def execCinv (m : Bool) (a : AReg) (b : SReg) (s : State) : Host.Outcome State Fault Refusal :=
  s.issue (lineShape 0) m (Ctx.cinv a b)

/-- CWB (R251). -/
def execCwb (m : Bool) (a : AReg) (b : SReg) (s : State) : Host.Outcome State Fault Refusal :=
  s.issue (lineShape 2) m (Ctx.cacheRange a b)

/-- PREF (R252). -/
def execPref (m : Bool) (a : AReg) (b : SReg) (s : State) : Host.Outcome State Fault Refusal :=
  s.issue (lineShape 0) m (Ctx.pref a b)

end Sys2Proof.Machine
end

