-- ==== Sys2Proof/Machine/SieveInstr.lean ====
section
/-! DEFINITION. The Sieve's instructions (spec/08_conversion.md R147 to R164). -/

namespace Sys2Proof.Machine

/-- A Sieve instruction with its fence classes (R225). -/
def sieveShape (cls : BitVec 6) : Shape := { words := 3, cls := cls }

/-- R147, R148: an instruction that finds the pipe busy asks for it and its slot waits. -/
def Ctx.sieveGate (c : Ctx) : Except State Ctx :=
  let co := c.s.core c.w.core.toNat
  let r : SieveReq := ⟨c.w.id, c.k, c.w.quad⟩
  if co.sieveAdmits r then .ok { c with s := c.s.setCore (co.sieveEnter r) }
  else .error (c.s.setCore (co.sieveWait r))

/-- R148: has the Sieve been asked for the slot's instruction? -/
def Core.sieveAsked (c : Core) (r : SieveReq) : Bool := c.sieveGrant == some r || c.sieveQ.contains r

/-- R150, R161: the barrier wait of XTBL, taken before the Sieve is asked and not again once it has been. -/
def Ctx.tableGate (f : LX) (c : Ctx) : Except State Ctx :=
  if pfield f.param 8 8 = 0 || (c.s.core c.w.core.toNat).sieveAsked ⟨c.w.id, c.k, c.w.quad⟩ then c.sieveGate
  else match c.s.heldBar c.w (BitVec.ofNat 32 (pfield f.param 15 10)) with
    | none => .error (c.fail (c.trapHere 0x0104))
    | some (b, x) => match c.s.reportBar c.w c.k c.leg b with
      | (s, some t) => .error (if c.w.faultHolds c.k then c.fail t else { c with s := s }.fail t)
      | (s, none) =>
        let par := pfield f.param 9 9 == 1
        if x.ph == par then .error (s.unsatisfied c.w c.k (some b) (some (.bar b par)))
        else { c with s := s }.sieveGate

/-! ## The instructions -/

/-- XCVT (R154). -/
def execXcvt (m : Bool) (f : LX) (s : State) : Host.Outcome State Fault Refusal :=
  s.issueVia (sieveShape 0) m Ctx.sieveGate (Ctx.xcvt · f)

/-- XQNT (R157 to R159). -/
def execXqnt (m : Bool) (f : LX) (s : State) : Host.Outcome State Fault Refusal :=
  s.issueVia (sieveShape 2) m Ctx.sieveGate (Ctx.xqnt · f)

/-- XDQNT (R155). -/
def execXdqnt (m : Bool) (f : LX) (s : State) : Host.Outcome State Fault Refusal :=
  s.issueVia (sieveShape 0) m Ctx.sieveGate (Ctx.xdqnt · f)

/-- XHAD (R156). -/
def execXhad (m : Bool) (f : LX) (s : State) : Host.Outcome State Fault Refusal :=
  s.issueVia (sieveShape 0) m Ctx.sieveGate (Ctx.xhad · f)

/-- XDEC (R162, R163). -/
def execXdec (m : Bool) (f : LX) (s : State) : Host.Outcome State Fault Refusal :=
  s.issueVia (sieveShape 1) m Ctx.sieveGate (Ctx.xdec · f)

/-- XTBL (R160, R161). -/
def execXtbl (m : Bool) (f : LX) (s : State) : Host.Outcome State Fault Refusal :=
  s.issueVia (sieveShape 1) m (Ctx.tableGate f) (Ctx.xtbl · f)

end Sys2Proof.Machine
end

