-- ==== Sys2Proof/Machine/TileInstr.lean ====
section
/-! DEFINITION. Basalt's instructions (spec/09_matrix.md R169 to R188): each closes its leg, and its command reaches Basalt
when the leg commits. -/

namespace Sys2Proof.Machine

/-- A Basalt instruction (R46, R225). -/
def tileShape (mem : Bool) (cls : BitVec 6) : Shape := { words := 3, mem := mem, closing := true, cls := cls }

/-- A command checked as its instruction issues. -/
def Ctx.tileCmd (mk : Ctx → Except Trap TileCmd) (c : Ctx) : Except Trap Ctx := do
  let x ← mk c
  return c.close (.tile x)

/-- R182, R419, R420: TST; its rows in other devices' memory and in CXL memory are to be answered. -/
def Ctx.tst (f : LT) (c : Ctx) : Except Trap Ctx := do
  let x ← c.tstCmd f
  let rows := match x with
    | .store t a st => (List.range 32).filterMap fun i =>
        match c.s.rowPieces c.w.asid a st (rowBytes t) i .write with
        | .ok ps => some (0, rowAddr a st i, ps)
        | .error _ => none
    | _ => []
  return (c.close (.tile x)).awaitOwner (some c.leg.e0) rows

/-- TWAIT of one tile (R175). -/
def Ctx.twait (f : LT) (c : Ctx) : Except Trap Ctx := do
  let t ← c.tile f.td
  return c.close (.twait (some t))

/-! ## The instructions -/

/-- TLD (R181). -/
def execTld (m : Bool) (f : LT) (s : State) : Host.Outcome State Fault Refusal :=
  s.issue (tileShape true 0) m (Ctx.tileCmd fun c => c.tldCmd f)

/-- TLD_W (R183). -/
def execTldW (m : Bool) (f : LT) (s : State) : Host.Outcome State Fault Refusal :=
  s.issue (tileShape true 0) m (Ctx.tileCmd fun c => c.tldWCmd f)

/-- TLDG (R184). -/
def execTldg (m : Bool) (f : LT) (s : State) : Host.Outcome State Fault Refusal :=
  s.issue (tileShape true 0) m (Ctx.tileCmd fun c => c.tldgCmd f)

/-- TST (R182). -/
def execTst (m : Bool) (f : LT) (s : State) : Host.Outcome State Fault Refusal :=
  s.issue (tileShape true 2) m (Ctx.tst f)

/-- TZERO (R181). -/
def execTzero (m : Bool) (f : LT) (s : State) : Host.Outcome State Fault Refusal :=
  s.issue (tileShape false 0) m (Ctx.tileCmd fun c => c.tzeroCmd f)

/-- TMMA (R185). -/
def execTmma (m : Bool) (f : LT) (s : State) : Host.Outcome State Fault Refusal :=
  s.issue (tileShape false 0) m (Ctx.tileCmd fun c => c.tmmaCmd f)

/-- TGRP (R186). -/
def execTgrp (m : Bool) (f : LT) (s : State) : Host.Outcome State Fault Refusal :=
  s.issue (tileShape false 0) m (Ctx.tileCmd fun c => c.tgrpCmd f)

/-- TWAIT (R175). -/
def execTwait (m : Bool) (f : LT) (s : State) : Host.Outcome State Fault Refusal :=
  s.issue (tileShape false 0) m (Ctx.twait f)

/-- TWAIT_ALL (R175). -/
def execTwaitAll (m : Bool) (_f : LT) (s : State) : Host.Outcome State Fault Refusal :=
  s.issue (tileShape false 0) m fun c => .ok (c.close (.twait none))

end Sys2Proof.Machine
end

