-- ==== Sys2Proof/Machine/QuarryInstr.lean ====
section
/-! DEFINITION. The Quarry's instructions (spec/14_quarry_instr.md R281 to R296). -/

namespace Sys2Proof.Machine

/-- Column instructions (R46, R225), and the lane instructions that are no memory access. -/
def columnShape (cls : BitVec 6) : Shape := { words := 3, mem := true, cls := cls }
def queueShape : Shape := { words := 3, closing := true }

/-- R277: the instruction waits for the cairn of a world; its slot issues nothing more. -/
def Ctx.waitCairn (c : Ctx) (world : BitVec 8) : State :=
  c.s.setWave ({ c.w with state := .running }.setLeg c.k (c.leg.waitFor c.s world))

/-- R277: a handle form waits while a cairn of a world that an active lane's handle names is applied. -/
def Ctx.handleGate (f : LQ) (c : Ctx) : Except State Ctx :=
  match c.lanes64 f.sa 0 false with
  | .ok h => match c.s.busyHandle c.w (c.active.map fun l => (l, h.vals.getD l 0)) with
    | some id => .error (c.waitCairn id)
    | none => .ok c
  | .error _ => .ok c

/-- R277: QLDH resolves rows of the wave's world. -/
def Ctx.rowGate (c : Ctx) : Except State Ctx :=
  match c.w.rows with
  | some r => if c.s.partBusy c.w r.world then .error (c.waitCairn r.world) else .ok c
  | none => .ok c

/-- QNEW (R290): a stratum in each active lane. -/
def Ctx.qnew (f : LQ) (c : Ctx) : Except Trap Ctx := do
  let x ← c.lanes f.sa f.imm
  let c ← c.reserveUnknown f.dst 2
  return c.close (.qnew f.dst f.mb f.ct (c.active.map fun l => (l, lane x.vals l)))

/-- QDEL, QADD and QREM (R291): a handle in each active lane. -/
def Ctx.qop (k : QKind) (f : LQ) (c : Ctx) : Except Trap Ctx := do
  let h ← c.lanes64 f.sa 0 false
  return c.close (.qop k f.mb (c.active.map fun l => (l, h.vals.getD l 0)))

/-- R284: a world number the wave is allowed; any other raises 0x0104. -/
def Ctx.worldOf (c : Ctx) (a : SReg) : Except Trap (BitVec 8) := do
  let n ← c.getS a
  match c.s.worldNum c.w.part n with
  | some w => return w.id
  | none => .error (c.trapHere 0x0104)

/-- QGRP (R292). -/
def Ctx.qgrp (a : SReg) (c : Ctx) : Except Trap Ctx := do
  let w ← c.worldOf a
  return c.close (.qgrp w)

/-- QVIEW (R294). -/
def Ctx.qview (d : SReg) (q : AReg) (c : Ctx) : Except Trap Ctx := do
  let x ← c.getA q
  let r ← c.readUnits x 16 5
  match parseQuery r.2 with
  | none => .error (r.1.trapHere 0x0104)
  | some y => return r.1.close (.qview d y.1 y.2.1 y.2.2)

/-- QDROP (R295). -/
def Ctx.qdrop (a : SReg) (c : Ctx) : Except Trap Ctx := do
  let x ← c.getS a
  return c.close (.qdrop x)

/-- CAIRN (R296). -/
def Ctx.cairn (a d : SReg) (c : Ctx) : Except Trap Ctx := do
  let w ← c.worldOf a
  return c.close (.cairn w d)

/-! ## The instructions -/

/-- QRES (R288). -/
def execQres (m : Bool) (f : LQ) (s : State) : Host.Outcome State Fault Refusal :=
  s.issueVia laneShape m (Ctx.handleGate f) (Ctx.qres · f)

/-- QLDC (R286). -/
def execQldc (m : Bool) (f : LQ) (s : State) : Host.Outcome State Fault Refusal :=
  s.issue (columnShape 1) m (Ctx.qldc · f)

/-- QLDC_H (R286). -/
def execQldcH (m : Bool) (f : LQ) (s : State) : Host.Outcome State Fault Refusal :=
  s.issueVia (columnShape 1) m (Ctx.handleGate f) (Ctx.qldcH · f)

/-- QSTC (R286). -/
def execQstc (m : Bool) (f : LQ) (s : State) : Host.Outcome State Fault Refusal :=
  s.issue (columnShape 2) m (Ctx.qstc · f)

/-- QSTC_H (R286). -/
def execQstcH (m : Bool) (f : LQ) (s : State) : Host.Outcome State Fault Refusal :=
  s.issueVia (columnShape 2) m (Ctx.handleGate f) (Ctx.qstcH · f)

/-- QLDH (R288). -/
def execQldh (m : Bool) (f : LQ) (s : State) : Host.Outcome State Fault Refusal :=
  s.issueVia (columnShape 1) m Ctx.rowGate (Ctx.qldh · f)

/-- QNEW (R290). -/
def execQnew (m : Bool) (f : LQ) (s : State) : Host.Outcome State Fault Refusal :=
  s.issue queueShape m (Ctx.qnew f)

/-- QDEL (R291). -/
def execQdel (m : Bool) (f : LQ) (s : State) : Host.Outcome State Fault Refusal :=
  s.issue queueShape m (Ctx.qop .del f)

/-- QADD (R291). -/
def execQadd (m : Bool) (f : LQ) (s : State) : Host.Outcome State Fault Refusal :=
  s.issue queueShape m (Ctx.qop (.add f.ct.toNat) f)

/-- QREM (R291). -/
def execQrem (m : Bool) (f : LQ) (s : State) : Host.Outcome State Fault Refusal :=
  s.issue queueShape m (Ctx.qop (.rem f.ct.toNat) f)

/-- QGEN (R288). -/
def execQgen (m : Bool) (f : LQ) (s : State) : Host.Outcome State Fault Refusal :=
  s.issueVia laneShape m (Ctx.handleGate f) (Ctx.qgen · f)

/-- QGRP (R292). -/
def execQgrp (m : Bool) (a : SReg) (s : State) : Host.Outcome State Fault Refusal :=
  s.issue closeShape m (Ctx.qgrp a)

/-- QCOMMIT (R292). -/
def execQcommit (m : Bool) (s : State) : Host.Outcome State Fault Refusal :=
  s.issue closeShape m fun c => .ok (c.close .qcommit)

/-- QVIEW (R294). -/
def execQview (m : Bool) (d : SReg) (q : AReg) (s : State) : Host.Outcome State Fault Refusal :=
  s.issue { closeShape with cls := 1 } m (Ctx.qview d q)

/-- QDROP (R295). -/
def execQdrop (m : Bool) (a : SReg) (s : State) : Host.Outcome State Fault Refusal :=
  s.issue closeShape m (Ctx.qdrop a)

/-- CAIRN (R296). -/
def execCairn (m : Bool) (a d : SReg) (s : State) : Host.Outcome State Fault Refusal :=
  s.issue closeShape m (Ctx.cairn a d)

end Sys2Proof.Machine
end

