-- ==== Sys2Proof/Machine/SystemInstr.lean ====
section
/-! DEFINITION. Lookout's instructions (spec/18_lookout.md R362 to R365), the system instructions (spec/20_recovery.md R397
to R403), TLBINV (spec/19_isolation.md R380) and the control registers (R32, R404). -/

namespace Sys2Proof.Machine

/-! ## Lookout -/

/-- R362: the head a register names, if it is one of the wave's partition. -/
def Ctx.headOf (c : Ctx) (r : SReg) : Except Trap (BitVec 4) := do
  let n ← c.getS r
  match c.s.part? c.w.part with
  | some p =>
    if n.toNat < 16 && p.heads.getLsbD n.toNat then return n.extractLsb' 0 4 else .error (c.trapHere 0x0104)
  | none => .error (c.trapHere 0x0104)

/-- LKSUB (R363). -/
def Ctx.lksub (d : SReg) (a : AReg) (b : SReg) (c : Ctx) : Except Trap Ctx := do
  let h ← c.headOf b
  let x ← c.getA a
  c.globalAt x 64
  let r ← c.readUnits x 64 2
  return r.1.close (.lksub d h r.2)

/-- The weights and biases of layers (R354, R364), read byte by byte. -/
def Ctx.cardData (c : Ctx) (b : List Byte) : List Nat → Except Trap (Ctx × List (List Byte) × List (List Byte))
  | [] => .ok (c, [], [])
  | k :: ks => do
    let conv := layerNames b k
    let w ← c.readUnits (layerW b k) 1 (if conv then weightBytes b k else 0)
    let x ← w.1.readUnits (layerB b k) 1 (if conv then 4 * layerOut b k else 0)
    let r ← x.1.cardData b ks
    return (r.1, w.2 :: r.2.1, x.2 :: r.2.2)

/-- LKCARD (R364): the header, the descriptors it counts, and the weights and biases that they name are read, whatever else
the head will refuse. -/
def Ctx.lkcard (d : SReg) (a : AReg) (b : SReg) (c : Ctx) : Except Trap Ctx := do
  let h ← c.headOf b
  let x ← c.getA a
  c.globalAt x 64
  let r ← c.readUnits x 64 1
  let n := cardLayers r.2
  let ls ← r.1.readUnits (x + 64) 32 n
  let card := r.2 ++ ls.2
  let ws ← ls.1.cardData card (List.range n)
  return ws.1.close (.lkcard d h card ws.2.1 ws.2.2)

/-- LKSTAT (R365). -/
def Ctx.lkstat (d a b : SReg) (c : Ctx) : Except Trap Ctx := do
  let h ← c.headOf a
  let i ← c.getS b
  if i.toNat < 8 then return c.close (.lkstat d h (i.extractLsb' 0 3)) else .error (c.trapHere 0x0104)

/-! ## Traps, wakes and mappings -/

/-- R397: a page key or a token. -/
def isWaitKey (a : DWord) : Bool := a.getLsbD 63 || isGlobal a

/-- TRAP (R398). -/
def Ctx.trapInstr (d : SReg) (a : AReg) (b : SReg) (c : Ctx) : Except Trap Ctx := do
  let x ← c.getA a
  let y ← c.getS b
  let h := (c.w.slot c.k).inHandler
  if h && !isWaitKey x then .error (c.trapHere 0x0104) else return c.close (.trap d x (y.extractLsb' 0 8) h)

/-- RPLAY (R400). -/
def Ctx.rplay (d : SReg) (a : AReg) (b : SReg) (c : Ctx) : Except Trap Ctx := do
  let x ← c.getA a
  let y ← c.getS b
  if isWaitKey x then return c.close (.rplay d x y) else .error (c.trapHere 0x0104)

/-- MAPFT and MAPCW (R401). -/
def Ctx.mapPage (a : AReg) (g : DWord → Closing) (c : Ctx) : Except Trap Ctx := do
  let x ← c.getA a
  c.globalAt x 1
  return c.close (g x)

/-- TLBINV (R380). -/
def Ctx.tlbinv (a : AReg) (b : SReg) (c : Ctx) : Except Trap Ctx := do
  let x ← c.getA a
  let y ← c.getS b
  c.globalAt x 1
  return c.close (.tlbinv x y)

/-! ## Control registers -/

/-- R32, R33: a control register as the leg began, but for CYC and RFREE. R114 reads RFREE as of the last commit; a spill of
the Hamper, which is no leg's, shows in it at once (log entry 80). -/
def Ctx.csrValue (c : Ctx) (n : BitVec 12) : DWord :=
  let g := c.leg.snap
  match n.toNat with
  | 0x000 => c.w.wid.zext
  | 0x001 => BitVec.ofNat 64 (c.w.quad.toNat * 1024 + c.w.core.toNat)
  | 0x002 => BitVec.ofNat 64 (c.w.core.toNat / 8)
  | 0x003 => BitVec.ofNat 64 (c.w.core.toNat / 128)
  | 0x004 => BitVec.ofNat 64 c.w.ww
  | 0x005 => BitVec.ofNat 64 c.w.rb
  | 0x006 => BitVec.ofNat 64 c.w.rfree
  | 0x007 => c.path.dep.zeroExtend 64
  | 0x010 => c.w.spb
  | 0x011 => c.w.spl
  | 0x020 => g.fcode.zext
  | 0x021 => g.faddr
  | 0x022 => g.ftok
  | 0x023 => g.qabt
  | 0x030 => g.nf[0].zext
  | 0x031 => g.nf[1].zext
  | 0x032 => g.nf[2].zext
  | 0x033 => g.nf[3].zext
  | 0x034 => g.nf[4].zext
  | 0x035 => g.nf[5].zext
  | 0x036 => g.nf[6].zext
  | 0x037 => g.nf[7].zext
  | 0x040 => g.csat.zext
  | 0x041 => g.cftz.zext
  | 0x042 => g.cnan.zext
  | 0x043 => if g.pwb then 1 else 0
  | 0x050 => c.leg.tprog.zext
  | 0x060 => c.w.asid.zeroExtend 64
  | 0x061 => c.w.part.zeroExtend 64
  | _ => (c.s.core c.w.core.toNat).cyc

/-- R20, R404: CYC has advanced by a free amount since it was last read (log entry 5). -/
def Ctx.advanceCyc (c : Ctx) (n : BitVec 12) : Ctx :=
  if n = 0x070 then
    let co := c.s.core c.w.core.toNat
    { c with s := c.s.setCore { co with cyc := co.cyc + Config.cycStep c.s.tick } }
  else c

/-- CSRR (R404). -/
def Ctx.csrr (n : BitVec 12) (r : BitVec 6) (c : Ctx) : Except Trap Ctx :=
  let c := c.advanceCyc n
  let v := c.csrValue n
  .ok (if csrWide n == some true then c.setA (r.extractLsb' 0 4) v else c.setS r v.lo)

/-- R404: the value CSRW writes: an address register's or a scalar's. -/
def Ctx.csrSource (n : BitVec 12) (r : BitVec 6) (c : Ctx) : Except Trap DWord :=
  if csrWide n == some true then c.getA (r.extractLsb' 0 4) else (c.getS r).map (·.zeroExtend 64)

/-- CSRW (R404). -/
def Ctx.csrw (n : BitVec 12) (r : BitVec 6) (c : Ctx) : Except Trap Ctx := do
  let v ← c.csrSource n r
  return c.close (.csrw n v)

/-! ## The instructions -/

/-- LKSUB (R363). -/
def execLksub (m : Bool) (d : SReg) (a : AReg) (b : SReg) (s : State) : Host.Outcome State Fault Refusal :=
  s.issue { closeShape with cls := 1 } m (Ctx.lksub d a b)

/-- LKCARD (R364). -/
def execLkcard (m : Bool) (d : SReg) (a : AReg) (b : SReg) (s : State) : Host.Outcome State Fault Refusal :=
  s.issue { closeShape with cls := 1 } m (Ctx.lkcard d a b)

/-- LKSTAT (R365). -/
def execLkstat (m : Bool) (d a b : SReg) (s : State) : Host.Outcome State Fault Refusal :=
  s.issue closeShape m (Ctx.lkstat d a b)

/-- TRAP (R398). -/
def execTrap (m : Bool) (d : SReg) (a : AReg) (b : SReg) (s : State) : Host.Outcome State Fault Refusal :=
  s.issue closeShape m (Ctx.trapInstr d a b)

/-- SVRET (R399). -/
def execSvret (m : Bool) (s : State) : Host.Outcome State Fault Refusal :=
  s.issue closeShape m fun c => .ok (c.close .svret)

/-- RPLAY (R400). -/
def execRplay (m : Bool) (d : SReg) (a : AReg) (b : SReg) (s : State) : Host.Outcome State Fault Refusal :=
  s.issue closeShape m (Ctx.rplay d a b)

/-- MAPFT (R402). -/
def execMapft (m : Bool) (d : SReg) (a : AReg) (s : State) : Host.Outcome State Fault Refusal :=
  s.issue closeShape m (Ctx.mapPage a (.mapft d))

/-- MAPCW (R403). -/
def execMapcw (m : Bool) (d : SReg) (a : AReg) (s : State) : Host.Outcome State Fault Refusal :=
  s.issue closeShape m (Ctx.mapPage a (.mapcw d))

/-- TLBINV (R380). -/
def execTlbinv (m : Bool) (a : AReg) (b : SReg) (s : State) : Host.Outcome State Fault Refusal :=
  s.issue closeShape m (Ctx.tlbinv a b)

/-- CSRR (R404). -/
def execCsrr (m : Bool) (csr : BitVec 12) (r : BitVec 6) (s : State) : Host.Outcome State Fault Refusal :=
  s.issue plainShape m (Ctx.csrr csr r)

/-- CSRW (R404). -/
def execCsrw (m : Bool) (csr : BitVec 12) (r : BitVec 6) (s : State) : Host.Outcome State Fault Refusal :=
  s.issue closeShape m (Ctx.csrw csr r)

end Sys2Proof.Machine
end

