-- ==== Sys2Proof/Machine/Dispatch.lean ====
section
/-! DEFINITION. The dispatch: one arm for each constructor of Instr, one direct call of its meaning. -/

namespace Sys2Proof.Machine

/-- What an instruction of the current slot, or an event of the device, does (spec/opcode_table.json). -/
def exec (i : Instr) (s : State) : Host.Outcome State Fault Refusal :=
  match i with
  | .sadd m d a b => Sys2Proof.Machine.execSadd m d a b s
  | .ssub m d a b => Sys2Proof.Machine.execSsub m d a b s
  | .smul m d a b => Sys2Proof.Machine.execSmul m d a b s
  | .smulh m d a b => Sys2Proof.Machine.execSmulh m d a b s
  | .smulhn m d a b => Sys2Proof.Machine.execSmulhn m d a b s
  | .sdiv m d a b => Sys2Proof.Machine.execSdiv m d a b s
  | .sdivn m d a b => Sys2Proof.Machine.execSdivn m d a b s
  | .srem m d a b => Sys2Proof.Machine.execSrem m d a b s
  | .sremn m d a b => Sys2Proof.Machine.execSremn m d a b s
  | .sand m d a b => Sys2Proof.Machine.execSand m d a b s
  | .sor m d a b => Sys2Proof.Machine.execSor m d a b s
  | .sxor m d a b => Sys2Proof.Machine.execSxor m d a b s
  | .sshl m d a b => Sys2Proof.Machine.execSshl m d a b s
  | .sshr m d a b => Sys2Proof.Machine.execSshr m d a b s
  | .ssra m d a b => Sys2Proof.Machine.execSsra m d a b s
  | .smin m d a b => Sys2Proof.Machine.execSmin m d a b s
  | .smax m d a b => Sys2Proof.Machine.execSmax m d a b s
  | .sminn m d a b => Sys2Proof.Machine.execSminn m d a b s
  | .smaxn m d a b => Sys2Proof.Machine.execSmaxn m d a b s
  | .sclz m d a => Sys2Proof.Machine.execSclz m d a s
  | .scnt m d a => Sys2Proof.Machine.execScnt m d a s
  | .smov m d a => Sys2Proof.Machine.execSmov m d a s
  | .ssel m d a b => Sys2Proof.Machine.execSsel m d a b s
  | .saddImm m d a imm => Sys2Proof.Machine.execSaddImm m d a imm s
  | .smulImm m d a imm => Sys2Proof.Machine.execSmulImm m d a imm s
  | .sandImm m d a imm => Sys2Proof.Machine.execSandImm m d a imm s
  | .sorImm m d a imm => Sys2Proof.Machine.execSorImm m d a imm s
  | .sxorImm m d a imm => Sys2Proof.Machine.execSxorImm m d a imm s
  | .sshlImm m d a cnt => Sys2Proof.Machine.execSshlImm m d a cnt s
  | .sshrImm m d a cnt => Sys2Proof.Machine.execSshrImm m d a cnt s
  | .ssraImm m d a cnt => Sys2Proof.Machine.execSsraImm m d a cnt s
  | .sbfx m d a pos len1 => Sys2Proof.Machine.execSbfx m d a pos len1 s
  | .sbfi m d a pos len1 => Sys2Proof.Machine.execSbfi m d a pos len1 s
  | .sli m d imm => Sys2Proof.Machine.execSli m d imm s
  | .slih m d imm => Sys2Proof.Machine.execSlih m d imm s
  | .ssetEq m d a b => Sys2Proof.Machine.execSsetEq m d a b s
  | .ssetNe m d a b => Sys2Proof.Machine.execSsetNe m d a b s
  | .ssetLt m d a b => Sys2Proof.Machine.execSsetLt m d a b s
  | .ssetLe m d a b => Sys2Proof.Machine.execSsetLe m d a b s
  | .ssetLtn m d a b => Sys2Proof.Machine.execSsetLtn m d a b s
  | .ssetLen m d a b => Sys2Proof.Machine.execSsetLen m d a b s
  | .sfadd m d a b => Sys2Proof.Machine.execSfadd m d a b s
  | .sfsub m d a b => Sys2Proof.Machine.execSfsub m d a b s
  | .sfmul m d a b => Sys2Proof.Machine.execSfmul m d a b s
  | .sffma m d a b => Sys2Proof.Machine.execSffma m d a b s
  | .scvtI2f m d a => Sys2Proof.Machine.execScvtI2f m d a s
  | .scvtN2f m d a => Sys2Proof.Machine.execScvtN2f m d a s
  | .scvtF2i m d a => Sys2Proof.Machine.execScvtF2i m d a s
  | .scvtF2n m d a => Sys2Proof.Machine.execScvtF2n m d a s
  | .scvtF2ir m d a => Sys2Proof.Machine.execScvtF2ir m d a s
  | .scvtF2nr m d a => Sys2Proof.Machine.execScvtF2nr m d a s
  | .scvtF2b m d a => Sys2Proof.Machine.execScvtF2b m d a s
  | .scvtB2f m d a => Sys2Proof.Machine.execScvtB2f m d a s
  | .scvtF2h m d a => Sys2Proof.Machine.execScvtF2h m d a s
  | .scvtH2f m d a => Sys2Proof.Machine.execScvtH2f m d a s
  | .aadd m d a b => Sys2Proof.Machine.execAadd m d a b s
  | .asub m d a b => Sys2Proof.Machine.execAsub m d a b s
  | .amov m d a => Sys2Proof.Machine.execAmov m d a s
  | .afrom m d a b => Sys2Proof.Machine.execAfrom m d a b s
  | .ato m d a hi => Sys2Proof.Machine.execAto m d a hi s
  | .alea1 m d a b => Sys2Proof.Machine.execAlea1 m d a b s
  | .alea2 m d a b => Sys2Proof.Machine.execAlea2 m d a b s
  | .alea4 m d a b => Sys2Proof.Machine.execAlea4 m d a b s
  | .alea8 m d a b => Sys2Proof.Machine.execAlea8 m d a b s
  | .alea16 m d a b => Sys2Proof.Machine.execAlea16 m d a b s
  | .aaddImm m d a imm => Sys2Proof.Machine.execAaddImm m d a imm s
  | .ali m d imm => Sys2Proof.Machine.execAli m d imm s
  | .aspc m d a => Sys2Proof.Machine.execAspc m d a s
  | .acastG m d a => Sys2Proof.Machine.execAcastG m d a s
  | .acastP m d a => Sys2Proof.Machine.execAcastP m d a s
  | .acastS m d a => Sys2Proof.Machine.execAcastS m d a s
  | .acastC m d a => Sys2Proof.Machine.execAcastC m d a s
  | .agenP m d a => Sys2Proof.Machine.execAgenP m d a s
  | .agenS m d a => Sys2Proof.Machine.execAgenS m d a s
  | .agenC m d a => Sys2Proof.Machine.execAgenC m d a s
  | .mand m d a b => Sys2Proof.Machine.execMand m d a b s
  | .mor m d a b => Sys2Proof.Machine.execMor m d a b s
  | .mxor m d a b => Sys2Proof.Machine.execMxor m d a b s
  | .mandn m d a b => Sys2Proof.Machine.execMandn m d a b s
  | .mnot m d a => Sys2Proof.Machine.execMnot m d a s
  | .mcnt m d a => Sys2Proof.Machine.execMcnt m d a s
  | .mfirst m d a => Sys2Proof.Machine.execMfirst m d a s
  | .mset m d a => Sys2Proof.Machine.execMset m d a s
  | .mget m d a b => Sys2Proof.Machine.execMget m d a b s
  | .br m off => Sys2Proof.Machine.execBr m off s
  | .brz m a off => Sys2Proof.Machine.execBrz m a off s
  | .brv m a off => Sys2Proof.Machine.execBrv m a off s
  | .call m off => Sys2Proof.Machine.execCall m off s
  | .jmp m a => Sys2Proof.Machine.execJmp m a s
  | .jmpv m a => Sys2Proof.Machine.execJmpv m a s
  | .callv m a => Sys2Proof.Machine.execCallv m a s
  | .ret m => Sys2Proof.Machine.execRet m s
  | .join m a => Sys2Proof.Machine.execJoin m a s
  | .land m => Sys2Proof.Machine.execLand m s
  | .yield m => Sys2Proof.Machine.execYield m s
  | .waitv m d a b => Sys2Proof.Machine.execWaitv m d a b s
  | .exit m => Sys2Proof.Machine.execExit m s
  | .nop m => Sys2Proof.Machine.execNop m s
  | .launch m d a => Sys2Proof.Machine.execLaunch m d a s
  | .launchq m d a => Sys2Proof.Machine.execLaunchq m d a s
  | .wsync m => Sys2Proof.Machine.execWsync m s
  | .wflush m => Sys2Proof.Machine.execWflush m s
  | .binit m a b => Sys2Proof.Machine.execBinit m a b s
  | .barv m d a b => Sys2Proof.Machine.execBarv m d a b s
  | .bexp m d a b => Sys2Proof.Machine.execBexp m d a b s
  | .bwait m a b => Sys2Proof.Machine.execBwait m a b s
  | .btest m d a b => Sys2Proof.Machine.execBtest m d a b s
  | .gbar m => Sys2Proof.Machine.execGbar m s
  | .pcopy m a ord scp => Sys2Proof.Machine.execPcopy m a ord scp s
  | .pbatch m d => Sys2Proof.Machine.execPbatch m d s
  | .pwait m a => Sys2Proof.Machine.execPwait m a s
  | .fence m pred succ scp => Sys2Proof.Machine.execFence m pred succ scp s
  | .cinv m a b => Sys2Proof.Machine.execCinv m a b s
  | .cwb m a b => Sys2Proof.Machine.execCwb m a b s
  | .pref m a b => Sys2Proof.Machine.execPref m a b s
  | .qgrp m a => Sys2Proof.Machine.execQgrp m a s
  | .qcommit m => Sys2Proof.Machine.execQcommit m s
  | .qview m d q => Sys2Proof.Machine.execQview m d q s
  | .qdrop m a => Sys2Proof.Machine.execQdrop m a s
  | .cairn m a d => Sys2Proof.Machine.execCairn m a d s
  | .lksub m d a b => Sys2Proof.Machine.execLksub m d a b s
  | .lkcard m d a b => Sys2Proof.Machine.execLkcard m d a b s
  | .lkstat m d a b => Sys2Proof.Machine.execLkstat m d a b s
  | .trap m d a b => Sys2Proof.Machine.execTrap m d a b s
  | .svret m => Sys2Proof.Machine.execSvret m s
  | .rplay m d a b => Sys2Proof.Machine.execRplay m d a b s
  | .mapft m d a => Sys2Proof.Machine.execMapft m d a s
  | .mapcw m d a => Sys2Proof.Machine.execMapcw m d a s
  | .tlbinv m a b => Sys2Proof.Machine.execTlbinv m a b s
  | .csrr m csr r => Sys2Proof.Machine.execCsrr m csr r s
  | .csrw m csr r => Sys2Proof.Machine.execCsrw m csr r s
  | .vadd m f => Sys2Proof.Machine.execVadd m f s
  | .vsub m f => Sys2Proof.Machine.execVsub m f s
  | .vmul m f => Sys2Proof.Machine.execVmul m f s
  | .vfma m f => Sys2Proof.Machine.execVfma m f s
  | .vmin m f => Sys2Proof.Machine.execVmin m f s
  | .vmax m f => Sys2Proof.Machine.execVmax m f s
  | .vabs m f => Sys2Proof.Machine.execVabs m f s
  | .vneg m f => Sys2Proof.Machine.execVneg m f s
  | .vrcp m f => Sys2Proof.Machine.execVrcp m f s
  | .vrsq m f => Sys2Proof.Machine.execVrsq m f s
  | .vsqrt m f => Sys2Proof.Machine.execVsqrt m f s
  | .vexp2 m f => Sys2Proof.Machine.execVexp2 m f s
  | .vlog2 m f => Sys2Proof.Machine.execVlog2 m f s
  | .vsin m f => Sys2Proof.Machine.execVsin m f s
  | .vcos m f => Sys2Proof.Machine.execVcos m f s
  | .vimul m f => Sys2Proof.Machine.execVimul m f s
  | .vimulh m f => Sys2Proof.Machine.execVimulh m f s
  | .vand m f => Sys2Proof.Machine.execVand m f s
  | .vor m f => Sys2Proof.Machine.execVor m f s
  | .vxor m f => Sys2Proof.Machine.execVxor m f s
  | .vshl m f => Sys2Proof.Machine.execVshl m f s
  | .vshr m f => Sys2Proof.Machine.execVshr m f s
  | .vsra m f => Sys2Proof.Machine.execVsra m f s
  | .vcmpEq m f => Sys2Proof.Machine.execVcmpEq m f s
  | .vcmpNe m f => Sys2Proof.Machine.execVcmpNe m f s
  | .vcmpLt m f => Sys2Proof.Machine.execVcmpLt m f s
  | .vcmpLe m f => Sys2Proof.Machine.execVcmpLe m f s
  | .vcmpGt m f => Sys2Proof.Machine.execVcmpGt m f s
  | .vcmpGe m f => Sys2Proof.Machine.execVcmpGe m f s
  | .vcmpUn m f => Sys2Proof.Machine.execVcmpUn m f s
  | .vcmpOrd m f => Sys2Proof.Machine.execVcmpOrd m f s
  | .vsel m f => Sys2Proof.Machine.execVsel m f s
  | .vmov m f => Sys2Proof.Machine.execVmov m f s
  | .vbcast m f => Sys2Proof.Machine.execVbcast m f s
  | .viota m f => Sys2Proof.Machine.execViota m f s
  | .vcvtI2f m f => Sys2Proof.Machine.execVcvtI2f m f s
  | .vcvtN2f m f => Sys2Proof.Machine.execVcvtN2f m f s
  | .vcvtF2i m f => Sys2Proof.Machine.execVcvtF2i m f s
  | .vcvtF2n m f => Sys2Proof.Machine.execVcvtF2n m f s
  | .vcvtF2ir m f => Sys2Proof.Machine.execVcvtF2ir m f s
  | .vcvtF2nr m f => Sys2Proof.Machine.execVcvtF2nr m f s
  | .vcvtF2b m f => Sys2Proof.Machine.execVcvtF2b m f s
  | .vcvtB2f m f => Sys2Proof.Machine.execVcvtB2f m f s
  | .vcvtF2h m f => Sys2Proof.Machine.execVcvtF2h m f s
  | .vcvtH2f m f => Sys2Proof.Machine.execVcvtH2f m f s
  | .vshfl m f => Sys2Proof.Machine.execVshfl m f s
  | .vrot m f => Sys2Proof.Machine.execVrot m f s
  | .vredAdd m f => Sys2Proof.Machine.execVredAdd m f s
  | .vredMin m f => Sys2Proof.Machine.execVredMin m f s
  | .vredMax m f => Sys2Proof.Machine.execVredMax m f s
  | .vredAnd m f => Sys2Proof.Machine.execVredAnd m f s
  | .vredOr m f => Sys2Proof.Machine.execVredOr m f s
  | .vredXor m f => Sys2Proof.Machine.execVredXor m f s
  | .vscanAdd m f => Sys2Proof.Machine.execVscanAdd m f s
  | .vscanMin m f => Sys2Proof.Machine.execVscanMin m f s
  | .vscanMax m f => Sys2Proof.Machine.execVscanMax m f s
  | .vscanAnd m f => Sys2Proof.Machine.execVscanAnd m f s
  | .vscanOr m f => Sys2Proof.Machine.execVscanOr m f s
  | .vscanXor m f => Sys2Proof.Machine.execVscanXor m f s
  | .vcoal m f => Sys2Proof.Machine.execVcoal m f s
  | .vruns m f => Sys2Proof.Machine.execVruns m f s
  | .vld m f => Sys2Proof.Machine.execVld m f s
  | .vldW m f => Sys2Proof.Machine.execVldW m f s
  | .vst m f => Sys2Proof.Machine.execVst m f s
  | .sld m f => Sys2Proof.Machine.execSld m f s
  | .sst m f => Sys2Proof.Machine.execSst m f s
  | .sldp m f => Sys2Proof.Machine.execSldp m f s
  | .vldp m f => Sys2Proof.Machine.execVldp m f s
  | .vatomAdd m f => Sys2Proof.Machine.execVatomAdd m f s
  | .vatomAnd m f => Sys2Proof.Machine.execVatomAnd m f s
  | .vatomOr m f => Sys2Proof.Machine.execVatomOr m f s
  | .vatomXor m f => Sys2Proof.Machine.execVatomXor m f s
  | .vatomMin m f => Sys2Proof.Machine.execVatomMin m f s
  | .vatomMax m f => Sys2Proof.Machine.execVatomMax m f s
  | .vatomSwap m f => Sys2Proof.Machine.execVatomSwap m f s
  | .vatomCas m f => Sys2Proof.Machine.execVatomCas m f s
  | .satomAdd m f => Sys2Proof.Machine.execSatomAdd m f s
  | .satomAnd m f => Sys2Proof.Machine.execSatomAnd m f s
  | .satomOr m f => Sys2Proof.Machine.execSatomOr m f s
  | .satomXor m f => Sys2Proof.Machine.execSatomXor m f s
  | .satomMin m f => Sys2Proof.Machine.execSatomMin m f s
  | .satomMax m f => Sys2Proof.Machine.execSatomMax m f s
  | .satomSwap m f => Sys2Proof.Machine.execSatomSwap m f s
  | .satomCas m f => Sys2Proof.Machine.execSatomCas m f s
  | .claim m f => Sys2Proof.Machine.execClaim m f s
  | .xcvt m f => Sys2Proof.Machine.execXcvt m f s
  | .xqnt m f => Sys2Proof.Machine.execXqnt m f s
  | .xdqnt m f => Sys2Proof.Machine.execXdqnt m f s
  | .xhad m f => Sys2Proof.Machine.execXhad m f s
  | .xdec m f => Sys2Proof.Machine.execXdec m f s
  | .xtbl m f => Sys2Proof.Machine.execXtbl m f s
  | .tld m f => Sys2Proof.Machine.execTld m f s
  | .tldW m f => Sys2Proof.Machine.execTldW m f s
  | .tldg m f => Sys2Proof.Machine.execTldg m f s
  | .tst m f => Sys2Proof.Machine.execTst m f s
  | .tzero m f => Sys2Proof.Machine.execTzero m f s
  | .tmma m f => Sys2Proof.Machine.execTmma m f s
  | .tgrp m f => Sys2Proof.Machine.execTgrp m f s
  | .twait m f => Sys2Proof.Machine.execTwait m f s
  | .twaitAll m f => Sys2Proof.Machine.execTwaitAll m f s
  | .qres m f => Sys2Proof.Machine.execQres m f s
  | .qldc m f => Sys2Proof.Machine.execQldc m f s
  | .qldcH m f => Sys2Proof.Machine.execQldcH m f s
  | .qstc m f => Sys2Proof.Machine.execQstc m f s
  | .qstcH m f => Sys2Proof.Machine.execQstcH m f s
  | .qldh m f => Sys2Proof.Machine.execQldh m f s
  | .qnew m f => Sys2Proof.Machine.execQnew m f s
  | .qdel m f => Sys2Proof.Machine.execQdel m f s
  | .qadd m f => Sys2Proof.Machine.execQadd m f s
  | .qrem m f => Sys2Proof.Machine.execQrem m f s
  | .qgen m f => Sys2Proof.Machine.execQgen m f s
  | .legCommit w k => Sys2Proof.Machine.execLegCommit w k s
  | .faultDelivery w k => Sys2Proof.Machine.execFaultDelivery w k s
  | .issueAgePriority w k => Sys2Proof.Machine.execIssueAgePriority w k s
  | .slotRotation w k => Sys2Proof.Machine.execSlotRotation w k s
  | .hamperSpill w => Sys2Proof.Machine.execHamperSpill w s
  | .sieveServe core => Sys2Proof.Machine.execSieveServe core s
  | .basaltCommandStart tok => Sys2Proof.Machine.execBasaltCommandStart tok s
  | .basaltCommandFinish tok => Sys2Proof.Machine.execBasaltCommandFinish tok s
  | .porterChunk tok => Sys2Proof.Machine.execPorterChunk tok s
  | .waitvRecheck w k => Sys2Proof.Machine.execWaitvRecheck w k s
  | .waveBind core quad => Sys2Proof.Machine.execWaveBind core quad s
  | .wavePreempt launch core => Sys2Proof.Machine.execWavePreempt launch core s
  | .waveRebind w core quad => Sys2Proof.Machine.execWaveRebind w core quad s
  | .cairnApply world => Sys2Proof.Machine.execCairnApply world s
  | .tlbWalk idx => Sys2Proof.Machine.execTlbWalk idx s
  | .hostAtomicFailure w k lanes abort => Sys2Proof.Machine.execHostAtomicFailure w k lanes abort s
  | .completionTimeout w k lanes performed => Sys2Proof.Machine.execCompletionTimeout w k lanes performed s
  | .lateCompletion port => Sys2Proof.Machine.execLateCompletion port s
  | .postedWriteError port addr => Sys2Proof.Machine.execPostedWriteError port addr s
  | .cxlResponseTimeout port addr => Sys2Proof.Machine.execCxlResponseTimeout port addr s
  | .domainResponseTimeout w k lanes performed => Sys2Proof.Machine.execDomainResponseTimeout w k lanes performed s
  | .faultQueueFlush part => Sys2Proof.Machine.execFaultQueueFlush part s
  | .rootLaunch port rlctl => Sys2Proof.Machine.execRootLaunch port rlctl s
  | .semaphoreAcquire port => Sys2Proof.Machine.execSemaphoreAcquire port s
  | .semaphoreRelease port => Sys2Proof.Machine.execSemaphoreRelease port s
  | .partSet port => Sys2Proof.Machine.execPartSet port s
  | .partRelease port => Sys2Proof.Machine.execPartRelease port s
  | .map port => Sys2Proof.Machine.execMap port s
  | .unmap port => Sys2Proof.Machine.execUnmap port s
  | .protect port => Sys2Proof.Machine.execProtect port s
  | .worldCreate port => Sys2Proof.Machine.execWorldCreate port s
  | .worldDestroy port => Sys2Proof.Machine.execWorldDestroy port s
  | .headConfig port => Sys2Proof.Machine.execHeadConfig port s
  | .identity port => Sys2Proof.Machine.execIdentity port s
  | .attest port => Sys2Proof.Machine.execAttest port s
  | .lifecycle port => Sys2Proof.Machine.execLifecycle port s
  | .fwUpdate port => Sys2Proof.Machine.execFwUpdate port s
  | .suspend port => Sys2Proof.Machine.execSuspend port s
  | .resume port => Sys2Proof.Machine.execResume port s
  | .workRequest port => Sys2Proof.Machine.execWorkRequest port s
  | .portReplay port ctl => Sys2Proof.Machine.execPortReplay port ctl s
  | .apertureAccess port req => Sys2Proof.Machine.execApertureAccess port req s
  | .inboundAtomicop port req => Sys2Proof.Machine.execInboundAtomicop port req s
  | .portHotReset port => Sys2Proof.Machine.execPortHotReset port s
  | .portLinkLoss port => Sys2Proof.Machine.execPortLinkLoss port s
  | .fundamentalReset both port => Sys2Proof.Machine.execFundamentalReset both port s
  | .startTimeout => Sys2Proof.Machine.execStartTimeout s
  | .powerThrottle part pnow => Sys2Proof.Machine.execPowerThrottle part pnow s
  | .thermalThrottle tmax => Sys2Proof.Machine.execThermalThrottle tmax s
  | .thermalStop tmax => Sys2Proof.Machine.execThermalStop tmax s
  | .refreshLatch head => Sys2Proof.Machine.execRefreshLatch head s
  | .bandStart head => Sys2Proof.Machine.execBandStart head s
  | .bandProjection head late => Sys2Proof.Machine.execBandProjection head late s
  | .tier0Deadline head => Sys2Proof.Machine.execTier0Deadline head s
  | .tier1Cutoff head => Sys2Proof.Machine.execTier1Cutoff head s
  | .bandDone head => Sys2Proof.Machine.execBandDone head s
  | .lineScanout head => Sys2Proof.Machine.execLineScanout head s
  | .registerWrite port off val => Sys2Proof.Machine.execRegisterWrite port off val s
  | .domainInboundAccess peer req => Sys2Proof.Machine.execDomainInboundAccess peer req s
  | .jexkinLinkLoss link => Sys2Proof.Machine.execJexkinLinkLoss link s
  | .cxlLinkLoss port => Sys2Proof.Machine.execCxlLinkLoss port s
  | .powerRailFault => Sys2Proof.Machine.execPowerRailFault s
  | .unknownOp port => Sys2Proof.Machine.execUnknownOp port s
  | .bandLayerEnd head late => Sys2Proof.Machine.execBandLayerEnd head late s
  | .lookoutAccessFault head code addr => Sys2Proof.Machine.execLookoutAccessFault head code addr s

end Sys2Proof.Machine
end

