-- ==== Sys2Proof/Decode.lean ====
section
/-! DEFINITION. Decoding of instruction words (spec/04_encoding.md R65 to R81), total on any words, and after it the
encoder, written from the same tables. The checks of `Instr.wf` close the decoder: a word is an instruction exactly
when its fields are read by a row of R79 or R80 and the row's conditions hold. -/

namespace Sys2Proof

/-- Field `[hi:lo]` of a word (R3). -/
def fld (w : Word) (hi lo : Nat) : BitVec (hi + 1 - lo) := w.extractLsb' lo (hi + 1 - lo)

/-- R65: is the word word 0 of a 96-bit instruction? -/
def isLong (w : Word) : Bool := fld w 1 0 == 3

/-- R66: the leg-end marker. -/
def marker (w : Word) : Bool := fld w 2 2 == 1

/-- R71: the operand an 8-bit selector names. -/
def decSel (b : BitVec 8) : Option Sel :=
  if b.toNat < 0x40 then some (.v (b.extractLsb' 0 6))
  else if b.toNat < 0x48 then some (.t (b.extractLsb' 0 3))
  else if b.toNat < 0x80 then none
  else if b.toNat < 0xC0 then some (.s (b.extractLsb' 0 6))
  else if b == 0xC0 then some .imm
  else none

/-- R73. -/
def decTy (b : BitVec 3) : Option LTy :=
  match b.toNat with
  | 0 => some .f32 | 1 => some .bf16x2 | 2 => some .f16x2 | 3 => some .i32
  | 4 => some .n32 | 5 => some .i64 | 6 => some .n64 | _ => none

/-- R73. -/
def decRm (b : BitVec 3) : Option Rm :=
  match b.toNat with
  | 0 => some .rne | 1 => some .rz | 2 => some .rdn | 3 => some .rup | _ => none

/-- R76. -/
def decSpc (b : BitVec 3) : Option Spc :=
  match b.toNat with
  | 0 => some .x | 1 => some .g | 2 => some .p | 3 => some .s | 4 => some .c | _ => none

/-- R76. -/
def decOrd (b : BitVec 2) : Ord :=
  match b.toNat with
  | 0 => .none | 1 => .acq | 2 => .rel | _ => .acqrel

/-- R76. -/
def decScp (b : BitVec 3) : Option Scp :=
  match b.toNat with
  | 0 => some .none | 1 => some .wave | 2 => some .core | 3 => some .clus
  | 4 => some .dev | 5 => some .dom | 6 => some .sys | _ => none

/-- A 6-bit field that names an address register holds 0 to 15 (R69). -/
def decA (b : BitVec 6) : Option AReg :=
  if b.toNat < 16 then some (b.extractLsb' 0 4) else none

/-- Format LA (R74). -/
def decLA (w0 w1 w2 : Word) : Option LA :=
  match decSel (fld w0 25 18), decSel (fld w1 15 8), decSel (fld w1 23 16), decSel (fld w1 31 24),
    decTy (fld w1 7 5), decRm (fld w1 4 2) with
  | some dst, some sa, some sb, some sc, some ty, some rm =>
    if fld w0 11 10 == 0 && fld w1 0 0 == 0 then
      some ⟨dst, fld w0 17 12, sa, sb, sc, ty, rm, fld w1 1 1 == 1, w2⟩
    else none
  | _, _, _, _, _, _ => none

/-- Format LX (R74, R153): MK and TY are zero. -/
def decLX (w0 w1 w2 : Word) : Option LX :=
  match decSel (fld w0 25 18), decSel (fld w1 15 8), decSel (fld w1 23 16), decSel (fld w1 31 24),
    decRm (fld w1 4 2) with
  | some dst, some sa, some sb, some sc, some rm =>
    if fld w0 17 10 == 0 && fld w1 7 5 == 0 && fld w1 0 0 == 0 then
      some ⟨dst, sa, sb, sc, rm, fld w1 1 1 == 1, w2⟩
    else none
  | _, _, _, _, _ => none

/-- AM, OX and word 2 of format LM (R75). -/
def decAm (am : BitVec 2) (ox : BitVec 6) (w2 : Word) : Option Am :=
  match am.toNat with
  | 0 => if ox == 0 then some (.off w2) else none
  | 1 => if w2 == 0 then some (.s ox) else none
  | 2 => if w2 == 0 then some (.v ox) else none
  | _ => none

/-- Format LM (R75). -/
def decLM (w0 w1 w2 : Word) : Option LM :=
  match decSel (fld w0 25 18), decSel (fld w0 17 10), decAm (fld w1 21 20) (fld w1 27 22) w2,
    decSpc (fld w1 19 17), decScp (fld w1 14 12), decTy (fld w1 5 3) with
  | some dv, some sv, some am, some spc, some scp, some ty =>
    if fld w1 2 0 == 0 then
      some ⟨dv, sv, fld w1 31 28, am, spc, decOrd (fld w1 16 15), scp, fld w1 11 6, ty⟩
    else none
  | _, _, _, _, _, _ => none

/-- Format LT (R77). -/
def decLT (w0 w1 w2 : Word) : Option LT :=
  match decSel (fld w1 23 16), decScp (fld w1 2 0) with
  | some sx, some scp =>
    if fld w1 11 11 == 1 then
      some ⟨fld w0 25 18, fld w0 17 10, fld w1 31 24, sx, fld w1 15 12, some (fld w1 10 5), decOrd (fld w1 4 3), scp, w2⟩
    else if fld w1 10 5 == 0 then
      some ⟨fld w0 25 18, fld w0 17 10, fld w1 31 24, sx, fld w1 15 12, none, decOrd (fld w1 4 3), scp, w2⟩
    else none
  | _, _ => none

/-- Format LQ (R78). -/
def decLQ (w0 w1 w2 : Word) : Option LQ :=
  match decSel (fld w0 25 18), decSel (fld w1 15 8), decSel (fld w1 23 16), decSel (fld w1 31 24) with
  | some dst, some sa, some sb, some sc =>
    some ⟨dst, fld w0 17 12, fld w0 11 10, sa, sb, sc, fld w1 7 0, w2⟩
  | _, _, _, _ => none


/-- Major 0x01, format SR (R68, R79). -/
def decMajor01 (m : Bool) (fn : BitVec 5) (sb sa sd : BitVec 6) : Option Instr :=
  match fn.toNat with
  | 0 => some (.sadd m sd sa sb)
  | 1 => some (.ssub m sd sa sb)
  | 2 => some (.smul m sd sa sb)
  | 3 => some (.smulh m sd sa sb)
  | 4 => some (.smulhn m sd sa sb)
  | 5 => some (.sdiv m sd sa sb)
  | 6 => some (.sdivn m sd sa sb)
  | 7 => some (.srem m sd sa sb)
  | 8 => some (.sremn m sd sa sb)
  | 9 => some (.sand m sd sa sb)
  | 10 => some (.sor m sd sa sb)
  | 11 => some (.sxor m sd sa sb)
  | 12 => some (.sshl m sd sa sb)
  | 13 => some (.sshr m sd sa sb)
  | 14 => some (.ssra m sd sa sb)
  | 15 => some (.smin m sd sa sb)
  | 16 => some (.smax m sd sa sb)
  | 17 => some (.sminn m sd sa sb)
  | 18 => some (.smaxn m sd sa sb)
  | 19 => if sb == 0 then some (.sclz m sd sa) else none
  | 20 => if sb == 0 then some (.scnt m sd sa) else none
  | 21 => if sb == 0 then some (.smov m sd sa) else none
  | 22 => some (.ssel m sd sa sb)
  | _ => none

/-- Major 0x02, format SR (R68, R79). -/
def decMajor02 (m : Bool) (fn : BitVec 5) (sb sa sd : BitVec 6) : Option Instr :=
  match fn.toNat with
  | 0 => some (.ssetEq m sd sa sb)
  | 1 => some (.ssetNe m sd sa sb)
  | 2 => some (.ssetLt m sd sa sb)
  | 3 => some (.ssetLe m sd sa sb)
  | 4 => some (.ssetLtn m sd sa sb)
  | 5 => some (.ssetLen m sd sa sb)
  | _ => none

/-- Major 0x03, format SR (R68, R79). -/
def decMajor03 (m : Bool) (fn : BitVec 5) (sb sa sd : BitVec 6) : Option Instr :=
  match fn.toNat with
  | 0 => some (.sfadd m sd sa sb)
  | 1 => some (.sfsub m sd sa sb)
  | 2 => some (.sfmul m sd sa sb)
  | 3 => some (.sffma m sd sa sb)
  | _ => none

/-- Major 0x04, format SR (R68, R79). -/
def decMajor04 (m : Bool) (fn : BitVec 5) (sb sa sd : BitVec 6) : Option Instr :=
  match fn.toNat with
  | 0 => if sb == 0 then some (.scvtI2f m sd sa) else none
  | 1 => if sb == 0 then some (.scvtN2f m sd sa) else none
  | 2 => if sb == 0 then some (.scvtF2i m sd sa) else none
  | 3 => if sb == 0 then some (.scvtF2n m sd sa) else none
  | 4 => if sb == 0 then some (.scvtF2ir m sd sa) else none
  | 5 => if sb == 0 then some (.scvtF2nr m sd sa) else none
  | 6 => if sb == 0 then some (.scvtF2b m sd sa) else none
  | 7 => if sb == 0 then some (.scvtB2f m sd sa) else none
  | 8 => if sb == 0 then some (.scvtF2h m sd sa) else none
  | 9 => if sb == 0 then some (.scvtH2f m sd sa) else none
  | _ => none

/-- Major 0x18, format SR (R68, R79). -/
def decMajor18 (m : Bool) (fn : BitVec 5) (sb sa sd : BitVec 6) : Option Instr :=
  match fn.toNat with
  | 0 => match decA sd, decA sa with | some d', some a' => some (.aadd m d' a' sb) | _, _ => none
  | 1 => match decA sd, decA sa, decA sb with | some d', some a', some b' => some (.asub m d' a' b') | _, _, _ => none
  | 2 => if sb == 0 then (match decA sd, decA sa with | some d', some a' => some (.amov m d' a') | _, _ => none) else none
  | 3 => match decA sd with | some d' => some (.afrom m d' sa sb) | _ => none
  | 4 => if sb.toNat < 2 then (match decA sa with | some a' => some (.ato m sd a' ((sb == 1))) | _ => none) else none
  | 8 => match decA sd, decA sa with | some d', some a' => some (.alea1 m d' a' sb) | _, _ => none
  | 9 => match decA sd, decA sa with | some d', some a' => some (.alea2 m d' a' sb) | _, _ => none
  | 10 => match decA sd, decA sa with | some d', some a' => some (.alea4 m d' a' sb) | _, _ => none
  | 11 => match decA sd, decA sa with | some d', some a' => some (.alea8 m d' a' sb) | _, _ => none
  | 12 => match decA sd, decA sa with | some d', some a' => some (.alea16 m d' a' sb) | _, _ => none
  | _ => none

/-- Major 0x1C, format SR (R68, R79). -/
def decMajor1C (m : Bool) (fn : BitVec 5) (sb sa sd : BitVec 6) : Option Instr :=
  match fn.toNat with
  | 0 => if sb == 0 then (match decA sa with | some a' => some (.aspc m sd a') | _ => none) else none
  | 1 => if sb == 0 then (match decA sd, decA sa with | some d', some a' => some (.acastG m d' a') | _, _ => none) else none
  | 2 => if sb == 0 then (match decA sd, decA sa with | some d', some a' => some (.acastP m d' a') | _, _ => none) else none
  | 3 => if sb == 0 then (match decA sd, decA sa with | some d', some a' => some (.acastS m d' a') | _, _ => none) else none
  | 4 => if sb == 0 then (match decA sd, decA sa with | some d', some a' => some (.acastC m d' a') | _, _ => none) else none
  | 5 => if sb == 0 then (match decA sd, decA sa with | some d', some a' => some (.agenP m d' a') | _, _ => none) else none
  | 6 => if sb == 0 then (match decA sd, decA sa with | some d', some a' => some (.agenS m d' a') | _, _ => none) else none
  | 7 => if sb == 0 then (match decA sd, decA sa with | some d', some a' => some (.agenC m d' a') | _, _ => none) else none
  | _ => none

/-- Major 0x1E, format SR (R68, R79). -/
def decMajor1E (m : Bool) (fn : BitVec 5) (sb sa sd : BitVec 6) : Option Instr :=
  match fn.toNat with
  | 0 => some (.mand m sd sa sb)
  | 1 => some (.mor m sd sa sb)
  | 2 => some (.mxor m sd sa sb)
  | 3 => some (.mandn m sd sa sb)
  | 4 => if sb == 0 then some (.mnot m sd sa) else none
  | 5 => if sb == 0 then some (.mcnt m sd sa) else none
  | 6 => if sb == 0 then some (.mfirst m sd sa) else none
  | 7 => if sb == 0 then some (.mset m sd sa) else none
  | 8 => some (.mget m sd sa sb)
  | _ => none

/-- Major 0x24, format SR (R68, R79). -/
def decMajor24 (m : Bool) (fn : BitVec 5) (sb sa sd : BitVec 6) : Option Instr :=
  match fn.toNat with
  | 0 => if sd == 0 && sb == 0 then (match decA sa with | some a' => some (.jmp m a') | _ => none) else none
  | 1 => if sd == 0 && sb == 0 then some (.jmpv m sa) else none
  | 2 => if sd == 0 && sb == 0 then some (.callv m sa) else none
  | 3 => if sd == 0 && sa == 0 && sb == 0 then some (.ret m) else none
  | 4 => if sd == 0 && sb == 0 then some (.join m sa) else none
  | 5 => if sd == 0 && sa == 0 && sb == 0 then some (.land m) else none
  | 6 => if sd == 0 && sa == 0 && sb == 0 then some (.yield m) else none
  | 7 => match decA sa with | some a' => some (.waitv m sd a' sb) | _ => none
  | 8 => if sd == 0 && sa == 0 && sb == 0 then some (.exit m) else none
  | 9 => if sd == 0 && sa == 0 && sb == 0 then some (.nop m) else none
  | _ => none

/-- Major 0x28, format SR (R68, R79). -/
def decMajor28 (m : Bool) (fn : BitVec 5) (sb sa sd : BitVec 6) : Option Instr :=
  match fn.toNat with
  | 0 => if sb == 0 then (match decA sa with | some a' => some (.launch m sd a') | _ => none) else none
  | 1 => if sb == 0 then (match decA sa with | some a' => some (.launchq m sd a') | _ => none) else none
  | _ => none

/-- Major 0x2A, format SR (R68, R79). -/
def decMajor2A (m : Bool) (fn : BitVec 5) (sb sa sd : BitVec 6) : Option Instr :=
  match fn.toNat with
  | 0 => if sd == 0 && sa == 0 && sb == 0 then some (.wsync m) else none
  | 1 => if sd == 0 && sa == 0 && sb == 0 then some (.wflush m) else none
  | _ => none

/-- Major 0x2C, format SR (R68, R79). -/
def decMajor2C (m : Bool) (fn : BitVec 5) (sb sa sd : BitVec 6) : Option Instr :=
  match fn.toNat with
  | 0 => if sd == 0 then some (.binit m sa sb) else none
  | 1 => some (.barv m sd sa sb)
  | 2 => some (.bexp m sd sa sb)
  | 3 => if sd == 0 then some (.bwait m sa sb) else none
  | 4 => some (.btest m sd sa sb)
  | 5 => if sd == 0 && sa == 0 && sb == 0 then some (.gbar m) else none
  | _ => none

/-- Major 0x36, format SR (R68, R79). -/
def decMajor36 (m : Bool) (fn : BitVec 5) (sb sa sd : BitVec 6) : Option Instr :=
  match fn.toNat with
  | 0 => match decA sa with | some a' => some (.lksub m sd a' sb) | _ => none
  | 1 => match decA sa with | some a' => some (.lkcard m sd a' sb) | _ => none
  | 2 => some (.lkstat m sd sa sb)
  | _ => none

/-- Major 0x38, format SR (R68, R79). -/
def decMajor38 (m : Bool) (fn : BitVec 5) (sb sa sd : BitVec 6) : Option Instr :=
  match fn.toNat with
  | 0 => match decA sa with | some a' => some (.trap m sd a' sb) | _ => none
  | 1 => if sd == 0 && sa == 0 && sb == 0 then some (.svret m) else none
  | 2 => match decA sa with | some a' => some (.rplay m sd a' sb) | _ => none
  | 3 => if sb == 0 then (match decA sa with | some a' => some (.mapft m sd a') | _ => none) else none
  | 4 => if sb == 0 then (match decA sa with | some a' => some (.mapcw m sd a') | _ => none) else none
  | 5 => if sd == 0 then (match decA sa with | some a' => some (.tlbinv m a' sb) | _ => none) else none
  | _ => none

/-- Major 0x2E, format SQ (R68, R79). -/
def decMajor2E (m : Bool) (scp : BitVec 3) (ord : BitVec 2) (fn sb sa : BitVec 6) : Option Instr :=
  match fn.toNat with
  | 0 => match decA sa, decScp scp with | some a', some c => if sb == 0 then some (.pcopy m a' (decOrd ord) c) else none | _, _ => none
  | 1 => if sb == 0 && ord == 0 && scp == 0 then some (.pbatch m sa) else none
  | 2 => if sb == 0 && ord == 0 && scp == 0 then some (.pwait m sa) else none
  | _ => none

/-- Major 0x31, format SQ (R68, R79). -/
def decMajor31 (m : Bool) (scp : BitVec 3) (ord : BitVec 2) (fn sb sa : BitVec 6) : Option Instr :=
  match fn.toNat with
  | 0 => if ord == 0 && scp == 0 then (match decA sa with | some a' => some (.cinv m a' sb) | _ => none) else none
  | 1 => if ord == 0 && scp == 0 then (match decA sa with | some a' => some (.cwb m a' sb) | _ => none) else none
  | 2 => if ord == 0 && scp == 0 then (match decA sa with | some a' => some (.pref m a' sb) | _ => none) else none
  | _ => none

/-- Major 0x34, format SQ (R68, R79). -/
def decMajor34 (m : Bool) (scp : BitVec 3) (ord : BitVec 2) (fn sb sa : BitVec 6) : Option Instr :=
  match fn.toNat with
  | 0 => if sb == 0 && ord == 0 && scp == 0 then some (.qgrp m sa) else none
  | 1 => if sa == 0 && sb == 0 && ord == 0 && scp == 0 then some (.qcommit m) else none
  | 2 => if ord == 0 && scp == 0 then (match decA sb with | some q' => some (.qview m sa q') | _ => none) else none
  | 3 => if sb == 0 && ord == 0 && scp == 0 then some (.qdrop m sa) else none
  | 4 => if ord == 0 && scp == 0 then some (.cairn m sa sb) else none
  | _ => none

/-- Major 0x30, format SQ (R68, R79). -/
def decMajor30 (m : Bool) (scp : BitVec 3) (ord : BitVec 2) (fn sb sa : BitVec 6) : Option Instr :=
  match fn.toNat with
  | 0 => match decScp scp with | some c => if ord == 0 then some (.fence m sa sb c) else none | none => none
  | _ => none

/-- A 32-bit word (R68, R79): the row of the scalar opcode map that reads it. -/
def decScalarRaw (w : Word) : Option Instr :=
  let m := marker w
  let fn := fld w 31 27
  let sb := fld w 26 21
  let sa := fld w 20 15
  let sd := fld w 14 9
  let qfn := fld w 26 21
  let imm11 := fld w 31 21
  if fld w 1 0 != 0 then none else
  match (fld w 8 3).toNat with
  | 0x01 => decMajor01 m fn sb sa sd
  | 0x02 => decMajor02 m fn sb sa sd
  | 0x03 => decMajor03 m fn sb sa sd
  | 0x04 => decMajor04 m fn sb sa sd
  | 0x08 => some (.saddImm m sd sa imm11)
  | 0x09 => some (.smulImm m sd sa imm11)
  | 0x0A => some (.sandImm m sd sa imm11)
  | 0x0B => some (.sorImm m sd sa imm11)
  | 0x0C => some (.sxorImm m sd sa imm11)
  | 0x0D => if fld w 31 26 == 0 then some (.sshlImm m sd sa (fld w 25 21)) else none
  | 0x0E => if fld w 31 26 == 0 then some (.sshrImm m sd sa (fld w 25 21)) else none
  | 0x0F => if fld w 31 26 == 0 then some (.ssraImm m sd sa (fld w 25 21)) else none
  | 0x10 => if fld w 31 31 == 0 then some (.sbfx m sd sa (fld w 25 21) (fld w 30 26)) else none
  | 0x11 => if fld w 31 31 == 0 then some (.sbfi m sd sa (fld w 25 21) (fld w 30 26)) else none
  | 0x14 => if fld w 15 15 == 0 then some (.sli m sd (fld w 31 16)) else some (.slih m sd (fld w 31 16))
  | 0x18 => decMajor18 m fn sb sa sd
  | 0x19 => match decA sd, decA sa with | some d', some a' => some (.aaddImm m d' a' imm11) | _, _ => none
  | 0x1A => match decA sd with | some d' => if fld w 15 15 == 0 then some (.ali m d' (fld w 31 16)) else none | none => none
  | 0x1C => decMajor1C m fn sb sa sd
  | 0x1E => decMajor1E m fn sb sa sd
  | 0x20 => if sd == 0 then some (.br m (fld w 31 15)) else none
  | 0x21 => some (.brz m sd (fld w 31 15))
  | 0x22 => some (.brv m sd (fld w 31 15))
  | 0x23 => if sd == 0 then some (.call m (fld w 31 15)) else none
  | 0x24 => decMajor24 m fn sb sa sd
  | 0x28 => decMajor28 m fn sb sa sd
  | 0x2A => decMajor2A m fn sb sa sd
  | 0x2C => decMajor2C m fn sb sa sd
  | 0x2E => decMajor2E m (fld w 31 29) (fld w 28 27) qfn sa sd
  | 0x30 => decMajor30 m (fld w 31 29) (fld w 28 27) qfn sa sd
  | 0x31 => decMajor31 m (fld w 31 29) (fld w 28 27) qfn sa sd
  | 0x34 => decMajor34 m (fld w 31 29) (fld w 28 27) qfn sa sd
  | 0x36 => decMajor36 m fn sb sa sd
  | 0x38 => decMajor38 m fn sb sa sd
  | 0x3A => if fld w 19 16 == 0 then (if fld w 15 15 == 0 then some (.csrr m (fld w 31 20) sd) else some (.csrw m (fld w 31 20) sd)) else none
  | _ => none

/-- Lane major 0x01, format LA (R80). -/
def decLane01 (m : Bool) (fn : Nat) (f : LA) : Option Instr :=
  match fn with
  | 0 => some (.vadd m f)
  | 1 => some (.vsub m f)
  | 2 => some (.vmul m f)
  | 3 => some (.vfma m f)
  | 4 => some (.vmin m f)
  | 5 => some (.vmax m f)
  | 6 => some (.vabs m f)
  | 7 => some (.vneg m f)
  | _ => none

/-- Lane major 0x02, format LA (R80). -/
def decLane02 (m : Bool) (fn : Nat) (f : LA) : Option Instr :=
  match fn with
  | 0 => some (.vrcp m f)
  | 1 => some (.vrsq m f)
  | 2 => some (.vsqrt m f)
  | 3 => some (.vexp2 m f)
  | 4 => some (.vlog2 m f)
  | 5 => some (.vsin m f)
  | 6 => some (.vcos m f)
  | _ => none

/-- Lane major 0x03, format LA (R80). -/
def decLane03 (m : Bool) (fn : Nat) (f : LA) : Option Instr :=
  match fn with
  | 0 => some (.vimul m f)
  | 1 => some (.vimulh m f)
  | 2 => some (.vand m f)
  | 3 => some (.vor m f)
  | 4 => some (.vxor m f)
  | 5 => some (.vshl m f)
  | 6 => some (.vshr m f)
  | 7 => some (.vsra m f)
  | _ => none

/-- Lane major 0x04, format LA (R80). -/
def decLane04 (m : Bool) (fn : Nat) (f : LA) : Option Instr :=
  match fn with
  | 0 => some (.vcmpEq m f)
  | 1 => some (.vcmpNe m f)
  | 2 => some (.vcmpLt m f)
  | 3 => some (.vcmpLe m f)
  | 4 => some (.vcmpGt m f)
  | 5 => some (.vcmpGe m f)
  | 6 => some (.vcmpUn m f)
  | 7 => some (.vcmpOrd m f)
  | _ => none

/-- Lane major 0x05, format LA (R80). -/
def decLane05 (m : Bool) (fn : Nat) (f : LA) : Option Instr :=
  match fn with
  | 0 => some (.vsel m f)
  | 1 => some (.vmov m f)
  | 2 => some (.vbcast m f)
  | 3 => some (.viota m f)
  | _ => none

/-- Lane major 0x06, format LA (R80). -/
def decLane06 (m : Bool) (fn : Nat) (f : LA) : Option Instr :=
  match fn with
  | 0 => some (.vcvtI2f m f)
  | 1 => some (.vcvtN2f m f)
  | 2 => some (.vcvtF2i m f)
  | 3 => some (.vcvtF2n m f)
  | 4 => some (.vcvtF2ir m f)
  | 5 => some (.vcvtF2nr m f)
  | 6 => some (.vcvtF2b m f)
  | 7 => some (.vcvtB2f m f)
  | 8 => some (.vcvtF2h m f)
  | 9 => some (.vcvtH2f m f)
  | _ => none

/-- Lane major 0x07, format LA (R80). -/
def decLane07 (m : Bool) (fn : Nat) (f : LA) : Option Instr :=
  match fn with
  | 0 => some (.vshfl m f)
  | 1 => some (.vrot m f)
  | _ => none

/-- Lane major 0x08, format LA (R80). -/
def decLane08 (m : Bool) (fn : Nat) (f : LA) : Option Instr :=
  match fn with
  | 0 => some (.vredAdd m f)
  | 1 => some (.vredMin m f)
  | 2 => some (.vredMax m f)
  | 3 => some (.vredAnd m f)
  | 4 => some (.vredOr m f)
  | 5 => some (.vredXor m f)
  | 8 => some (.vscanAdd m f)
  | 9 => some (.vscanMin m f)
  | 10 => some (.vscanMax m f)
  | 11 => some (.vscanAnd m f)
  | 12 => some (.vscanOr m f)
  | 13 => some (.vscanXor m f)
  | _ => none

/-- Lane major 0x09, format LA (R80). -/
def decLane09 (m : Bool) (fn : Nat) (f : LA) : Option Instr :=
  match fn with
  | 0 => some (.vcoal m f)
  | 1 => some (.vruns m f)
  | _ => none

/-- Lane major 0x10, format LM (R80). -/
def decLane10 (m : Bool) (fn : Nat) (f : LM) : Option Instr :=
  match fn with
  | 0 => some (.vld m f)
  | 1 => some (.vldW m f)
  | 2 => some (.vst m f)
  | _ => none

/-- Lane major 0x11, format LM (R80). -/
def decLane11 (m : Bool) (fn : Nat) (f : LM) : Option Instr :=
  match fn with
  | 0 => some (.sld m f)
  | 1 => some (.sst m f)
  | _ => none

/-- Lane major 0x12, format LM (R80). -/
def decLane12 (m : Bool) (fn : Nat) (f : LM) : Option Instr :=
  match fn with
  | 0 => some (.sldp m f)
  | 1 => some (.vldp m f)
  | _ => none

/-- Lane major 0x13, format LM (R80). -/
def decLane13 (m : Bool) (fn : Nat) (f : LM) : Option Instr :=
  match fn with
  | 0 => some (.vatomAdd m f)
  | 1 => some (.vatomAnd m f)
  | 2 => some (.vatomOr m f)
  | 3 => some (.vatomXor m f)
  | 4 => some (.vatomMin m f)
  | 5 => some (.vatomMax m f)
  | 6 => some (.vatomSwap m f)
  | 7 => some (.vatomCas m f)
  | 8 => some (.satomAdd m f)
  | 9 => some (.satomAnd m f)
  | 10 => some (.satomOr m f)
  | 11 => some (.satomXor m f)
  | 12 => some (.satomMin m f)
  | 13 => some (.satomMax m f)
  | 14 => some (.satomSwap m f)
  | 15 => some (.satomCas m f)
  | 16 => some (.claim m f)
  | _ => none

/-- Lane major 0x18, format LX (R80). -/
def decLane18 (m : Bool) (fn : Nat) (f : LX) : Option Instr :=
  match fn with
  | 0 => some (.xcvt m f)
  | 1 => some (.xqnt m f)
  | 2 => some (.xdqnt m f)
  | 3 => some (.xhad m f)
  | 4 => some (.xdec m f)
  | 5 => some (.xtbl m f)
  | _ => none

/-- Lane major 0x20, format LT (R80). -/
def decLane20 (m : Bool) (fn : Nat) (f : LT) : Option Instr :=
  match fn with
  | 0 => some (.tld m f)
  | 1 => some (.tldW m f)
  | 2 => some (.tldg m f)
  | 3 => some (.tst m f)
  | 4 => some (.tzero m f)
  | 5 => some (.tmma m f)
  | 6 => some (.tgrp m f)
  | 7 => if f.off == 1 then some (.twaitAll m f) else some (.twait m f)
  | _ => none

/-- Lane major 0x28, format LQ (R80). -/
def decLane28 (m : Bool) (fn : Nat) (f : LQ) : Option Instr :=
  match fn with
  | 0 => some (.qres m f)
  | 1 => some (.qldc m f)
  | 2 => some (.qldcH m f)
  | 3 => some (.qstc m f)
  | 4 => some (.qstcH m f)
  | 5 => some (.qldh m f)
  | 6 => some (.qnew m f)
  | 7 => some (.qdel m f)
  | 8 => some (.qadd m f)
  | 9 => some (.qrem m f)
  | 10 => some (.qgen m f)
  | _ => none

/-- A 96-bit instruction (R70, R80): the row of the lane opcode map that reads it. -/
def decLaneRaw (w0 w1 w2 : Word) : Option Instr :=
  let m := marker w0
  let fn := (fld w0 31 26).toNat
  match (fld w0 9 3).toNat with
  | 0x01 => (decLA w0 w1 w2).bind (decLane01 m fn)
  | 0x02 => (decLA w0 w1 w2).bind (decLane02 m fn)
  | 0x03 => (decLA w0 w1 w2).bind (decLane03 m fn)
  | 0x04 => (decLA w0 w1 w2).bind (decLane04 m fn)
  | 0x05 => (decLA w0 w1 w2).bind (decLane05 m fn)
  | 0x06 => (decLA w0 w1 w2).bind (decLane06 m fn)
  | 0x07 => (decLA w0 w1 w2).bind (decLane07 m fn)
  | 0x08 => (decLA w0 w1 w2).bind (decLane08 m fn)
  | 0x09 => (decLA w0 w1 w2).bind (decLane09 m fn)
  | 0x10 => (decLM w0 w1 w2).bind (decLane10 m fn)
  | 0x11 => (decLM w0 w1 w2).bind (decLane11 m fn)
  | 0x12 => (decLM w0 w1 w2).bind (decLane12 m fn)
  | 0x13 => (decLM w0 w1 w2).bind (decLane13 m fn)
  | 0x18 => (decLX w0 w1 w2).bind (decLane18 m fn)
  | 0x20 => (decLT w0 w1 w2).bind (decLane20 m fn)
  | 0x28 => (decLQ w0 w1 w2).bind (decLane28 m fn)
  | _ => none

/-- Decoding of the words at a PC (R65, R81): the instruction, or none for an undefined encoding. A 32-bit
instruction reads word 0 alone. -/
def decodeWords (w0 w1 w2 : Word) : Option Instr :=
  (if isLong w0 then decLaneRaw w0 w1 w2 else decScalarRaw w0).filter Instr.wf

/-- R65: the length in bytes, from bits [1:0] of word 0 alone. -/
def lengthOf (w0 : Word) : Nat := if isLong w0 then 12 else 4

/-- A little-endian word from four bytes (R3); bytes that are not there read as zero. -/
def wordOfBytes (bs : List Byte) : Word :=
  bs.getD 3 0 ++ bs.getD 2 0 ++ bs.getD 1 0 ++ bs.getD 0 0

/-- Decoding of the bytes at a PC: the instruction and the bytes after it, or none for an undefined encoding. -/
def decode (bs : List Byte) : Option (Instr × List Byte) :=
  let w0 := wordOfBytes bs
  (decodeWords w0 (wordOfBytes (bs.drop 4)) (wordOfBytes (bs.drop 8))).map fun i => (i, bs.drop (lengthOf w0))

/-- Bytes of a word, low address first (R3). -/
def bytesOfWord (w : Word) : List Byte :=
  [w.extractLsb' 0 8, w.extractLsb' 8 8, w.extractLsb' 16 8, w.extractLsb' 24 8]

/-- The instruction the decoder reads from bits `w` numbered as spec/opcode_table.json numbers them: bit 0 is the least
significant bit of word 0, and the bits of words 1 and 2 count on from it. -/
def decodeTableWord (_nbits w : Nat) : Option Instr :=
  (decode (bytesOfWord (BitVec.ofNat 32 w) ++ bytesOfWord (BitVec.ofNat 32 (w >>> 32))
    ++ bytesOfWord (BitVec.ofNat 32 (w >>> 64)))).map Prod.fst

/-! ## The encoder -/

/-- R68: a word of format SR. -/
def encSR (op : Nat) (fn : Nat) (m : Bool) (sd sa sb : BitVec 6) : Word :=
  BitVec.ofNat 5 fn ++ sb ++ sa ++ sd ++ BitVec.ofNat 6 op ++ BitVec.ofBool m ++ 0#2

/-- R68: a word of format SI. -/
def encSI (op : Nat) (m : Bool) (sd sa : BitVec 6) (imm : BitVec 11) : Word :=
  imm ++ sa ++ sd ++ BitVec.ofNat 6 op ++ BitVec.ofBool m ++ 0#2

/-- R68: a word of format SL. -/
def encSL (op : Nat) (fn : Nat) (m : Bool) (sd : BitVec 6) (imm : BitVec 16) : Word :=
  imm ++ BitVec.ofNat 1 fn ++ sd ++ BitVec.ofNat 6 op ++ BitVec.ofBool m ++ 0#2

/-- R68: a word of format SJ. -/
def encSJ (op : Nat) (m : Bool) (sa : BitVec 6) (off : BitVec 17) : Word :=
  off ++ sa ++ BitVec.ofNat 6 op ++ BitVec.ofBool m ++ 0#2

/-- R76. -/
def encOrd : Ord → BitVec 2
  | .none => 0 | .acq => 1 | .rel => 2 | .acqrel => 3

/-- R76. -/
def encScp : Scp → BitVec 3
  | .none => 0 | .wave => 1 | .core => 2 | .clus => 3 | .dev => 4 | .dom => 5 | .sys => 6

/-- R76. -/
def encSpc : Spc → BitVec 3
  | .x => 0 | .g => 1 | .p => 2 | .s => 3 | .c => 4

/-- R68: a word of format SQ. -/
def encSQ (op fn : Nat) (m : Bool) (sa sb : BitVec 6) (o : Ord) (c : Scp) : Word :=
  encScp c ++ encOrd o ++ BitVec.ofNat 6 fn ++ sb ++ sa ++ BitVec.ofNat 6 op ++ BitVec.ofBool m ++ 0#2

/-- R68: a word of format SC. -/
def encSC (fn : Nat) (m : Bool) (csr : BitVec 12) (r : BitVec 6) : Word :=
  csr ++ 0#4 ++ BitVec.ofNat 1 fn ++ r ++ 0x3A#6 ++ BitVec.ofBool m ++ 0#2

/-- An address register in a 6-bit field (R69). -/
def encA (a : AReg) : BitVec 6 := 0#2 ++ a

/-- R71. -/
def encSel : Sel → BitVec 8
  | .v r => 0#2 ++ r
  | .t r => 0x08#5 ++ r
  | .s r => 2#2 ++ r
  | .imm => 0xC0

/-- R73. -/
def encTy : LTy → BitVec 3
  | .f32 => 0 | .bf16x2 => 1 | .f16x2 => 2 | .i32 => 3 | .n32 => 4 | .i64 => 5 | .n64 => 6

/-- R73. -/
def encRm : Rm → BitVec 3
  | .rne => 0 | .rz => 1 | .rdn => 2 | .rup => 3

/-- Word 0 of a 96-bit instruction from its 16 bits [25:10] (R70). -/
def encW0 (op fn : Nat) (m : Bool) (mid : BitVec 16) : Word :=
  BitVec.ofNat 6 fn ++ mid ++ BitVec.ofNat 7 op ++ BitVec.ofBool m ++ 3#2

/-- R74. -/
def encLA (op fn : Nat) (m : Bool) (f : LA) : List Word :=
  [encW0 op fn m (encSel f.dst ++ f.mb ++ 0#2),
   encSel f.sc ++ encSel f.sb ++ encSel f.sa ++ encTy f.ty ++ encRm f.rm ++ BitVec.ofBool f.sat ++ 0#1,
   f.imm]

/-- R74, R153. -/
def encLX (op fn : Nat) (m : Bool) (f : LX) : List Word :=
  [encW0 op fn m (encSel f.dst ++ 0#8),
   encSel f.sc ++ encSel f.sb ++ encSel f.sa ++ 0#3 ++ encRm f.rm ++ BitVec.ofBool f.sat ++ 0#1,
   f.param]

/-- R75: AM, OX and word 2. -/
def encAm : Am → BitVec 2 × BitVec 6 × Word
  | .off o => (0, 0, o)
  | .s r => (1, r, 0)
  | .v r => (2, r, 0)

/-- R75. -/
def encLM (op fn : Nat) (m : Bool) (f : LM) : List Word :=
  let am := encAm f.am
  [encW0 op fn m (encSel f.dv ++ encSel f.sv),
   f.areg ++ am.2.1 ++ am.1 ++ encSpc f.spc ++ encOrd f.ord ++ encScp f.scp ++ f.cv ++ encTy f.ty ++ 0#3,
   am.2.2]

/-- R77. -/
def encLT (op fn : Nat) (m : Bool) (f : LT) : List Word :=
  [encW0 op fn m (f.td ++ f.ta),
   f.tb ++ encSel f.sx ++ f.areg ++ BitVec.ofBool f.ox.isSome ++ f.ox.getD 0 ++ encOrd f.ord ++ encScp f.scp,
   f.off]

/-- R78. -/
def encLQ (op fn : Nat) (m : Bool) (f : LQ) : List Word :=
  [encW0 op fn m (encSel f.dst ++ f.mb ++ f.ew),
   encSel f.sc ++ encSel f.sb ++ encSel f.sa ++ f.ct,
   f.imm]

/-- The words of an instruction (R68, R70, R79, R80); an event of the device has none. -/
def encode : Instr → List Word
  | .sadd m d a b => [encSR 0x01 0 m d a b]
  | .ssub m d a b => [encSR 0x01 1 m d a b]
  | .smul m d a b => [encSR 0x01 2 m d a b]
  | .smulh m d a b => [encSR 0x01 3 m d a b]
  | .smulhn m d a b => [encSR 0x01 4 m d a b]
  | .sdiv m d a b => [encSR 0x01 5 m d a b]
  | .sdivn m d a b => [encSR 0x01 6 m d a b]
  | .srem m d a b => [encSR 0x01 7 m d a b]
  | .sremn m d a b => [encSR 0x01 8 m d a b]
  | .sand m d a b => [encSR 0x01 9 m d a b]
  | .sor m d a b => [encSR 0x01 10 m d a b]
  | .sxor m d a b => [encSR 0x01 11 m d a b]
  | .sshl m d a b => [encSR 0x01 12 m d a b]
  | .sshr m d a b => [encSR 0x01 13 m d a b]
  | .ssra m d a b => [encSR 0x01 14 m d a b]
  | .smin m d a b => [encSR 0x01 15 m d a b]
  | .smax m d a b => [encSR 0x01 16 m d a b]
  | .sminn m d a b => [encSR 0x01 17 m d a b]
  | .smaxn m d a b => [encSR 0x01 18 m d a b]
  | .sclz m d a => [encSR 0x01 19 m d a 0]
  | .scnt m d a => [encSR 0x01 20 m d a 0]
  | .smov m d a => [encSR 0x01 21 m d a 0]
  | .ssel m d a b => [encSR 0x01 22 m d a b]
  | .saddImm m d a imm => [encSI 0x08 m d a imm]
  | .smulImm m d a imm => [encSI 0x09 m d a imm]
  | .sandImm m d a imm => [encSI 0x0A m d a imm]
  | .sorImm m d a imm => [encSI 0x0B m d a imm]
  | .sxorImm m d a imm => [encSI 0x0C m d a imm]
  | .sshlImm m d a cnt => [encSI 0x0D m d a (0#6 ++ cnt)]
  | .sshrImm m d a cnt => [encSI 0x0E m d a (0#6 ++ cnt)]
  | .ssraImm m d a cnt => [encSI 0x0F m d a (0#6 ++ cnt)]
  | .sbfx m d a pos len1 => [encSI 0x10 m d a (0#1 ++ len1 ++ pos)]
  | .sbfi m d a pos len1 => [encSI 0x11 m d a (0#1 ++ len1 ++ pos)]
  | .sli m d imm => [encSL 0x14 0 m d imm]
  | .slih m d imm => [encSL 0x14 1 m d imm]
  | .ssetEq m d a b => [encSR 0x02 0 m d a b]
  | .ssetNe m d a b => [encSR 0x02 1 m d a b]
  | .ssetLt m d a b => [encSR 0x02 2 m d a b]
  | .ssetLe m d a b => [encSR 0x02 3 m d a b]
  | .ssetLtn m d a b => [encSR 0x02 4 m d a b]
  | .ssetLen m d a b => [encSR 0x02 5 m d a b]
  | .sfadd m d a b => [encSR 0x03 0 m d a b]
  | .sfsub m d a b => [encSR 0x03 1 m d a b]
  | .sfmul m d a b => [encSR 0x03 2 m d a b]
  | .sffma m d a b => [encSR 0x03 3 m d a b]
  | .scvtI2f m d a => [encSR 0x04 0 m d a 0]
  | .scvtN2f m d a => [encSR 0x04 1 m d a 0]
  | .scvtF2i m d a => [encSR 0x04 2 m d a 0]
  | .scvtF2n m d a => [encSR 0x04 3 m d a 0]
  | .scvtF2ir m d a => [encSR 0x04 4 m d a 0]
  | .scvtF2nr m d a => [encSR 0x04 5 m d a 0]
  | .scvtF2b m d a => [encSR 0x04 6 m d a 0]
  | .scvtB2f m d a => [encSR 0x04 7 m d a 0]
  | .scvtF2h m d a => [encSR 0x04 8 m d a 0]
  | .scvtH2f m d a => [encSR 0x04 9 m d a 0]
  | .aadd m d a b => [encSR 0x18 0 m (encA d) (encA a) b]
  | .asub m d a b => [encSR 0x18 1 m (encA d) (encA a) (encA b)]
  | .amov m d a => [encSR 0x18 2 m (encA d) (encA a) 0]
  | .afrom m d a b => [encSR 0x18 3 m (encA d) a b]
  | .ato m d a hi => [encSR 0x18 4 m d (encA a) (BitVec.ofNat 6 (if hi then 1 else 0))]
  | .alea1 m d a b => [encSR 0x18 8 m (encA d) (encA a) b]
  | .alea2 m d a b => [encSR 0x18 9 m (encA d) (encA a) b]
  | .alea4 m d a b => [encSR 0x18 10 m (encA d) (encA a) b]
  | .alea8 m d a b => [encSR 0x18 11 m (encA d) (encA a) b]
  | .alea16 m d a b => [encSR 0x18 12 m (encA d) (encA a) b]
  | .aaddImm m d a imm => [encSI 0x19 m (encA d) (encA a) imm]
  | .ali m d imm => [encSL 0x1A 0 m (encA d) imm]
  | .aspc m d a => [encSR 0x1C 0 m d (encA a) 0]
  | .acastG m d a => [encSR 0x1C 1 m (encA d) (encA a) 0]
  | .acastP m d a => [encSR 0x1C 2 m (encA d) (encA a) 0]
  | .acastS m d a => [encSR 0x1C 3 m (encA d) (encA a) 0]
  | .acastC m d a => [encSR 0x1C 4 m (encA d) (encA a) 0]
  | .agenP m d a => [encSR 0x1C 5 m (encA d) (encA a) 0]
  | .agenS m d a => [encSR 0x1C 6 m (encA d) (encA a) 0]
  | .agenC m d a => [encSR 0x1C 7 m (encA d) (encA a) 0]
  | .mand m d a b => [encSR 0x1E 0 m d a b]
  | .mor m d a b => [encSR 0x1E 1 m d a b]
  | .mxor m d a b => [encSR 0x1E 2 m d a b]
  | .mandn m d a b => [encSR 0x1E 3 m d a b]
  | .mnot m d a => [encSR 0x1E 4 m d a 0]
  | .mcnt m d a => [encSR 0x1E 5 m d a 0]
  | .mfirst m d a => [encSR 0x1E 6 m d a 0]
  | .mset m d a => [encSR 0x1E 7 m d a 0]
  | .mget m d a b => [encSR 0x1E 8 m d a b]
  | .br m off => [encSJ 0x20 m 0 off]
  | .brz m a off => [encSJ 0x21 m a off]
  | .brv m a off => [encSJ 0x22 m a off]
  | .call m off => [encSJ 0x23 m 0 off]
  | .jmp m a => [encSR 0x24 0 m 0 (encA a) 0]
  | .jmpv m a => [encSR 0x24 1 m 0 a 0]
  | .callv m a => [encSR 0x24 2 m 0 a 0]
  | .ret m => [encSR 0x24 3 m 0 0 0]
  | .join m a => [encSR 0x24 4 m 0 a 0]
  | .land m => [encSR 0x24 5 m 0 0 0]
  | .yield m => [encSR 0x24 6 m 0 0 0]
  | .waitv m d a b => [encSR 0x24 7 m d (encA a) b]
  | .exit m => [encSR 0x24 8 m 0 0 0]
  | .nop m => [encSR 0x24 9 m 0 0 0]
  | .launch m d a => [encSR 0x28 0 m d (encA a) 0]
  | .launchq m d a => [encSR 0x28 1 m d (encA a) 0]
  | .wsync m => [encSR 0x2A 0 m 0 0 0]
  | .wflush m => [encSR 0x2A 1 m 0 0 0]
  | .binit m a b => [encSR 0x2C 0 m 0 a b]
  | .barv m d a b => [encSR 0x2C 1 m d a b]
  | .bexp m d a b => [encSR 0x2C 2 m d a b]
  | .bwait m a b => [encSR 0x2C 3 m 0 a b]
  | .btest m d a b => [encSR 0x2C 4 m d a b]
  | .gbar m => [encSR 0x2C 5 m 0 0 0]
  | .pcopy m a ord scp => [encSQ 0x2E 0 m (encA a) 0 ord scp]
  | .pbatch m d => [encSQ 0x2E 1 m d 0 .none .none]
  | .pwait m a => [encSQ 0x2E 2 m a 0 .none .none]
  | .fence m pred succ scp => [encSQ 0x30 0 m pred succ .none scp]
  | .cinv m a b => [encSQ 0x31 0 m (encA a) b .none .none]
  | .cwb m a b => [encSQ 0x31 1 m (encA a) b .none .none]
  | .pref m a b => [encSQ 0x31 2 m (encA a) b .none .none]
  | .qgrp m a => [encSQ 0x34 0 m a 0 .none .none]
  | .qcommit m => [encSQ 0x34 1 m 0 0 .none .none]
  | .qview m d q => [encSQ 0x34 2 m d (encA q) .none .none]
  | .qdrop m a => [encSQ 0x34 3 m a 0 .none .none]
  | .cairn m a d => [encSQ 0x34 4 m a d .none .none]
  | .lksub m d a b => [encSR 0x36 0 m d (encA a) b]
  | .lkcard m d a b => [encSR 0x36 1 m d (encA a) b]
  | .lkstat m d a b => [encSR 0x36 2 m d a b]
  | .trap m d a b => [encSR 0x38 0 m d (encA a) b]
  | .svret m => [encSR 0x38 1 m 0 0 0]
  | .rplay m d a b => [encSR 0x38 2 m d (encA a) b]
  | .mapft m d a => [encSR 0x38 3 m d (encA a) 0]
  | .mapcw m d a => [encSR 0x38 4 m d (encA a) 0]
  | .tlbinv m a b => [encSR 0x38 5 m 0 (encA a) b]
  | .csrr m csr r => [encSC 0 m csr r]
  | .csrw m csr r => [encSC 1 m csr r]
  | .vadd m f => encLA 0x01 0 m f
  | .vsub m f => encLA 0x01 1 m f
  | .vmul m f => encLA 0x01 2 m f
  | .vfma m f => encLA 0x01 3 m f
  | .vmin m f => encLA 0x01 4 m f
  | .vmax m f => encLA 0x01 5 m f
  | .vabs m f => encLA 0x01 6 m f
  | .vneg m f => encLA 0x01 7 m f
  | .vrcp m f => encLA 0x02 0 m f
  | .vrsq m f => encLA 0x02 1 m f
  | .vsqrt m f => encLA 0x02 2 m f
  | .vexp2 m f => encLA 0x02 3 m f
  | .vlog2 m f => encLA 0x02 4 m f
  | .vsin m f => encLA 0x02 5 m f
  | .vcos m f => encLA 0x02 6 m f
  | .vimul m f => encLA 0x03 0 m f
  | .vimulh m f => encLA 0x03 1 m f
  | .vand m f => encLA 0x03 2 m f
  | .vor m f => encLA 0x03 3 m f
  | .vxor m f => encLA 0x03 4 m f
  | .vshl m f => encLA 0x03 5 m f
  | .vshr m f => encLA 0x03 6 m f
  | .vsra m f => encLA 0x03 7 m f
  | .vcmpEq m f => encLA 0x04 0 m f
  | .vcmpNe m f => encLA 0x04 1 m f
  | .vcmpLt m f => encLA 0x04 2 m f
  | .vcmpLe m f => encLA 0x04 3 m f
  | .vcmpGt m f => encLA 0x04 4 m f
  | .vcmpGe m f => encLA 0x04 5 m f
  | .vcmpUn m f => encLA 0x04 6 m f
  | .vcmpOrd m f => encLA 0x04 7 m f
  | .vsel m f => encLA 0x05 0 m f
  | .vmov m f => encLA 0x05 1 m f
  | .vbcast m f => encLA 0x05 2 m f
  | .viota m f => encLA 0x05 3 m f
  | .vcvtI2f m f => encLA 0x06 0 m f
  | .vcvtN2f m f => encLA 0x06 1 m f
  | .vcvtF2i m f => encLA 0x06 2 m f
  | .vcvtF2n m f => encLA 0x06 3 m f
  | .vcvtF2ir m f => encLA 0x06 4 m f
  | .vcvtF2nr m f => encLA 0x06 5 m f
  | .vcvtF2b m f => encLA 0x06 6 m f
  | .vcvtB2f m f => encLA 0x06 7 m f
  | .vcvtF2h m f => encLA 0x06 8 m f
  | .vcvtH2f m f => encLA 0x06 9 m f
  | .vshfl m f => encLA 0x07 0 m f
  | .vrot m f => encLA 0x07 1 m f
  | .vredAdd m f => encLA 0x08 0 m f
  | .vredMin m f => encLA 0x08 1 m f
  | .vredMax m f => encLA 0x08 2 m f
  | .vredAnd m f => encLA 0x08 3 m f
  | .vredOr m f => encLA 0x08 4 m f
  | .vredXor m f => encLA 0x08 5 m f
  | .vscanAdd m f => encLA 0x08 8 m f
  | .vscanMin m f => encLA 0x08 9 m f
  | .vscanMax m f => encLA 0x08 10 m f
  | .vscanAnd m f => encLA 0x08 11 m f
  | .vscanOr m f => encLA 0x08 12 m f
  | .vscanXor m f => encLA 0x08 13 m f
  | .vcoal m f => encLA 0x09 0 m f
  | .vruns m f => encLA 0x09 1 m f
  | .vld m f => encLM 0x10 0 m f
  | .vldW m f => encLM 0x10 1 m f
  | .vst m f => encLM 0x10 2 m f
  | .sld m f => encLM 0x11 0 m f
  | .sst m f => encLM 0x11 1 m f
  | .sldp m f => encLM 0x12 0 m f
  | .vldp m f => encLM 0x12 1 m f
  | .vatomAdd m f => encLM 0x13 0 m f
  | .vatomAnd m f => encLM 0x13 1 m f
  | .vatomOr m f => encLM 0x13 2 m f
  | .vatomXor m f => encLM 0x13 3 m f
  | .vatomMin m f => encLM 0x13 4 m f
  | .vatomMax m f => encLM 0x13 5 m f
  | .vatomSwap m f => encLM 0x13 6 m f
  | .vatomCas m f => encLM 0x13 7 m f
  | .satomAdd m f => encLM 0x13 8 m f
  | .satomAnd m f => encLM 0x13 9 m f
  | .satomOr m f => encLM 0x13 10 m f
  | .satomXor m f => encLM 0x13 11 m f
  | .satomMin m f => encLM 0x13 12 m f
  | .satomMax m f => encLM 0x13 13 m f
  | .satomSwap m f => encLM 0x13 14 m f
  | .satomCas m f => encLM 0x13 15 m f
  | .claim m f => encLM 0x13 16 m f
  | .xcvt m f => encLX 0x18 0 m f
  | .xqnt m f => encLX 0x18 1 m f
  | .xdqnt m f => encLX 0x18 2 m f
  | .xhad m f => encLX 0x18 3 m f
  | .xdec m f => encLX 0x18 4 m f
  | .xtbl m f => encLX 0x18 5 m f
  | .tld m f => encLT 0x20 0 m f
  | .tldW m f => encLT 0x20 1 m f
  | .tldg m f => encLT 0x20 2 m f
  | .tst m f => encLT 0x20 3 m f
  | .tzero m f => encLT 0x20 4 m f
  | .tmma m f => encLT 0x20 5 m f
  | .tgrp m f => encLT 0x20 6 m f
  | .twait m f => encLT 0x20 7 m f
  | .twaitAll m f => encLT 0x20 7 m f
  | .qres m f => encLQ 0x28 0 m f
  | .qldc m f => encLQ 0x28 1 m f
  | .qldcH m f => encLQ 0x28 2 m f
  | .qstc m f => encLQ 0x28 3 m f
  | .qstcH m f => encLQ 0x28 4 m f
  | .qldh m f => encLQ 0x28 5 m f
  | .qnew m f => encLQ 0x28 6 m f
  | .qdel m f => encLQ 0x28 7 m f
  | .qadd m f => encLQ 0x28 8 m f
  | .qrem m f => encLQ 0x28 9 m f
  | .qgen m f => encLQ 0x28 10 m f
  | .legCommit _ _ => []
  | .faultDelivery _ _ => []
  | .issueAgePriority _ _ => []
  | .slotRotation _ _ => []
  | .hamperSpill _ => []
  | .sieveServe _ => []
  | .basaltCommandStart _ => []
  | .basaltCommandFinish _ => []
  | .porterChunk _ => []
  | .waitvRecheck _ _ => []
  | .waveBind _ _ => []
  | .wavePreempt _ _ => []
  | .waveRebind _ _ _ => []
  | .cairnApply _ => []
  | .tlbWalk _ => []
  | .hostAtomicFailure _ _ _ _ => []
  | .completionTimeout _ _ _ _ => []
  | .lateCompletion _ => []
  | .postedWriteError _ _ => []
  | .cxlResponseTimeout _ _ => []
  | .domainResponseTimeout _ _ _ _ => []
  | .faultQueueFlush _ => []
  | .rootLaunch _ _ => []
  | .semaphoreAcquire _ => []
  | .semaphoreRelease _ => []
  | .partSet _ => []
  | .partRelease _ => []
  | .map _ => []
  | .unmap _ => []
  | .protect _ => []
  | .worldCreate _ => []
  | .worldDestroy _ => []
  | .headConfig _ => []
  | .identity _ => []
  | .attest _ => []
  | .lifecycle _ => []
  | .fwUpdate _ => []
  | .suspend _ => []
  | .resume _ => []
  | .workRequest _ => []
  | .portReplay _ _ => []
  | .apertureAccess _ _ => []
  | .inboundAtomicop _ _ => []
  | .portHotReset _ => []
  | .portLinkLoss _ => []
  | .fundamentalReset _ _ => []
  | .startTimeout => []
  | .powerThrottle _ _ => []
  | .thermalThrottle _ => []
  | .thermalStop _ => []
  | .refreshLatch _ => []
  | .bandStart _ => []
  | .bandProjection _ _ => []
  | .tier0Deadline _ => []
  | .tier1Cutoff _ => []
  | .bandDone _ => []
  | .lineScanout _ => []
  | .registerWrite _ _ _ => []
  | .domainInboundAccess _ _ => []
  | .jexkinLinkLoss _ => []
  | .cxlLinkLoss _ => []
  | .powerRailFault => []
  | .unknownOp _ => []
  | .bandLayerEnd _ _ => []
  | .lookoutAccessFault _ _ _ => []

/-- The bytes of an instruction, low address first (R3, R65). -/
def encodeBytes (i : Instr) : List Byte := (encode i).flatMap bytesOfWord

end Sys2Proof
end

