-- ==== Sys2Proof/Machine/Fetch.lean ====
section
/-! DEFINITION. Fetching an instruction (spec/04_encoding.md R67, R81, R82; spec/16_divergence.md R322). -/

namespace Sys2Proof.Machine

/-- Has a drop covered the line of an address for a core and an ASID? -/
def CacheDrop.covers (d : CacheDrop) (core : BitVec 10) (asid : BitVec 16) (a : DWord) : Bool :=
  (d.core == none || d.core == some core) && d.asid == asid && d.len != 0
    && decide (d.lo.toNat / 128 * 128 ≤ a.toNat) && decide (a.toNat / 128 * 128 < d.lo.toNat + d.len)

/-- R67: the values of a word that a fetch may still return beside the one in memory. -/
def State.oldWords (s : State) (core : BitVec 10) (asid : BitVec 16) (a : DWord) (key : Nat) : List Word :=
  (s.olds.filter fun o => o.key == key && !o.drops.any fun d => d.covers core asid a).map (·.word)

/-- R67: the instruction word at an address of an ASID as a core fetches it, or the fault of its fetch with the lines it
poisons. Of a word that was changed since the core's lines of it were dropped, any of its values. -/
def State.fetchWord (s : State) (core : BitVec 10) (asid : BitVec 16) (a : DWord) : Except (BitVec 16 × List Nat) Word :=
  match s.translate asid a 4 .fetch with
  | .error c => .error (c, [])
  | .ok p => match s.readFault [p] with
    | some e => .error e
    | none =>
      let new := wordOfBytes (readPieces s.mem [p])
      match s.oldWords core asid a (p.key / 4) with
      | [] => .ok new
      | o :: r => .ok (((o :: r)[Config.fetchAge s.tick a]?).getD new)

/-- R67: word `k` of the leg's next instruction; FADDR of a fault is the word's address. -/
def Ctx.fetchWord (c : Ctx) (k : Nat) : Except Trap Word :=
  let a := c.pc + BitVec.ofNat 64 (4 * k)
  match c.s.fetchWord c.w.core c.w.asid a with
  | .ok w => .ok w
  | .error e => .error { code := e.1, addr := a, mask := c.leg.e0, poison := e.2 }

/-- R334: is the word a LAND, with or without the marker? -/
def isLand (w : Word) : Bool := decodeWords w 0 0 == some (.land false) || decodeWords w 0 0 == some (.land true)

/-- R322: the checks of a computed target, on the first fetch of the leg that begins there. -/
def Ctx.targetFault (c : Ctx) : Option Trap :=
  if c.leg.count = 0 && c.path.jumped == some c.leg.start then
    let bad : Trap := { code := 0x0202, addr := c.leg.start, mask := c.leg.e0 }
    if c.leg.start.extractLsb' 0 2 != 0 || c.leg.start.extractLsb' 52 12 != 0 then some bad
    else match c.fetchWord 0 with
      | .error t => some t
      | .ok w => if isLand w then none else some bad
  else none

/-- R65, R67, R81, R82: the leg's next instruction: its words are fetched in order, then decoded. -/
def Ctx.fetch (c : Ctx) : Except Trap Instr := do
  match c.targetFault with
  | some t => .error t
  | none =>
    let w0 ← c.fetchWord 0
    let w1 ← if isLong w0 then c.fetchWord 1 else .ok 0
    let w2 ← if isLong w0 then c.fetchWord 2 else .ok 0
    match decodeWords w0 w1 w2 with
    | some i => .ok i
    | none => .error { code := 0x0101, addr := c.pc, mask := c.leg.e0 }

end Sys2Proof.Machine
end

