-- ==== Sys2Proof/Machine/Moves.lean ====
section
/-! DEFINITION. What one step runs (log entry 4): a move of the agenda, or, with an empty agenda, one of the moves that
the device can make, in turn; and the state that holds one instruction to be fetched. -/

namespace Sys2Proof.Machine

/-! ## Running a move -/

/-- R309: is the slot the one that its quadrant picks? -/
def State.picks (s : State) (id : Nat) (k : SlotId) : Bool :=
  match s.wave? id with
  | none => false
  | some w => match s.pickSlot w.core w.quad with
    | some y => y.1.id == id && y.2 == k
    | none => false

/-- R36, R67: the next instruction of the current slot is fetched, decoded and executed. -/
def State.attempt (s : State) : Host.Outcome State Fault Refusal :=
  match s.begin with
  | .stop => .next s
  | .hold s' => .next s'
  | .leg c => match c.fetch with
    | .error t => .next (c.fail t)
    | .ok i => exec i s

/-- Has a slot found that its next instruction cannot issue yet (R309)? -/
def State.foundWait (s : State) (id : Nat) (k : SlotId) : Bool :=
  match s.wave? id with
  | some w => (w.slot k).wait.isSome
  | none => false

/-- R309: only a slot whose next instruction can issue is ready. Where a fence, a barrier or the wave's run slots hold the
instruction of the slot that a quadrant would pick, the slot waits, and the quadrant picks among the others. -/
def State.settleReady (s : State) (core : BitVec 10) (quad : BitVec 2) : Nat → State
  | 0 => s
  | n + 1 => match s.pickSlot core quad with
    | none => s
    | some y => match { s with cur := some (y.1.id, y.2) }.attempt with
      | .next t => if t.foundWait y.1.id y.2 then t.settleReady core quad n else s
      | _ => s

/-- The state in which a wave's quadrant picks (R309): at most 32 slots find that they wait. -/
def State.settled (s : State) (id : Nat) : State :=
  match s.wave? id with
  | some w => s.settleReady w.core w.quad 32
  | none => s

/-- R309: a quadrant's turn, for the slot that it picks. A slot that the quadrant does not pick has no turn. -/
def State.issueSlot (s : State) (id : Nat) (k : SlotId) : Host.Outcome State Fault Refusal :=
  let s := s.settled id
  if !s.picks id k then .next s else ({ s with cur := some (id, k) }.ageSlots id k).attempt

/-- Moves before which a port's posted writes may still be on their way (R417, R418). -/
def Move.keepsPosted : Move → Bool
  | .event i => match i with
    | .postedWriteError _ _ | .portLinkLoss _ | .portHotReset _ | .fundamentalReset _ _ => true
    | _ => false
  | .postSent _ => true
  | _ => false

/-- R411: an error arises in a register that holds none. -/
def State.damageReg (s : State) (id : Nat) (r : RegName) : State :=
  match s.wave? id with
  | none => s
  | some w =>
    if w.regs.bad.any (·.1 == r) then s
    else s.setWave { w with regs := { w.regs with bad := (r, false) :: w.regs.bad } }

/-- R383 to R387: the request that a port's mailbox holds. -/
def State.serveMail (s : State) (p : PortId) : Host.Outcome State Fault Refusal :=
  match (s.port p).op with
  | 0x01 => execPartSet p s
  | 0x02 => execPartRelease p s
  | 0x10 => execMap p s
  | 0x11 => execUnmap p s
  | 0x12 => execProtect p s
  | 0x20 => execWorldCreate p s
  | 0x21 => execWorldDestroy p s
  | 0x30 => execHeadConfig p s
  | 0x40 => execIdentity p s
  | 0x41 => execAttest p s
  | 0x50 => execLifecycle p s
  | 0x60 => execFwUpdate p s
  | 0x70 => execSuspend p s
  | 0x71 => execResume p s
  | 0x80 => execWorkRequest p s
  | _ => execUnknownOp p s

/-- R309, R108: a slot's next instruction lags, or lags no longer. -/
def State.setLag (s : State) (id : Nat) (k : SlotId) (lag : Bool) : State :=
  match s.wave? id with
  | some w => s.setWave (w.setSlot k { w.slot k with lag := lag })
  | none => s

/-- What the device does by itself: each move is an event of the table. -/
def State.runOwn (s : State) : OwnMove → Host.Outcome State Fault Refusal
  | .mail p => s.serveMail p
  | .commit w k => execLegCommit w k s
  | .sieve c => execSieveServe (BitVec.ofNat 10 c) s
  | .tileStart t => execBasaltCommandStart t s
  | .tileFinish t => execBasaltCommandFinish t s
  | .chunk t => execPorterChunk t s
  | .cairn w => execCairnApply w s
  | .walk i => execTlbWalk i s
  | .rebind w c q => execWaveRebind w (BitVec.ofNat 10 c) q s
  | .preempt l c => execWavePreempt l c s
  | .bind c q => execWaveBind (BitVec.ofNat 10 c) (BitVec.ofNat 2 q) s
  | .arrive w k => .next (s.setLag w k false)
  | .root p => .next (if (s.port p).rlgo && s.mode == 1 then s.rootLaunch p else s)
  | .flush p => execFaultQueueFlush p s
  | .latch h => execRefreshLatch (BitVec.ofNat 4 h) s
  | .band h => execBandStart (BitVec.ofNat 4 h) s
  | .bandDone h => execBandDone (BitVec.ofNat 4 h) s
  | .line h => execLineScanout (BitVec.ofNat 4 h) s

/-- R412: moves whose accesses may need a walk; while a page is busy they wait, and are made later. -/
def Move.walks : Move → Bool
  | .issue _ _ => true
  | .own o => match o with
    | .mail _ | .flush _ | .latch _ | .band _ | .bandDone _ | .line _ | .arrive _ _ => false
    | _ => true
  | .event i => match i with
    | .legCommit _ _ | .faultDelivery _ _ | .slotRotation _ _ | .hamperSpill _ | .waitvRecheck _ _ | .basaltCommandStart _
    | .basaltCommandFinish _ | .porterChunk _ | .cairnApply _ | .waveBind _ _ | .wavePreempt _ _ | .waveRebind _ _ _
    | .tlbWalk _ | .apertureAccess _ _ | .inboundAtomicop _ _ => true
    | _ => false
  | .copying _ => true
  | _ => false

/-- R233: the port whose inbound request a move is. -/
def Move.inboundOf : Move → Option PortId
  | .regRead p _ => some p
  | .event i => match i with
    | .registerWrite p _ _ | .rootLaunch p _ | .semaphoreAcquire p | .semaphoreRelease p | .portReplay p _ | .apertureAccess p _
    | .inboundAtomicop p _ => some p
    | _ => none
  | _ => none

/-- R233, R412: an inbound access waits while a page is busy, and so do the requests that come after it by its port. -/
def State.holdsBack (s : State) (m : Move) : Bool :=
  !s.busy.isEmpty && m.inboundOf.isSome && (m.walks || s.delayed.any fun x => x.inboundOf == m.inboundOf)

/-- R17: a move of the Guide's has no effect while it is another partition's turn. -/
def State.outOfTurn (s : State) (p : Option (BitVec 3)) : Bool := p.any fun q => !s.guideFree q

/-- One move. Only an event of the table runs as an event; an instruction is fetched. -/
def State.runMove (s : State) (m : Move) : Host.Outcome State Fault Refusal :=
  if s.holdsBack m then .next { s with delayed := s.delayed ++ [m] }
  else if !s.busy.isEmpty && m.walks then .next { s with agenda := s.agenda ++ (match m with | .own _ => [] | m => [m]) } else
  let s := if m.keepsPosted then s else s.drain
  match m with
  | .regRead p off => .next (s.readReg p off)
  | .clock i n v => .next (s.setClock i n v)
  | .sense p t => .next (s.sense p t)
  | .lateReads h xs => .next (match s.head? h with | some x => s.setHead { x with late := xs } | none => s)
  | .own o => if s.outOfTurn (s.guideWork o) then .next s else tookTurn (s.guideWork o) (s.runOwn o)
  | .event i =>
    if !i.isEvent || s.outOfTurn (s.guideEvent i) then .next s else tookTurn (s.guideEvent i) (exec i s)
  | .issue id k => s.issueSlot id k
  | .lag id k => .next (s.setLag id k true)
  | .miss asid a => .next (s.missLine asid a)
  | .hostWrite p a b => .next { s with mem := Memory.write s.mem (hostKey p a) b }
  | .lineError key => .next (s.lineError key)
  | .regError id r => .next (s.damageReg id r)
  | .readAbort id k lanes => .next (s.failRead id k (·.host) lanes 0x3002)
  | .engineFail tok addr abort => .next (s.engineFail tok addr abort)
  | .copying tok => .next (match s.porter.find? (·.tok == tok) with
      | some c => if c.susp.isSome || !s.tokensDone c.after then s else s.chunkRead c
      | none => s)
  | .postSent p => .next (s.drainPort p)
  | .linkUp p => .next (s.setPort p { s.port p with linkUp := true })
  | .boot training clean => .next (s.boot training clean)

/-! ## What the device can do by itself -/

/-- The start, the ports' requests for the package, and the posted writes on their way. -/
def State.hubMoves (s : State) : List Move :=
  (if s.booting then [.boot true true] else [])
    ++ ([PortId.p0, PortId.p1].filter fun k => s.mailOpen k && (s.port k).mailPart.isNone).map (fun k => .own (.mail k))
    ++ ([PortId.p0, PortId.p1].filter fun k => !(s.port k).posted.isEmpty).map fun k => .postSent k

/-- Parked legs that may commit (R39); a launch is the Guide's work (R17). -/
def State.legMoves (s : State) : List Move :=
  s.waves.flatMap fun w =>
    if w.state == .suspended then []
    else ([SlotId.s0, SlotId.s1].filter fun k => match (w.slot k).leg with | some l => l.parked && !l.launches | none => false).map
      fun k => .own (.commit w.id k)

/-- The engines (R148, R173, R174, R258, R276, R379). -/
def State.engineMoves (s : State) : List Move :=
  ((s.cores.filter fun c => c.sieveGrant.isNone && (c.sieveBusy || !c.sieveQ.isEmpty)).map
      fun c => .own (.sieve c.num))
    ++ ((s.basalt.filter fun c => c.susp.isNone && !c.done).map fun c =>
      .own (if c.started then .tileFinish c.tok else .tileStart c.tok))
    ++ ((s.porter.filter fun c => c.susp.isNone && s.tokensDone c.after).map fun c => .own (.chunk c.tok))
    ++ ((s.worlds.filter fun w => match w.cairns with
        | c :: _ => c.stopped.isNone && (if c.applying then s.cairnFirst w c else s.cairnReady w c)
        | [] => false).map fun w => .own (.cairn w.id))
    ++ (if s.walks.isEmpty then [] else [.own (.walk 0)])

/-- Lookout (R353 to R360). -/
def State.lookoutMoves (s : State) : List Move :=
  (s.heads.filter (·.enabled)).flatMap fun h =>
    [.own (.latch h.num), .own (.band h.num), .own (.bandDone h.num), .own (.line h.num)]

/-- R309: each quadrant's pick. -/
def State.issueMoves (s : State) : List Move :=
  (((s.waves.filter fun w => w.state != .suspended).map fun w => (w.core, w.quad)).eraseDups).filterMap fun x =>
    (s.pickSlot x.1 x.2).map fun y => .issue y.1.id y.2

/-- R309: what the slots that lag wait for comes. -/
def State.lagMoves (s : State) : List Move :=
  s.waves.flatMap fun w => ([SlotId.s0, SlotId.s1].filter fun k => (w.slot k).lag).map fun k => .own (.arrive w.id k)

/-- Every move the device can make by itself. -/
def State.choices (s : State) : List Move :=
  s.hubMoves ++ s.legMoves ++ s.engineMoves ++ s.guideMoves ++ s.lookoutMoves ++ s.lagMoves ++ s.issueMoves

/-- The next move and the state it is made from: the agenda's first, else the choice whose turn it is; none when the
device has nothing to do. -/
def State.nextMove (s : State) : Option (Move × State) :=
  let s := { s with tick := s.tick + 1 }
  match s.agenda with
  | m :: r => some (m, { s with agenda := r })
  | [] => (s.choices[s.turn % s.choices.length]?).map fun m => (m, { s with turn := s.turn + 1 })

/-! ## One instruction placed where the next step fetches it -/

/-- The page of ASID 0 at 0x10000 that `placeWord` maps. -/
def wordLeaf : Leaf :=
  { asid := 0, size := 0, va := 0x10000, p := true, w := true, x := true, cw := false, hau := false, loc := 0, dev := 0,
    fmt := 0, blk := false, scl := 0, pa := 0x10000 }

/-- A wave of 96 lanes at 0x10000 with every register as a launch leaves it (R22); its slot 0 has been ready for `age` turns. -/
def wordWave (id launch age : Nat) : Wave :=
  { id := id, launch := launch, wid := 0, core := 0, quad := 0, entry := 0, state := .bound, ww := 96, rb := 16384,
    spb := 0x20000, spl := 0x30000, pvb := 0x40000, asid := 0, part := 0, regs := Regs.start 96,
    s0 := { Slot.empty with path := some ⟨0x10000, Mask.below 96, Mask.below 96, 0, none, none⟩, age := age }, s1 := Slot.empty,
    stack := [], brkSeq := 0, hamper := none, rows := none, batch := 0, gbars := 0, gbarAt := false, kept := false,
    started := false, fences := [], refusedFit := false, unread := false }

/-- Of a new wave's slot, the turns that put it before every other (R309). -/
def State.eldest (s : State) : Nat := s.waves.foldl (fun n w => n + w.s0.age + w.s1.age) 256

/-- A started device in which a new wave fetches the three words of `w` (log entry 15). -/
def State.placeWord (s : State) (w : Nat) : State :=
  let b := bytesOfWord (BitVec.ofNat 32 w) ++ bytesOfWord (BitVec.ofNat 32 (w >>> 32))
    ++ bytesOfWord (BitVec.ofNat 32 (w >>> 64))
  let key := physKey 0 0 0x10000
  { s with
    mem := Memory.write s.mem key b, errs := s.errs.filter (· != lineOf key), poison := s.poison.filter (· != lineOf key),
    leaves := wordLeaf :: s.leaves, waves := s.waves ++ [wordWave s.nextId (s.nextId + 1) (s.eldest + 1)], nextId := s.nextId + 2,
    mode := 1, booting := false, agenda := .issue s.nextId .s0 :: s.agenda }

end Sys2Proof.Machine
end

