-- ==== Sys2Proof/Machine/Step.lean ====
section
/-! DEFINITION. One step of the device. -/

namespace Sys2Proof.Machine

/-- One step: the next move, or nothing when the device has nothing to do. -/
def step (s : State) : Host.Outcome State Fault Refusal :=
  match s.nextMove with
  | some (m, s') => s'.runMove m
  | none => .next { s with tick := s.tick + 1 }

/-- The state with an instruction of `nbits` bits `w` where the next step fetches it. -/
def State.withFetchWord (s : State) (_nbits w : Nat) : State := s.placeWord w

end Sys2Proof.Machine
end

