-- ==== Sys2Proof/Safety.lean ====
section
/-! DEFINITION. The terms in which claims speak: when an instruction issues, when it is a leg of its own, what counts as a
safe run and as a sound state. -/

namespace Sys2Proof

/-- R46: a memory instruction. -/
def Instr.memory : Instr → Bool
  | .vld _ _ | .vldW _ _ | .vst _ _ | .sld _ _ | .sst _ _ | .sldp _ _ | .vldp _ _
  | .vatomAdd _ _ | .vatomAnd _ _ | .vatomOr _ _ | .vatomXor _ _ | .vatomMin _ _ | .vatomMax _ _ | .vatomSwap _ _ | .vatomCas _ _
  | .satomAdd _ _ | .satomAnd _ _ | .satomOr _ _ | .satomXor _ _ | .satomMin _ _ | .satomMax _ _ | .satomSwap _ _ | .satomCas _ _
  | .fence _ _ _ _ | .cinv _ _ _ | .cwb _ _ _ | .pref _ _ _ | .claim _ _ | .tld _ _ | .tldW _ _ | .tldg _ _ | .tst _ _
  | .qldc _ _ | .qldcH _ _ | .qstc _ _ | .qstcH _ _ | .qldh _ _ => true
  | _ => false

/-- R36, R46: a closing instruction without the leg-end marker. -/
def Instr.closesUnmarked : Instr → Bool
  | .br m _ | .brz m _ _ | .brv m _ _ | .call m _ | .jmp m _ | .jmpv m _ | .callv m _ | .ret m | .join m _ | .yield m
  | .waitv m _ _ _ | .exit m | .launch m _ _ | .launchq m _ _ | .wsync m | .wflush m | .binit m _ _ | .barv m _ _ _ | .bexp m _ _ _
  | .bwait m _ _ | .btest m _ _ _ | .gbar m | .pcopy m _ _ _ | .pbatch m _ | .pwait m _ | .qgrp m _ | .qcommit m | .qview m _ _
  | .qdrop m _ | .cairn m _ _ | .lksub m _ _ _ | .lkcard m _ _ _ | .lkstat m _ _ _ | .trap m _ _ _ | .svret m | .rplay m _ _ _
  | .mapft m _ _ | .mapcw m _ _ | .tlbinv m _ _ | .csrw m _ _
  | .vatomAdd m _ | .vatomAnd m _ | .vatomOr m _ | .vatomXor m _ | .vatomMin m _ | .vatomMax m _ | .vatomSwap m _ | .vatomCas m _
  | .satomAdd m _ | .satomAnd m _ | .satomOr m _ | .satomXor m _ | .satomMin m _ | .satomMax m _ | .satomSwap m _ | .satomCas m _
  | .claim m _ | .tld m _ | .tldW m _ | .tldg m _ | .tst m _ | .tzero m _ | .tmma m _ | .tgrp m _ | .twait m _ | .twaitAll m _
  | .qnew m _ | .qdel m _ | .qadd m _ | .qrem m _ => !m
  | _ => false

end Sys2Proof

namespace Sys2Proof.Machine

/-- The next move is the turn of a slot that its quadrant picks (R309), and no page is busy (R412). `u` is the state its
instruction finds: the tick and the move are taken (log entry 4), the posted writes that were on their way have arrived, slots
whose next instruction cannot issue yet have found so, the slot is the current one, and the slots of its quadrant have aged. -/
structure Turn (s : State) (id : Nat) (k : SlotId) (u : State) : Prop where
  move : ∃ s1, s.nextMove = some (.issue id k, s1) ∧ s1.busy = [] ∧ (s1.drain.settled id).picks id k = true
    ∧ u = { s1.drain.settled id with cur := some (id, k) }.ageSlots id k

/-- The current slot issues an instruction of shape `x` and marker `m` into the leg of `c`: no fence holds it (R226) and
no leg limit stops it (R36). -/
structure Issues (s : State) (c : Ctx) (x : Shape) (m : Bool) : Prop where
  leg : s.begin = .leg c
  free : c.fenced x.cls = false
  within : c.overLimit x m = false

/-- Nothing of the other slot bears on a leg that commits: no leg of it has come before the leg's loads (R208) or written a
lane register of the leg (R438), and none waits for the answer to what it has sent; and the Hamper has no stack entry to read. -/
structure Unhindered (s : State) (w : Wave) (leg : Leg) : Prop where
  current : s.overtaken w leg = false
  uncrossed : leg.crossed = []
  unsent : ∀ o ∈ w.s0.leg.toList ++ w.s1.leg.toList, o.sent = false
  taken : w.s0.took = none ∧ w.s1.took = none

/-- A write of `n` run slots fits: by R116 the path's working set with what the leg has reserved, and by R117 everything that is
resident with the reservations of both slots. -/
structure Roomy (c : Ctx) (n : Nat) : Prop where
  working : c.w.workingSlots + (c.leg.resv + n) ≤ c.w.rb
  resident : c.w.residentSlots + (c.leg.resv + n + (c.w.slot c.k.other).resv) ≤ c.w.rb

/-- The leg of `c` with a reservation more. -/
def Ctx.reserved (c : Ctx) (n : Nat) : Ctx := { c with leg := { c.leg with resv := c.leg.resv + n } }

/-- A closing instruction may close the leg of `c` and commit it at once: the slot holds the path and the leg, whose
limits it meets (R36); the leg waits for nothing, holds no store, no fence and no CINV, no leg of the other slot came before
its loads (R208), and no other path waits on the stack. -/
structure MayClose (s : State) (c : Ctx) : Prop where
  leg : s.begin = .leg c
  listed : c.s.wave? c.w.id = some c.w
  holds : (c.w.slot c.k).path = some c.path
  count : c.leg.count < 24
  memCount : c.leg.memCount < 8
  fences : c.w.fences = []
  legFences : c.leg.fences = []
  out : c.leg.out = []
  stores : c.leg.stores = []
  cinvs : c.leg.cinvs = []
  opened : c.leg.closing = none
  unsent : c.leg.sent = false
  noReply : c.leg.reply = none
  roomy : c.leg.short = false
  free : Unhindered c.s c.w c.leg
  unfailed : c.leg.failed = 0
  stack : c.w.stack = []

/-- The leg of `c` parked at its marker with a closing instruction. -/
def Ctx.markedLeg (c : Ctx) (cl : Closing) (x : Shape) : Leg :=
  { c.leg with closing := some cl, closingAt := c.pc, count := c.leg.count + 1,
               memCount := c.leg.memCount + (if x.mem then 1 else 0), next := c.pc + BitVec.ofNat 64 (4 * x.words),
               cls := c.leg.cls ||| x.cls, parked := true, cwait := none }

/-- The wave and the state with that leg. -/
def Ctx.markedWave (c : Ctx) (cl : Closing) (x : Shape) : Wave :=
  { c.w with state := .running }.setSlot c.k { c.w.slot c.k with leg := some (c.markedLeg cl x), wait := none }

def Ctx.marked (c : Ctx) (cl : Closing) (x : Shape) : State := c.s.setWave (c.markedWave cl x)

/-- The leg of `c` with further scalar results. -/
def Ctx.written (c : Ctx) (new : List (SReg × Word)) : Leg := { c.leg with sw := new ++ c.leg.sw }

/-- The path of `c` after its leg and further scalar results: at `pc`, with E as the leg's writes leave it, within P. -/
def Ctx.pathAt (c : Ctx) (pc : DWord) (new : List (SReg × Word)) : Path :=
  { c.path with pc := pc, e := ((new ++ c.leg.sw).foldr (fun y e => putE e y.1 y.2) c.path.e) &&& c.path.p,
                jumped := if c.path.jumped == some c.leg.start then none else c.path.jumped }

/-- The leg of `c` has committed with further scalar results: its wave's registers are those of before with the leg's
writes and these, its stack stays, and its slot holds a path and no leg. -/
def Committed (c : Ctx) (new : List (SReg × Word)) (q : Path) (t : State) : Prop :=
  ∃ w, t.wave? c.w.id = some w ∧ (w.slot c.k).path = some q ∧ (w.slot c.k).leg = none ∧ w.stack = []
    ∧ w.regs = c.w.regs.commit (c.written new) c.w.ww

/-- The waves other than that of `c` stay as they were. -/
def OtherWaves (c : Ctx) (t : State) : Prop := ∀ id, id ≠ c.w.id → t.wave? id = c.s.wave? id

/-- R383, R385: a port has started a request of an OP with a good header; the Guide runs in a device that is not scrapped, and no
MAP of another port is moving pages. -/
structure Asked (s : State) (k : PortId) (op : Nat) : Prop where
  started : (s.port k).mbgo = true
  mode : s.mode = 1
  live : s.lcs ≠ .scrapped
  alone : s.busyBy = none ∨ s.busyBy = some k
  named : (s.port k).op = op
  header : ∃ n, opLength op = some n ∧ headerOk (s.port k).mbrec n = true

/-- The body of the request that a port has started. -/
def State.body (s : State) (k : PortId) : List Byte := (s.port k).mbrec.drop 64

/-- R383: a request has succeeded: its response data is posted, then RESULT 0. -/
def State.replied (s : State) (k : PortId) (data : List Byte) : State :=
  let u := if data = [] then s else s.post k ((s.port k).mbaddr + 8192) data
  u.setPort k { u.port k with mbgo := false, mbresult := 0, mbstate := 1 }

/-- An entry of the divergence stack without what the Hamper keeps of it (R316, R317). -/
def StackEntry.plain (e : StackEntry) : StackEntry := { e with mem := none, held := false }

/-- Everything but the waves stays as it was. -/
def SameButWaves (s t : State) : Prop := t = { s with waves := t.waves }

/-- Every byte of memory reads as it did. -/
def SameMemory (s t : State) : Prop := ∀ k, Memory.get t.mem k = Memory.get s.mem k

/-- Every byte of memory outside a range reads as it did. -/
def SameOutside (s t : State) (key n : Nat) : Prop :=
  ∀ k, k < key ∨ key + n ≤ k → Memory.get t.mem k = Memory.get s.mem k

/-- A state whose memory stands in its canonical form. -/
def State.sound (s : State) : Prop := Memory.wf s.mem = true

/-- A safe run: no number of steps ends in a fault or a refusal. -/
def State.safe (s : State) : Prop := ∀ n, ∃ t, Host.Core.run Sys2Proof.core n s = .next t

end Sys2Proof.Machine
end

