-- ==== Sys2Proof/Certificates/Slice0/Obligations.lean ====
section
/-! DEFINITION. The statements about this model, each a proposition of its own, with the rules of spec/ that it formalises
named in its docstring. -/

open Sys2Proof Sys2Proof.Machine

/-! ## Reset, steps, decoding -/

/-- R194, R304, R381, R406, R408, R416, R417, R421, R424: the values these rules give for reset. No partition, wave,
launch or world stands after a reset (R367, R418). -/
def Obligations.ResetGivesTheStatedValues : Prop :=
  State.reset.mode = 0 ∧ State.reset.bootReason = 0 ∧ State.reset.owner = 0 ∧ State.reset.plimit = 2400000
    ∧ (∀ n, (State.reset.core n).roles = 0xAAAA_5555_5555_0000)
    ∧ (∀ k, (State.reset.port k).rladdr = 0 ∧ (State.reset.port k).rlasid = 0 ∧ (State.reset.port k).rlgo = false
      ∧ (State.reset.port k).rlpart = 0 ∧ (State.reset.port k).rlreason = 0 ∧ (State.reset.port k).rlstate = 0
      ∧ (State.reset.port k).mbaddr = 0 ∧ (State.reset.port k).mbgo = false ∧ (State.reset.port k).mbresult = 0
      ∧ (State.reset.port k).mbstate = 0 ∧ (State.reset.port k).rpkey = 0 ∧ (State.reset.port k).rpstat = 0
      ∧ (State.reset.port k).rpgo = false ∧ (State.reset.port k).cto = 50000 ∧ (State.reset.port k).pwerr = 0
      ∧ (State.reset.port k).pwaddr = 0
      ∧ (∀ i : Fin 8, (State.reset.port k).fq[i] = ⟨0, 0, 0, 0, 0⟩)
      ∧ (∀ i : Fin 16, (State.reset.port k).win[i] = ⟨0, 0, false⟩))
    ∧ (∀ p, State.reset.part? p = none) ∧ State.reset.waves = [] ∧ State.reset.launches = [] ∧ State.reset.worlds = []

/-- R198, R386: no byte of the device's memory holds anything but zero after a reset (what an unwritten byte reads as is
log entry 2), and the memory stands in its canonical form. -/
def Obligations.ResetMemoryIsSound : Prop := State.reset.sound ∧ ∀ k, Memory.get State.reset.mem k = 0

/-- R65, R67: when the next move is a slot's issue and the words at its leg's next address are those of an instruction,
the step is that instruction's meaning, in the state of the slot's turn (Turn). A slot that its quadrant does not pick has no
turn (R309): the step then only finds which slots of the quadrant must wait. While a MAP moves pages the move is made later (R412,
log entry 76). -/
def Obligations.StepRunsTheDecodedInstruction : Prop :=
  (∀ (s u : State) (id : Nat) (k : SlotId) (c : Ctx) (w0 w1 w2 : Word) (i : Instr),
      Turn s id k u → u.begin = .leg c → c.targetFault = none → c.fetchWord 0 = .ok w0 →
      (isLong w0 = true → c.fetchWord 1 = .ok w1 ∧ c.fetchWord 2 = .ok w2) →
      decodeWords w0 w1 w2 = some i → step s = exec i u)
    ∧ (∀ (s s1 : State) (id : Nat) (k : SlotId), s.nextMove = some (.issue id k, s1) →
      (s1.busy = [] → (s1.drain.settled id).picks id k = false → step s = .next (s1.drain.settled id))
        ∧ (s1.busy ≠ [] → step s = .next { s1 with agenda := s1.agenda ++ [.issue id k] }))

/-- R81, R391: words that are no instruction raise 0x0101 as the wave reaches them: the leg is discarded, FADDR is the
address of word 0, and the mask is the execution mask as the leg began. R67, R82: a word that cannot be fetched raises
the fault its fetch received, before any check of the encoding; FADDR is the word's address. R322: the first leg at a
computed target is checked: a target that is no global instruction address, or whose word 0 is no LAND, takes 0x0202
on the new path, with FADDR the target. -/
def Obligations.FetchFaults : Prop :=
  (∀ (s u : State) (id : Nat) (k : SlotId) (c : Ctx) (w0 w1 w2 : Word),
      Turn s id k u → u.begin = .leg c → c.targetFault = none → c.fetchWord 0 = .ok w0 →
      (isLong w0 = true → c.fetchWord 1 = .ok w1 ∧ c.fetchWord 2 = .ok w2) →
      decodeWords w0 w1 w2 = none →
      step s = .next (c.s.takeFault c.w c.k { code := 0x0101, addr := c.pc, mask := c.leg.e0 } c.leg.start))
    ∧ (∀ (s u : State) (id : Nat) (k : SlotId) (c : Ctx) (code : BitVec 16) (w0 : Word),
      Turn s id k u → u.begin = .leg c → c.targetFault = none →
      (c.s.translate c.w.asid c.pc 4 .fetch = .error code →
        step s = .next (c.s.takeFault c.w c.k { code := code, addr := c.pc, mask := c.leg.e0 } c.leg.start))
      ∧ (c.fetchWord 0 = .ok w0 → isLong w0 = true → c.s.translate c.w.asid (c.pc + 4) 4 .fetch = .error code →
        step s = .next (c.s.takeFault c.w c.k { code := code, addr := c.pc + 4, mask := c.leg.e0 } c.leg.start)))
    ∧ (∀ (s u : State) (id : Nat) (k : SlotId) (c : Ctx) (w : Word),
      Turn s id k u → u.begin = .leg c → c.leg.count = 0 → c.path.jumped = some c.leg.start →
      (c.leg.start.extractLsb' 0 2 ≠ 0 ∨ c.leg.start.extractLsb' 52 12 ≠ 0
        ∨ (c.fetchWord 0 = .ok w ∧ ∀ m : Bool, decodeWords w 0 0 ≠ some (.land m))) →
      step s = .next (c.s.takeFault c.w c.k { code := 0x0202, addr := c.leg.start, mask := c.leg.e0 } c.leg.start))

/-- R65, R69, R81: what decodes is a well-formed instruction, no event, and takes 4 bytes, or 12 when bits [1:0] of its
first word are 0b11. -/
def Obligations.DecodedInstructionIsWellFormed : Prop :=
  ∀ (bs rest : List Byte) (i : Instr), decode bs = some (i, rest) →
    i.wf = true ∧ i.isEvent = false
      ∧ rest = bs.drop (if (wordOfBytes bs).extractLsb' 0 2 = 3 then 12 else 4)

/-- R68, R74 to R78: every well-formed instruction, with every operand at every value its encoding admits, decodes from
its own words, whatever follows them. -/
def Obligations.DecodeReadsEveryEncoding : Prop :=
  ∀ (i : Instr) (rest : List Byte), i.wf = true → i.isEvent = false → decode (encodeBytes i ++ rest) = some (i, rest)

/-- Words that the spec writes out (the worked encodings of spec/04_encoding.md, spec/06_runs.md, spec/07_arith_instr.md
and the entries named there) decode to the instructions that they stand for. -/
def Obligations.WrittenEncodingsDecode : Prop :=
  decodeWords 0x4800_0120 0 0 = some (.nop false) ∧ decodeWords 0x4800_0124 0 0 = some (.nop true)
    ∧ decodeWords 0 0 0 = none
    ∧ decodeWords 0x1061_0808 0 0 = some (.smul false 4 2 3)
    ∧ decodeWords 0x0000_02A4 0 0 = some (.sli true 1 0)
    ∧ decodeWords 0x4120_82A4 0 0 = some (.slih true 1 0x4120)
    ∧ decodeWords 0x015E_86F0 0 0 = some (.mand false 3 61 10)
    ∧ decodeWords 0x8000_8584 0 0 = some (.fence true 2 1 .dev)
    ∧ decodeWords 0x2840_81C4 0 0 = some (.tlbinv true 1 2)
    ∧ decodeWords 0x0900_000B 0x00C0_1100 0x3F00_0000
        = some (.vmul false ⟨.t 0, 0, .v 17, .imm, .v 0, .f32, .rne, false, 0x3F00_0000⟩)
    ∧ decodeWords 0x1000_A027 0x00C0_1000 0x4120_0000
        = some (.vcmpGt true ⟨.v 0, 10, .v 16, .imm, .v 0, .f32, .rne, false, 0x4120_0000⟩)

/-! ## The machine as a whole -/

/-- R310, R391: no state stops the device: every step answers a next state. No instruction of the table is refused,
and an instruction stops only when no slot is there to issue it; an event never stops. -/
def Obligations.NothingStopsTheDevice : Prop :=
  (∀ s, ∃ t, step s = .next t)
    ∧ (∀ (i : Instr) (s : State), (∀ r, exec i s ≠ .refused r)
      ∧ (∀ f, exec i s = .fault f → i.isEvent = false ∧ s.begin = .stop))

/-- Memory keeps its canonical form (addresses rising, nothing listed that reads as an unlisted byte does) through every
step. -/
def Obligations.EveryStepKeepsMemorySound : Prop := ∀ s t, s.sound → step s = .next t → t.sound

/-- R36, R46, R82: the leg limits. EVERY instruction that would be the leg's 25th, EVERY memory instruction that would be its 9th
and EVERY closing instruction without the marker raises 0x0104 at its own address, with the leg discarded. -/
def Obligations.LegLimitsFault : Prop :=
  ∀ (s : State) (c : Ctx) (i : Instr), s.begin = .leg c → (∀ x, c.fenced x = false) → i.isEvent = false →
    (24 ≤ c.leg.count ∨ (8 ≤ c.leg.memCount ∧ i.memory = true) ∨ i.closesUnmarked = true) →
    exec i s = .next (c.s.takeFault c.w c.k { code := 0x0104, addr := c.pc, mask := c.leg.e0 } c.leg.start)

/-- R38: before its marker an instruction changes nothing but its leg: without the marker, what follows the instruction's
body is the same state with the leg one instruction longer. R117: where the other slot's reservation, or
a spill that has stopped on a fault, is in the way the instruction waits: slot 0, where no spill has stopped, with its leg as it was
before the instruction; otherwise the slot gives up its leg, which it begins again (the model's choice, log entries 73 and 75). -/
def Obligations.OpenLegChangesOnlyItself : Prop :=
  ∀ (c : Ctx) (x : Shape) (w : Wave), c.s.wave? c.w.id = some w →
    (c.leg.short = true → c.k = .s0 → c.w.hamper = none → ∃ w', (c.advance x false).wave? c.w.id = some w' ∧ w'.regs = c.w.regs
      ∧ w'.s1 = c.w.s1 ∧ w'.s0 = { c.w.s0 with wait := some (.room c.leg.resv) } ∧ SameButWaves c.s (c.advance x false))
    ∧ (c.leg.short = true → c.k = .s1 ∨ c.w.hamper ≠ none → (c.w.slot c.k).frame.waiting = false →
      ∃ w', (c.advance x false).wave? c.w.id = some w' ∧ w'.regs = c.w.regs ∧ w'.stack = c.w.stack
        ∧ w'.slot c.k.other = c.w.slot c.k.other
        ∧ w'.slot c.k = { c.w.slot c.k with leg := none, wait := some (.room c.leg.resv) }
        ∧ (c.advance x false).mem = c.s.mem)
    ∧ (c.leg.short = false → SameButWaves c.s (c.advance x false)
      ∧ (∀ id, id ≠ c.w.id → (c.advance x false).wave? id = c.s.wave? id)
      ∧ ∃ w' leg, (c.advance x false).wave? c.w.id = some w' ∧ w'.regs = c.w.regs ∧ w'.stack = c.w.stack
          ∧ w'.slot c.k.other = c.w.slot c.k.other ∧ (w'.slot c.k).path = (c.w.slot c.k).path
          ∧ (w'.slot c.k).frame = (c.w.slot c.k).frame ∧ (w'.slot c.k).leg = some leg
          ∧ leg.count = c.leg.count + 1 ∧ leg.next = c.pc + BitVec.ofNat 64 (4 * x.words) ∧ leg.sw = c.leg.sw
          ∧ leg.aw = c.leg.aw ∧ leg.vw = c.leg.vw ∧ leg.temps = c.leg.temps ∧ leg.stores = c.leg.stores
          ∧ leg.snap = c.leg.snap ∧ leg.e0 = c.leg.e0 ∧ leg.start = c.leg.start)

/-- R25, R38, R39: THE COMMIT of a leg without a closing instruction. Every scalar and address register takes the last
value the leg wrote to it and keeps its own otherwise; s0 stays as it is; the lane registers that the leg did not
write stay; the path goes on after the leg with E as the leg left it within P; the stores are performed; nothing else
of the state changes. (The other slot's legs have not come before its loads, nor met its lane registers: R208, R438.)
R25: the mask registers: a write of s61, s62 or s63 in a leg changes that 32-bit group of E, within P, when the leg
commits, and no register. -/
def Obligations.LegCommitsItsRegisters : Prop :=
  (∀ (s : State) (id : Nat) (k : SlotId) (w : Wave) (p : Path) (leg : Leg),
      s.parkedLeg id k = some (w, p, leg) → leg.closing = none → w.state ≠ .suspended →
      ((w.slot k).legs + 1 < 4096 ∨ w.stack = []) → Unhindered s w leg →
      ∃ t w' p', exec (.legCommit id k) s = .next t ∧ t.wave? id = some w'
        ∧ (∀ r : SReg, r ≠ 0 → r.toNat < 61 →
            w'.regs.readS 0 r = ((leg.sw.find? (·.1 == r)).map (·.2)).getD (w.regs.readS 0 r))
        ∧ w'.regs.s[0] = w.regs.s[0]
        ∧ (∀ r : AReg, w'.regs.a[r.toNat]'r.isLt = ((leg.aw.find? (·.1 == r)).map (·.2)).getD (w.regs.a[r.toNat]'r.isLt))
        ∧ (leg.vw = [] → w'.regs.low = w.regs.low ∧ w'.regs.imgs = w.regs.imgs ∧ w'.regs.glob = w.regs.glob)
        ∧ w'.regs.fcode = w.regs.fcode ∧ w'.regs.faddr = w.regs.faddr ∧ w'.regs.ftok = w.regs.ftok
        ∧ w'.regs.qabt = w.regs.qabt ∧ w'.regs.nf = w.regs.nf ∧ w'.stack = w.stack
        ∧ (w'.slot k).path = some p' ∧ p'.pc = leg.next ∧ p'.p = p.p ∧ p'.dep = p.dep ∧ p'.brk = p.brk
        ∧ ((∀ x ∈ leg.sw, x.1.toNat < 61) → p'.e = p.e &&& p.p)
        ∧ (w'.slot k).leg = none
        ∧ t.mem = (s.performStores leg.stores).mem
        ∧ (∀ id', id' ≠ id → t.wave? id' = s.wave? id')
        ∧ (leg.stores = [] → leg.cinvs = [] → SameButWaves s t))
    ∧ (∀ (s : State) (id : Nat) (k : SlotId) (w : Wave) (p : Path) (leg : Leg) (g : Fin 3) (v : Word),
      s.parkedLeg id k = some (w, p, leg) → leg.closing = none → w.state ≠ .suspended →
      ((w.slot k).legs + 1 < 4096 ∨ w.stack = []) → Unhindered s w leg → leg.sw = [(BitVec.ofNat 6 (61 + g.val), v)] → leg.aw = [] →
      leg.vw = [] → leg.csat = 0 → leg.cftz = 0 → leg.cnan = 0 → leg.pwb = false →
      ∃ t w' p', exec (.legCommit id k) s = .next t ∧ t.wave? id = some w'
        ∧ w'.regs = { w.regs with bad := w'.regs.bad } ∧ (w'.slot k).path = some p'
        ∧ (∀ l, l < 96 → p'.e.getLsbD l =
            ((if l / 32 = g.val then v.getLsbD (l % 32) else p.e.getLsbD l) && p.p.getLsbD l)))

/-! ## Operands and scalar instructions -/

/-- R23, R25, R38: a source is the register as it was when the leg began, whatever the leg has written since: s0 reads
zero, s61 to s63 read the groups of E, and a mask operand is three scalar registers, the last named the highest. R411:
an instruction that reads a register whose error nobody has found takes 0x2001, and a register whose error was found
takes 0x2002; nothing of the leg commits. (FADDR is a free value, log entry 6.) -/
def Obligations.OperandsReadTheLegsStart : Prop :=
  (∀ (c : Ctx), (∀ x ∈ c.w.regs.bad, (∀ r, x.1 ≠ .s r) ∧ ∀ r, x.1 ≠ .a r) →
      (∀ r : SReg, c.getS r = .ok (c.leg.snap.readS c.leg.e0 r)) ∧ c.getS 0 = .ok 0
        ∧ c.getS 61 = .ok (c.leg.e0.extractLsb' 0 32) ∧ c.getS 62 = .ok (c.leg.e0.extractLsb' 32 32)
        ∧ c.getS 63 = .ok (c.leg.e0.extractLsb' 64 32)
        ∧ (∀ r : AReg, c.getA r = .ok (c.leg.snap.a[r.toNat]'r.isLt))
        ∧ (∀ n : MBase, c.getM n = .ok (c.leg.snap.readS c.leg.e0 (n + 2) ++ c.leg.snap.readS c.leg.e0 (n + 1)
            ++ c.leg.snap.readS c.leg.e0 n))
        ∧ (∀ (r d : SReg) (v : Word), (c.setS d v).getS r = c.getS r)
        ∧ (∀ (r d : AReg) (v : DWord), (c.setA d v).getA r = c.getA r))
    ∧ (∀ (s : State) (c : Ctx) (m : Bool) (d a b : SReg) (found : Bool), Issues s c plainShape m →
      c.w.regs.bad.find? (fun x => x.1 == .s a) = some (.s a, found) →
      ∃ addr, ∀ i ∈ [Instr.sadd m d a b, .ssub m d a b, .smul m d a b],
        exec i s = .next (c.s.takeFault c.w c.k
          { code := if found then 0x2002 else 0x2001, addr := addr, mask := c.leg.e0, reg := some (.s a) } c.leg.start))

/-- R123 to R125: the scalar integer instructions on two sources. Each result is the leg's pending write of sD, and
nothing else changes but the leg (OpenLegChangesOnlyItself, LegCommitsItsRegisters). -/
def Obligations.ScalarArithmetic : Prop :=
  ∀ (s : State) (c : Ctx) (m : Bool) (d a b : SReg) (x y : Word),
    Issues s c plainShape m → c.getS a = .ok x → c.getS b = .ok y →
    let gives := fun (i : Instr) (v : Word) => exec i s = .next ((c.setS d v).advance plainShape m)
    gives (.sadd m d a b) (BitVec.ofInt 32 (x.toInt + y.toInt))
      ∧ gives (.ssub m d a b) (BitVec.ofInt 32 (x.toInt - y.toInt))
      ∧ gives (.smul m d a b) (BitVec.ofInt 32 (x.toInt * y.toInt))
      ∧ gives (.smulh m d a b) (BitVec.ofInt 32 (x.toInt * y.toInt / 2 ^ 32))
      ∧ gives (.smulhn m d a b) (BitVec.ofNat 32 (x.toNat * y.toNat / 2 ^ 32))
      ∧ gives (.sdiv m d a b) (if y = 0 then 0xFFFF_FFFF else BitVec.ofInt 32 (x.toInt.tdiv y.toInt))
      ∧ gives (.sdivn m d a b) (if y = 0 then 0xFFFF_FFFF else BitVec.ofNat 32 (x.toNat / y.toNat))
      ∧ gives (.srem m d a b) (if y = 0 then x else BitVec.ofInt 32 (x.toInt.tmod y.toInt))
      ∧ gives (.sremn m d a b) (if y = 0 then x else BitVec.ofNat 32 (x.toNat % y.toNat))
      ∧ gives (.sand m d a b) (x &&& y) ∧ gives (.sor m d a b) (x ||| y) ∧ gives (.sxor m d a b) (x ^^^ y)
      ∧ gives (.sshl m d a b) (if 32 ≤ y.toNat then 0 else BitVec.ofNat 32 (x.toNat * 2 ^ y.toNat))
      ∧ gives (.sshr m d a b) (if 32 ≤ y.toNat then 0 else BitVec.ofNat 32 (x.toNat / 2 ^ y.toNat))
      ∧ gives (.ssra m d a b) (if 32 ≤ y.toNat then (if x.toInt < 0 then 0xFFFF_FFFF else 0)
          else BitVec.ofInt 32 (x.toInt / 2 ^ y.toNat))
      ∧ gives (.smin m d a b) (BitVec.ofInt 32 (min x.toInt y.toInt))
      ∧ gives (.smax m d a b) (BitVec.ofInt 32 (max x.toInt y.toInt))
      ∧ gives (.sminn m d a b) (BitVec.ofNat 32 (min x.toNat y.toNat))
      ∧ gives (.smaxn m d a b) (BitVec.ofNat 32 (max x.toNat y.toNat))
      ∧ (∀ o, c.getS d = .ok o → gives (.ssel m d a b) (if o ≠ 0 then x else y))

/-- R124, R125: the corners of division and of the shifts that take a count from a register. -/
def Obligations.DivisionAndShiftCorners : Prop :=
  ∀ (s : State) (c : Ctx) (m : Bool) (d a b : SReg) (x y : Word),
    Issues s c plainShape m → c.getS a = .ok x → c.getS b = .ok y →
    let gives := fun (i : Instr) (v : Word) => exec i s = .next ((c.setS d v).advance plainShape m)
    (y = 0 → gives (.sdiv m d a b) 0xFFFF_FFFF ∧ gives (.sdivn m d a b) 0xFFFF_FFFF ∧ gives (.srem m d a b) x
        ∧ gives (.sremn m d a b) x)
      ∧ (x = 0x8000_0000 → y = 0xFFFF_FFFF → gives (.sdiv m d a b) 0x8000_0000 ∧ gives (.srem m d a b) 0)
      ∧ (y ≠ 0 → gives (.sdiv m d a b) (BitVec.ofInt 32 (x.toInt.tdiv y.toInt))
        ∧ gives (.srem m d a b) (BitVec.ofInt 32 (x.toInt - y.toInt * x.toInt.tdiv y.toInt))
        ∧ gives (.sdivn m d a b) (BitVec.ofNat 32 (x.toNat / y.toNat))
        ∧ gives (.sremn m d a b) (BitVec.ofNat 32 (x.toNat % y.toNat)))
      ∧ (32 ≤ y.toNat → gives (.sshl m d a b) 0 ∧ gives (.sshr m d a b) 0
        ∧ gives (.ssra m d a b) (if x.getLsbD 31 then 0xFFFF_FFFF else 0))
      ∧ (y.toNat < 32 → gives (.sshl m d a b) (BitVec.ofNat 32 (x.toNat * 2 ^ y.toNat))
        ∧ gives (.sshr m d a b) (BitVec.ofNat 32 (x.toNat / 2 ^ y.toNat))
        ∧ gives (.ssra m d a b) (BitVec.ofInt 32 (x.toInt / 2 ^ y.toNat)))

/-- R123, R126 to R128: the scalar integer instructions on one source, on an immediate, and on bit fields; SLIH and SBFI
keep bits of sD as it was before the leg. -/
def Obligations.ScalarOneSource : Prop :=
  ∀ (s : State) (c : Ctx) (m : Bool) (d a : SReg) (imm : BitVec 11) (cnt pos len1 : BitVec 5) (h : BitVec 16) (x : Word),
    Issues s c plainShape m → c.getS a = .ok x →
    let gives := fun (i : Instr) (v : Word) => exec i s = .next ((c.setS d v).advance plainShape m)
    (∃ n, n ≤ 32 ∧ x.toNat < 2 ^ (32 - n) ∧ (n < 32 → 2 ^ (31 - n) ≤ x.toNat)
        ∧ gives (.sclz m d a) (BitVec.ofNat 32 n))
      ∧ gives (.scnt m d a) (BitVec.ofNat 32 ((List.range 32).countP x.getLsbD))
      ∧ gives (.smov m d a) x
      ∧ gives (.saddImm m d a imm) (BitVec.ofInt 32 (x.toInt + imm.toInt))
      ∧ gives (.smulImm m d a imm) (BitVec.ofInt 32 (x.toInt * imm.toInt))
      ∧ gives (.sandImm m d a imm) (x &&& BitVec.ofInt 32 imm.toInt)
      ∧ gives (.sorImm m d a imm) (x ||| BitVec.ofInt 32 imm.toInt)
      ∧ gives (.sxorImm m d a imm) (x ^^^ BitVec.ofInt 32 imm.toInt)
      ∧ gives (.sshlImm m d a cnt) (BitVec.ofNat 32 (x.toNat * 2 ^ cnt.toNat))
      ∧ gives (.sshrImm m d a cnt) (BitVec.ofNat 32 (x.toNat / 2 ^ cnt.toNat))
      ∧ gives (.ssraImm m d a cnt) (BitVec.ofInt 32 (x.toInt / 2 ^ cnt.toNat))
      ∧ gives (.sbfx m d a pos len1) (BitVec.ofNat 32 (x.toNat / 2 ^ pos.toNat % 2 ^ (len1.toNat + 1)))
      ∧ (∀ o, c.getS d = .ok o → ∃ v, gives (.sbfi m d a pos len1) v
          ∧ ∀ n, n < 32 → v.getLsbD n = if pos.toNat ≤ n ∧ n < pos.toNat + len1.toNat + 1 then x.getLsbD (n - pos.toNat)
              else o.getLsbD n)
      ∧ gives (.sli m d h) (BitVec.ofInt 32 h.toInt)
      ∧ (∀ o, c.getS d = .ok o → gives (.slih m d h) (BitVec.ofNat 32 (h.toNat * 65536 + o.toNat % 65536)))

/-- R129: SSET, major 0x02 with the condition in FN, sets sD to 1 when its condition holds and to 0 otherwise; FN 6 and 7
are no instruction. -/
def Obligations.ScalarCompares : Prop :=
  ∀ (s : State) (c : Ctx) (m : Bool) (d a b : SReg) (x y : Word),
    Issues s c plainShape m → c.getS a = .ok x → c.getS b = .ok y →
    let gives := fun (i : Instr) (p : Bool) =>
      exec i s = .next ((c.setS d (if p then 1 else 0)).advance plainShape m)
    gives (.ssetEq m d a b) (decide (x = y)) ∧ gives (.ssetNe m d a b) (decide (x ≠ y))
      ∧ gives (.ssetLt m d a b) (decide (x.toInt < y.toInt)) ∧ gives (.ssetLe m d a b) (decide (x.toInt ≤ y.toInt))
      ∧ gives (.ssetLtn m d a b) (decide (x.toNat < y.toNat)) ∧ gives (.ssetLen m d a b) (decide (x.toNat ≤ y.toNat))
      ∧ (let word := fun (fn : Nat) => decodeWords (BitVec.ofNat 32 (fn * 2 ^ 27 + b.toNat * 2 ^ 21 + a.toNat * 2 ^ 15
          + d.toNat * 2 ^ 9 + 2 * 2 ^ 3 + if m then 4 else 0)) 0 0
        word 0 = some (.ssetEq m d a b) ∧ word 1 = some (.ssetNe m d a b) ∧ word 2 = some (.ssetLt m d a b)
          ∧ word 3 = some (.ssetLe m d a b) ∧ word 4 = some (.ssetLtn m d a b) ∧ word 5 = some (.ssetLen m d a b)
          ∧ word 6 = none ∧ word 7 = none)

/-- R130 to R132: scalar floating point, rounded once to nearest even in FP32, and the conversions, whose class joins the
leg's counts. -/
def Obligations.ScalarFloatAndConversion : Prop :=
  ∀ (s : State) (c : Ctx) (m : Bool) (d a b : SReg) (x y : Word),
    Issues s c plainShape m → c.getS a = .ok x → c.getS b = .ok y →
    let gives := fun (i : Instr) (v : Nat) =>
      exec i s = .next ((c.setS d (BitVec.ofNat 32 v)).advance plainShape m)
    let converts := fun (i : Instr) (r : Nat × Ev) =>
      exec i s = .next (((c.setS d (BitVec.ofNat 32 r.1)).countEvents [r.2]).advance plainShape m)
    gives (.sfadd m d a b) (fp32.addBits .rne false x.toNat y.toNat)
      ∧ gives (.sfsub m d a b) (fp32.subBits .rne false x.toNat y.toNat)
      ∧ gives (.sfmul m d a b) (fp32.mulBits .rne false x.toNat y.toNat)
      ∧ (∀ o, c.getS d = .ok o → gives (.sffma m d a b) (fp32.fmaBits .rne false x.toNat y.toNat o.toNat))
      ∧ converts (.scvtI2f m d a) (fp32.convert .rz false (ofInt x.toInt 0))
      ∧ converts (.scvtN2f m d a) (fp32.convert .rz false (ofInt x.toNat 0))
      ∧ converts (.scvtF2b m d a) (bf16.convert .rz false (fp32.decode x.toNat))
      ∧ converts (.scvtB2f m d a) (fp32.convert .rne false (bf16.decode (x.toNat % 65536)))
      ∧ converts (.scvtF2h m d a) (fp16.convert .rz false (fp32.decode x.toNat))
      ∧ converts (.scvtH2f m d a) (fp32.convert .rne false (fp16.decode (x.toNat % 65536)))
      ∧ (∀ (i : Instr) (rm : Rm) (lo hi : Int),
          (i, rm, lo, hi) ∈ [(Instr.scvtF2i m d a, Rm.rz, -2 ^ 31, 2 ^ 31 - 1), (.scvtF2ir m d a, .rne, -2 ^ 31, 2 ^ 31 - 1),
            (.scvtF2n m d a, .rz, 0, 2 ^ 32 - 1), (.scvtF2nr m d a, .rne, 0, 2 ^ 32 - 1)] →
          exec i s = .next (((c.setS d (BitVec.ofInt 32 (toInt rm lo hi (fp32.decode x.toNat)).1)).countEvents
            [(toInt rm lo hi (fp32.decode x.toNat)).2]).advance plainShape m))

/-! ## Addresses, spaces and masks -/

/-- R133: address arithmetic is modulo 2^64. -/
def Obligations.AddressArithmetic : Prop :=
  ∀ (s : State) (c : Ctx) (m hi : Bool) (d a b : AReg) (sd sa sb : SReg) (imm : BitVec 11) (h : BitVec 16) (x y : DWord)
    (u v : Word),
    Issues s c plainShape m → c.getA a = .ok x → c.getA b = .ok y → c.getS sa = .ok u → c.getS sb = .ok v →
    let gives := fun (i : Instr) (r : DWord) => exec i s = .next ((c.setA d r).advance plainShape m)
    gives (.aadd m d a sb) (BitVec.ofInt 64 (x.toInt + v.toInt))
      ∧ gives (.asub m d a b) (BitVec.ofInt 64 (x.toInt - y.toInt))
      ∧ gives (.amov m d a) x
      ∧ gives (.afrom m d sa sb) (BitVec.ofNat 64 (v.toNat * 2 ^ 32 + u.toNat))
      ∧ exec (.ato m sd a hi) s = .next ((c.setS sd (BitVec.ofNat 32 (if hi then x.toNat / 2 ^ 32 else x.toNat % 2 ^ 32))).advance
          plainShape m)
      ∧ gives (.alea1 m d a sb) (BitVec.ofInt 64 (x.toInt + v.toInt))
      ∧ gives (.alea2 m d a sb) (BitVec.ofInt 64 (x.toInt + v.toInt * 2))
      ∧ gives (.alea4 m d a sb) (BitVec.ofInt 64 (x.toInt + v.toInt * 4))
      ∧ gives (.alea8 m d a sb) (BitVec.ofInt 64 (x.toInt + v.toInt * 8))
      ∧ gives (.alea16 m d a sb) (BitVec.ofInt 64 (x.toInt + v.toInt * 16))
      ∧ gives (.aaddImm m d a imm) (BitVec.ofInt 64 (x.toInt + imm.toInt))
      ∧ gives (.ali m d h) (BitVec.ofInt 64 h.toInt)

/-- R371 to R373: ASPC gives the space code; ACAST gives the bare offset of its table or the first failing check's fault with FADDR
the pointer; AGEN gives the generic pointer of its table, or 0x0104 outside the space. -/
def Obligations.SpaceInstructions : Prop :=
  ∀ (s : State) (c : Ctx) (m : Bool) (d a : AReg) (sd : SReg) (x : DWord),
    Issues s c plainShape m → c.getA a = .ok x →
    let alloc := fun (core : Nat) => (c.s.core core).alloc? c.w.launch
    let n := x.toNat / 2 ^ 21 % 8
    exec (.aspc m sd a) s = .next ((c.setS sd (match windowOf x with
        | none => 7
        | some .glob => 0
        | some .priv => 1
        | some .scr => if x.extractLsb' 40 10 = c.w.core then 2 else 10
        | some .clus => if x.extractLsb' 42 7 = c.w.core.extractLsb' 3 7 then 3 else 11)).advance plainShape m)
      ∧ (∀ (i : Instr) (win : Window), (i, win) ∈ [(Instr.acastG m d a, Window.glob), (.acastP m d a, .priv),
            (.acastS m d a, .scr), (.acastC m d a, .clus)] →
          (∀ y, c.castTo win x = .ok y → exec i s = .next ((c.setA d y).advance plainShape m))
            ∧ (∀ e, c.castTo win x = .error e → exec i s = .next (c.fail (c.trap e x)))
            ∧ (windowOf x = none → c.castTo win x = .error 0x1103)
            ∧ (∀ v, windowOf x = some v → v ≠ win → c.castTo win x = .error 0x1104)
            ∧ (windowOf x = some .glob → win = .glob → c.castTo win x = .ok x)
            ∧ (windowOf x = some .priv → win = .priv → c.castTo win x =
                if x.toNat % 2 ^ 24 < c.s.psz c.w then .ok (BitVec.ofNat 64 (x.toNat % 2 ^ 24)) else .error 0x0104)
            ∧ (windowOf x = some .scr → win = .scr → x.extractLsb' 40 10 ≠ c.w.core → c.castTo win x = .error 0x1101)
            ∧ (windowOf x = some .scr → win = .scr → x.extractLsb' 40 10 = c.w.core → c.castTo win x =
                match alloc c.w.core.toNat with
                | some l => if l.base ≤ x.toNat % 2 ^ 21 ∧ x.toNat % 2 ^ 21 < l.base + l.size
                    then .ok (BitVec.ofNat 64 (x.toNat % 2 ^ 21 - l.base)) else .error 0x0104
                | none => .error 0x0104)
            ∧ (windowOf x = some .clus → win = .clus → x.extractLsb' 42 7 ≠ c.w.core.extractLsb' 3 7 →
                c.castTo win x = .error 0x1102)
            ∧ (windowOf x = some .clus → win = .clus → x.extractLsb' 42 7 = c.w.core.extractLsb' 3 7 → c.castTo win x =
                match alloc (c.w.core.toNat / 8 * 8 + n) with
                | some l => if l.base ≤ x.toNat % 2 ^ 21 ∧ x.toNat % 2 ^ 21 < l.base + l.size
                    then .ok (BitVec.ofNat 64 (n * 2 ^ 21 + (x.toNat % 2 ^ 21 - l.base))) else .error 0x0104
                | none => .error 0x0104))
      ∧ (∀ (i : Instr) (win : Window), (i, win) ∈ [(Instr.agenP m d a, Window.priv), (.agenS m d a, .scr),
            (.agenC m d a, .clus)] →
          (∀ y, c.genericOf win x = some y → exec i s = .next ((c.setA d y).advance plainShape m))
            ∧ (c.genericOf win x = none → exec i s = .next (c.fail (c.trap 0x0104 x))))
      ∧ c.genericOf .priv x = (if x.toNat < c.s.psz c.w then some (BitVec.ofNat 64 (0xF0 * 2 ^ 56 + x.toNat)) else none)
      ∧ c.genericOf .scr x = (match alloc c.w.core.toNat with
        | some l => if x.toNat < l.size
            then some (BitVec.ofNat 64 (0xF1 * 2 ^ 56 + c.w.core.toNat * 2 ^ 40 + l.base + x.toNat)) else none
        | none => none)
      ∧ c.genericOf .clus x = (if 2 ^ 24 ≤ x.toNat then none else match alloc (c.w.core.toNat / 8 * 8 + n) with
        | some l => if x.toNat % 2 ^ 21 < l.size
            then some (BitVec.ofNat 64 (0xF2 * 2 ^ 56 + c.w.core.toNat / 8 * 2 ^ 42 + n * 2 ^ 21 + l.base + x.toNat % 2 ^ 21))
            else none
        | none => none)

/-- R134: the mask instructions. -/
def Obligations.MaskInstructions : Prop :=
  ∀ (s : State) (c : Ctx) (m : Bool) (d a b : MBase) (sd sa : SReg) (x y : Mask) (v : Word),
    Issues s c plainShape m → c.getM a = .ok x → c.getM b = .ok y → c.getS sa = .ok v →
    let gives := fun (i : Instr) (r : Mask) => exec i s = .next ((c.setM d r).advance plainShape m)
    let counts := fun (i : Instr) (n : Nat) => exec i s = .next ((c.setS sd (BitVec.ofNat 32 n)).advance plainShape m)
    gives (.mand m d a b) (x &&& y) ∧ gives (.mor m d a b) (x ||| y) ∧ gives (.mxor m d a b) (x ^^^ y)
      ∧ gives (.mandn m d a b) (x &&& ~~~y) ∧ gives (.mnot m d a) (~~~x)
      ∧ counts (.mcnt m sd a) ((List.range 96).countP x.getLsbD)
      ∧ (∃ n, counts (.mfirst m sd a) n ∧ n ≤ 96 ∧ (n < 96 → x.getLsbD n = true) ∧ ∀ k, k < n → x.getLsbD k = false)
      ∧ (∃ r, gives (.mset m d sa) r ∧ ∀ l, l < 96 → r.getLsbD l = decide (l < v.toNat))
      ∧ counts (.mget m sd a sa) (if x.getLsbD v.toNat then 1 else 0)
      ∧ (∀ r : Mask, (c.setM d r).leg.sw = [(d + 2, r.extractLsb' 64 32), (d + 1, r.extractLsb' 32 32),
          (d, r.extractLsb' 0 32)] ++ c.leg.sw)

/-! ## Lane instructions -/

/-- R7, R105: the run form is only a form: whatever the boundaries, the lanes of a register built from values are
those values; and a merge takes the new value on the lanes of the mask and the old one elsewhere. R105, R106, R28,
R110: a lane result: the active lanes of the destination take the result's lanes, the other lanes keep what they held,
halves of a pair each on their own; every other lane register keeps its value, and so does everything else but the
leg, unless the Hamper must spill to make room (R117). A result of 32 or 64 bits that fits at once whatever its runs
is always written, and so is a reservation for a result not yet known. R145, R146: VCOAL joins equal neighbours
everywhere; VRUNS counts the runs of its source as the leg began. -/
def Obligations.LaneResultsMerge : Prop :=
  ((∀ (b : Mask) (vs : List Word), (buildRuns b vs).expand = vs)
      ∧ (∀ (m : Mask) (new old : List Word) (l : Nat), l < old.length →
          lane (mergeLanes m new old) l = if m.getLsbD l then lane new l else lane old l))
    ∧ ((∀ (c c' : Ctx) (x y : Sel) (vals : List Word) (bnd : Mask) (l : Nat),
      c.setLanes x vals bnd = .ok c' → (∃ r, x = .v r) ∨ (∃ r, x = .t r) → (c.oldDst x).expand.length = c.w.ww →
      l < c.w.ww →
      lane (c'.oldDst x).expand l = (if c.leg.e0.getLsbD l then lane vals l else lane (c.oldDst x).expand l)
        ∧ ((∀ r, y = .v r → (∀ q, x = .v q → c.key r ≠ c.key q)) → y ≠ x → c'.oldDst y = c.oldDst y)
        ∧ c'.leg.sw = c.leg.sw ∧ c'.leg.aw = c.leg.aw ∧ c'.leg.stores = c.leg.stores ∧ c'.leg.snap = c.leg.snap
        ∧ (c.w.residentSlots + c'.leg.resv + (c.w.slot c.k.other).resv ≤ c.w.rb → c'.s = c.s ∧ c'.w = c.w))
      ∧ (∀ (c : Ctx) (t : LTy) (x : Sel) (vals : List Nat) (bnd : Mask), Roomy c (2 * c.w.ww) →
        (c.oldDst x).expand.length ≤ c.w.ww → (c.oldDst (selNext x)).expand.length ≤ c.w.ww →
        ∃ c', c.dst t x vals bnd = .ok c' ∧ c'.s = c.s ∧ c'.w = c.w)
      ∧ (∀ (c : Ctx) (x : Sel) (n : Nat), Roomy c (n * c.w.ww) →
        c.reserveUnknown x n = .ok (if selIsV x then c.reserved (n * c.w.ww) else c)))
    ∧ (∀ (s : State) (c c' : Ctx) (m : Bool) (f : LA) (A : Lanes) (a : VReg) (d : SReg),
      Issues s c laneShape m → f.sa = .v a → c.lanes f.sa 0 = .ok A →
      (c.reserve (c.result f.dst A.vals A.bnd).coalesce.length = .ok c' →
          exec (.vcoal m f) s = .next ((c'.putV f.dst (c.result f.dst A.vals A.bnd).coalesce).advance laneShape m))
        ∧ (f.dst = .s d → exec (.vruns m f) s =
            .next ((c.setS d (BitVec.ofNat 32 (c.leg.snap.getV (c.key a)).length)).advance laneShape m))
        ∧ (∀ r : LReg, r.coalesce.expand = r.expand
            ∧ ∀ i x y, r.coalesce[i]? = some x → r.coalesce[i + 1]? = some y → x.val ≠ y.val))

/-- R135 to R139: lane arithmetic: each active lane takes the operation on its own sources. Where its runs fit,
whatever they are, the instruction completes. A result that the run slots cannot hold takes 0x0301 at the instruction,
with the mask E as the leg began (R116): a 32-bit result does when the working set, the leg's reservations and its
runs are more than RB. R139: the integer operations of lanes, modulo 2^32 or 2^64, or clamped to the type's range
under `.sat`; VABS and VNEG of the least value wrap to it, or give the greatest under `.sat`. -/
def Obligations.LaneArithmetic : Prop :=
  (∀ (s : State) (c : Ctx) (m : Bool) (f : LA) (A B C : Src),
      Issues s c laneShape m → c.src f.ty f.sa f.imm = .ok A → c.src f.ty f.sb f.imm = .ok B →
      c.src f.ty f.sc f.imm = .ok C →
      let short : Trap := { code := 0x0301, addr := c.pc, mask := c.leg.e0 }
      let gives := fun (i : Instr) (vals : List Nat) (bnd : Mask) =>
        (Roomy c (2 * c.w.ww) → (c.oldDst f.dst).expand.length ≤ c.w.ww → (c.oldDst (selNext f.dst)).expand.length ≤ c.w.ww →
            ∃ c' : Ctx, c.dst f.ty f.dst vals bnd = .ok c' ∧ c'.s = c.s ∧ c'.w = c.w ∧ c'.leg.short = c.leg.short
              ∧ exec i s = .next (c'.advance laneShape m))
          ∧ (∀ c', c.dst f.ty f.dst vals bnd = .ok c' → exec i s = .next (c'.advance laneShape m))
          ∧ (∀ t, c.dst f.ty f.dst vals bnd = .error t → t = short ∧ exec i s = .next (c.fail short))
          ∧ (wideTy f.ty = false → selIsV f.dst = true → c.w.rb < c.w.workingSlots
              + (c.leg.resv + (c.result f.dst (vals.map (BitVec.ofNat 32)) bnd).length) → exec i s = .next (c.fail short))
      let gives1 := fun (i : Instr) (op : Nat → Nat) => gives i (A.vals.map op) A.bnd
      let gives2 := fun (i : Instr) (op : Nat → Nat → Nat) => gives i (List.zipWith op A.vals B.vals) (A.bnd ||| B.bnd)
      gives2 (.vadd m f) (addOf f) ∧ gives2 (.vsub m f) (subOf f) ∧ gives2 (.vmul m f) (mulOf f)
        ∧ gives (.vfma m f) (List.zipWith (fun g z => g z) (List.zipWith (fmaOf f) A.vals B.vals) C.vals)
            (A.bnd ||| B.bnd ||| C.bnd)
        ∧ gives2 (.vmin m f) (pickOf f.ty true) ∧ gives2 (.vmax m f) (pickOf f.ty false)
        ∧ gives1 (.vabs m f) (absOf f) ∧ gives1 (.vneg m f) (negOf f)
        ∧ gives2 (.vimul m f) (imulOf f) ∧ gives2 (.vimulh m f) (imulhOf f.ty)
        ∧ gives2 (.vand m f) (fun a b => a &&& b) ∧ gives2 (.vor m f) (fun a b => a ||| b)
        ∧ gives2 (.vxor m f) (fun a b => a ^^^ b) ∧ gives1 (.vmov m f) id)
    ∧ (∀ (f : LA) (a b : Nat), floatTy f.ty = false → a < 2 ^ tyBits f.ty → b < 2 ^ tyBits f.ty →
      let clamped := fun (x : Int) =>
        max (intRange (tyBits f.ty) (signedTy f.ty)).1 (min x (intRange (tyBits f.ty) (signedTy f.ty)).2)
      (f.sat = false → addOf f a b = (a + b) % 2 ^ tyBits f.ty ∧ (subOf f a b + b) % 2 ^ tyBits f.ty = a
          ∧ imulOf f a b = a * b % 2 ^ tyBits f.ty ∧ (negOf f a + a) % 2 ^ tyBits f.ty = 0)
        ∧ (f.sat = true → intVal f.ty (addOf f a b) = clamped (intVal f.ty a + intVal f.ty b)
          ∧ intVal f.ty (subOf f a b) = clamped (intVal f.ty a - intVal f.ty b)
          ∧ intVal f.ty (imulOf f a b) = clamped (intVal f.ty a * intVal f.ty b)
          ∧ intVal f.ty (negOf f a) = clamped (-(intVal f.ty a))
          ∧ intVal f.ty (absOf f a) = clamped (intVal f.ty a).natAbs)
        ∧ intVal f.ty (pickOf f.ty true a b) = min (intVal f.ty a) (intVal f.ty b)
        ∧ intVal f.ty (pickOf f.ty false a b) = max (intVal f.ty a) (intVal f.ty b)
        ∧ intVal f.ty (imulhOf f.ty a b) = intVal f.ty a * intVal f.ty b / 2 ^ tyBits f.ty
        ∧ shlOf f.ty a b = a * 2 ^ b % 2 ^ tyBits f.ty ∧ shrOf f.ty a b = a / 2 ^ b
        ∧ sintOf (tyBits f.ty) (sraOf f.ty a b) = sintOf (tyBits f.ty) a / 2 ^ b)

/-- R139, R140, R131, R132, R142: the shifts, whose count is a 32-bit value at every lane; the special functions; the
conversions, of which the active lanes are counted; and the lane index. -/
def Obligations.LaneShiftsFunctionsConversions : Prop :=
  ∀ (s : State) (c c' : Ctx) (m : Bool) (f : LA) (A : Src) (B L : Lanes),
    Issues s c laneShape m → c.src f.ty f.sa f.imm = .ok A → c.lanes f.sb f.imm = .ok B → c.lanes f.sa f.imm = .ok L →
    (∀ (i : Instr) (op : Nat → Nat → Nat), (i, op) ∈ [(Instr.vshl m f, shlOf f.ty), (.vshr m f, shrOf f.ty),
        (.vsra m f, sraOf f.ty)] →
        c.dst f.ty f.dst (List.zipWith op A.vals (B.vals.map BitVec.toNat)) (A.bnd ||| B.bnd) = .ok c' →
        exec i s = .next (c'.advance laneShape m))
      ∧ (∀ (i : Instr) (g : Bool → Word → Word), (i, g) ∈ [(Instr.vrcp m f, rcpF32), (.vrsq m f, rsqF32),
          (.vsqrt m f, sqrtF32), (.vexp2 m f, exp2F32), (.vlog2 m f, log2F32), (.vsin m f, sinF32), (.vcos m f, cosF32)] →
        c.dst f.ty f.dst (A.vals.map fun a => (g f.sat (BitVec.ofNat 32 a)).toNat) A.bnd = .ok c' →
        exec i s = .next (c'.advance laneShape m))
      ∧ (∀ (i : Instr) (k : Cvt), (i, k) ∈ [(Instr.vcvtI2f m f, Cvt.i2f), (.vcvtN2f m f, .n2f), (.vcvtF2i m f, .f2i),
          (.vcvtF2n m f, .f2n), (.vcvtF2ir m f, .f2ir), (.vcvtF2nr m f, .f2nr), (.vcvtF2b m f, .f2b),
          (.vcvtB2f m f, .b2f), (.vcvtF2h m f, .f2h), (.vcvtH2f m f, .h2f)] →
        c.setLanes f.dst (L.vals.map fun x => (cvtOf k f.sat x).1) L.bnd = .ok c' → c'.w.ww = c.w.ww →
        c'.leg.e0 = c.leg.e0 →
        exec i s = .next ((c'.countEvents (c.active.map fun l =>
          ((L.vals.map (cvtOf k f.sat)).getD l (0, .none)).2)).advance laneShape m))
      ∧ (c.dst f.ty f.dst (List.range c.w.ww) perLane = .ok c' → exec (.viota m f) s = .next (c'.advance laneShape m))

/-- R141, R142: compares write a mask: a bit of an active lane is the condition's value there, every other bit is 0; and
the selects and moves. VBCAST of an active lane gives its value to every active lane; which of the destination's old boundaries
then stand, and so how many run slots it costs, is the model's reading of R105 and R142 (log entry 46). -/
def Obligations.LaneComparesSelectsMoves : Prop :=
  ∀ (s : State) (c c' : Ctx) (m : Bool) (f : LA) (A B : Src) (M : Mask),
    Issues s c laneShape m → c.src f.ty f.sa f.imm = .ok A → c.src f.ty f.sb f.imm = .ok B → c.getM f.mb = .ok M →
    (∀ (i : Instr) (k : Cond), (i, k) ∈ [(Instr.vcmpEq m f, Cond.eq), (.vcmpNe m f, .ne), (.vcmpLt m f, .lt),
        (.vcmpLe m f, .le), (.vcmpGt m f, .gt), (.vcmpGe m f, .ge), (.vcmpUn m f, .un), (.vcmpOrd m f, .ord)] →
        ∃ r, exec i s = .next ((c.setM f.mb r).advance laneShape m)
          ∧ ∀ l, l < 96 → r.getLsbD l = (decide (l < c.w.ww) && c.leg.e0.getLsbD l
              && k.holds f.ty (A.vals.getD l 0) (B.vals.getD l 0)))
      ∧ (∀ a b, floatTy f.ty = true → packedTy f.ty = false →
          ((fp32.decode a).isNan = true ∨ (fp32.decode b).isNan = true →
            Cond.holds .eq f.ty a b = false ∧ Cond.holds .lt f.ty a b = false ∧ Cond.holds .le f.ty a b = false
            ∧ Cond.holds .gt f.ty a b = false ∧ Cond.holds .ge f.ty a b = false ∧ Cond.holds .ne f.ty a b = true
            ∧ Cond.holds .un f.ty a b = true ∧ Cond.holds .ord f.ty a b = false))
      ∧ (c.dst f.ty f.dst ((List.range c.w.ww).map fun l => if M.getLsbD l then A.vals.getD l 0 else B.vals.getD l 0)
          (A.bnd ||| B.bnd ||| maskBounds M) = .ok c' → exec (.vsel m f) s = .next (c'.advance laneShape m))
      ∧ (let k := B.vals.headD 0
        (k < c.w.ww ∧ c.leg.e0.getLsbD k = true →
            c.dstOne f.ty f.dst (A.vals.getD k 0) = .ok c' →
            exec (.vbcast m f) s = .next (c'.advance laneShape m)
              ∧ (wideTy f.ty = false → (∃ r, f.dst = .v r) ∨ (∃ r, f.dst = .t r) →
                (c.oldDst f.dst).expand.length = c.w.ww → ∀ l, l < c.w.ww → lane (c'.oldDst f.dst).expand l
                  = if c.leg.e0.getLsbD l then BitVec.ofNat 32 (A.vals.getD k 0) else lane (c.oldDst f.dst).expand l))
          ∧ (¬(k < c.w.ww ∧ c.leg.e0.getLsbD k = true) → c.dst f.ty f.dst A.vals A.bnd = .ok c' →
            exec (.vbcast m f) s = .next (c'.advance laneShape m)))

/-- R143: a lane reads the lane that VSHFL's index or VROT's rotation names when that lane is active, and keeps its
own source value otherwise; the validity mask has a bit for each active lane that read another's value. R111, R112,
R144: reductions and scans: a VRED writes the tree over the active lanes below WW to one scalar register, or to two
for a 64-bit type, low half first; lane l of a VSCAN takes the tree over the active lanes up to l. A path without
active lanes gets the identity. R111: the tree: over none it is the identity, over an integer sum the sum of the
lanes, and over one lane that lane's value, the bits of a NaN under a float sum included (the model's reading of R87
and R111, log entry 78). -/
def Obligations.CrossLaneResults : Prop :=
  (∀ (s : State) (c c' : Ctx) (m : Bool) (f : LA) (A B : Src) (L : Lanes),
      Issues s c laneShape m → c.src f.ty f.sa f.imm = .ok A → c.src f.ty f.sb f.imm = .ok B → c.lanes f.sb f.imm = .ok L →
      ∀ (i : Instr) (idx : Nat → Nat), (i, idx) ∈ [(Instr.vshfl m f, fun l => (lane L.vals l).toNat),
          (.vrot m f, fun l => (l + B.vals.headD 0) % c.w.ww)] →
        let reads := fun l => decide (idx l < c.w.ww) && c.leg.e0.getLsbD (idx l)
        c.dst f.ty f.dst ((List.range c.w.ww).map fun l => if reads l then A.vals.getD (idx l) 0 else A.vals.getD l 0)
          perLane = .ok c' → c'.w.ww = c.w.ww → c'.leg.e0 = c.leg.e0 →
        ∃ r, exec i s = .next ((c'.setM f.mb r).advance laneShape m)
          ∧ ∀ l, l < 96 → r.getLsbD l = (decide (l < c.w.ww) && c.leg.e0.getLsbD l && reads l))
    ∧ (∀ (s : State) (c c' : Ctx) (m : Bool) (f : LA) (A : Src) (d : SReg),
      Issues s c laneShape m → c.src f.ty f.sa f.imm = .ok A →
      (∀ (i : Instr) (k : RedOp), (i, k) ∈ [(Instr.vredAdd m f, RedOp.add), (.vredMin m f, .min), (.vredMax m f, .max),
          (.vredAnd m f, .and), (.vredOr m f, .or), (.vredXor m f, .xor)] → f.dst = .s d →
          let v := k.over f A.vals (c.leg.e0 &&& Mask.below c.w.ww)
          exec i s = .next ((if wideTy f.ty then (c.setS d (BitVec.ofNat 32 v)).setS (d + 1) (BitVec.ofNat 32 (v / 2 ^ 32))
              else c.setS d (BitVec.ofNat 32 v)).advance laneShape m)
            ∧ (c.leg.e0 = 0 → v = k.identity f.ty))
        ∧ (∀ (i : Instr) (k : RedOp), (i, k) ∈ [(Instr.vscanAdd m f, RedOp.add), (.vscanMin m f, .min), (.vscanMax m f, .max),
            (.vscanAnd m f, .and), (.vscanOr m f, .or), (.vscanXor m f, .xor)] →
          c.dst f.ty f.dst ((List.range c.w.ww).map fun l =>
              k.over f A.vals (c.leg.e0 &&& Mask.below c.w.ww &&& Mask.below (l + 1))) perLane = .ok c' →
          exec i s = .next (c'.advance laneShape m)))
    ∧ (∀ (f : LA) (vals : List Nat) (m : Mask),
      (∀ k : RedOp, k.over f vals 0 = k.identity f.ty)
        ∧ (∀ (k : RedOp) (l : Nat), l < 96 → k.over f vals (Mask.lane l) = vals.getD l 0)
        ∧ (floatTy f.ty = false → f.sat = false → (∀ v ∈ vals, v < 2 ^ tyBits f.ty) →
            RedOp.over .add f vals m % 2 ^ tyBits f.ty
              = (((List.range 96).filter m.getLsbD).map fun l => vals.getD l 0).sum % 2 ^ tyBits f.ty)
        ∧ (∀ l, l < 96 → (RedOp.over .or f vals m).testBit l
              = ((List.range 96).filter m.getLsbD).any fun i => (vals.getD i 0).testBit l))

/-! ## Memory -/

/-- R3, R39, R239: memory under reads, writes and a leg's stores: a value read is little-endian; a write changes its own
bytes and no other; and a leg's stores change no byte outside the pieces they lie in, of which those in a host's memory
are only posted. -/
def Obligations.StoresChangeOnlyTheirBytes : Prop :=
  (∀ (m : List Host.Cell) (key n : Nat), leNat (Memory.read m key n)
      = ((List.range n).map fun i => (Memory.get m (key + i)).toNat * 256 ^ i).sum)
    ∧ (∀ (m : List Host.Cell) (key : Nat) (b : List Byte) (k : Nat), Memory.wf m = true →
        Memory.get (Memory.write m key b) k = if key ≤ k ∧ k < key + b.length then b.getD (k - key) 0 else Memory.get m k)
    ∧ (∀ (s : State) (st : List HeldStore) (k : Nat), Memory.wf s.mem = true →
        (∀ h ∈ st, ∀ p ∈ h.pieces, p.host?.isNone = true → k < p.key ∨ p.key + p.len ≤ k) →
        Memory.get (s.performStores st).mem k = Memory.get s.mem k)
    ∧ (∀ (s : State) (h : HeldStore) (p : Piece) (i : Nat), Memory.wf s.mem = true → h.pieces = [p] → p.host? = none →
        i < p.len → i < h.bytes.length →
        Memory.get (s.performStores [h]).mem (p.key + i) = h.bytes.getD i 0)

/-- R190 to R192, R202, R246: the checks of an access by a lane to a generic address, in their order: canonical, suffix,
core or cluster, alignment, bounds, the attributes of the page, and what a domain page's owner exports (R420). -/
def Obligations.AccessChecksInOrder : Prop :=
  ∀ (s : State) (w : Wave) (spc : Spc) (l n : Nat) (a : DWord) (u : Use), (a.extractLsb' 56 8 ≠ 0 ∨ spc = .x ∨ spc = .g) →
    (windowOf a = none → s.locate w spc false l a n n u = .error (1, 0x1103))
      ∧ (∀ v x, windowOf a = some v → spcWindow spc = some x → x ≠ v → s.locate w spc false l a n n u = .error (2, 0x1104))
      ∧ ((spcWindow spc = none ∨ spcWindow spc = windowOf a) →
          (windowOf a = some .scr → (a.extractLsb' 40 10).toNat ≠ w.core.toNat →
              s.locate w spc false l a n n u = .error (3, 0x1101))
          ∧ (windowOf a = some .clus → (a.extractLsb' 42 7).toNat ≠ w.core.toNat / 8 →
              s.locate w spc false l a n n u = .error (3, 0x1102))
          ∧ ((windowOf a = some .glob ∨ windowOf a = some .priv) → a.toNat % n ≠ 0 →
              s.locate w spc false l a n n u = .error (4, 0x0201))
          ∧ (windowOf a = some .priv → a.toNat % n = 0 → s.psz w < a.toNat % 2 ^ 24 + n →
              s.locate w spc false l a n n u = .error (5, 0x0104))
          ∧ (windowOf a = some .glob → a.toNat % n = 0 →
              (s.leaf? w.asid a = none → s.locate w spc false l a n n u = .error (6, 0x1001))
              ∧ (∀ f, s.leaf? w.asid a = some f →
                (f.p = false → s.locate w spc false l a n n u = .error (6, 0x1001))
                ∧ (f.p = true → u = .read → s.ownerRefuses f a n = true → s.locate w spc false l a n n u = .error (6, 0x1002))
                ∧ (f.p = true → u = .read → s.ownerRefuses f a n = false → s.locate w spc false l a n n u
                    = .ok ⟨.glob, w.core.toNat, 0, [⟨f.key a, n, some f⟩]⟩)
                ∧ (f.p = true → u = .write ∨ u = .atomic → f.w = false →
                    s.locate w spc false l a n n u = .error (6, if f.cw then 0x1003 else 0x1002))
                ∧ (f.p = true → u = .write ∨ u = .atomic → f.w = true → f.fmt ≠ 0 →
                    s.locate w spc false l a n n u = .error (6, 0x1004))
                ∧ (f.p = true → u = .write → f.w = true → f.fmt = 0 → s.ownerRefuses f a n = false → s.locate w spc false l a n n u
                    = .ok ⟨.glob, w.core.toNat, 0, [⟨f.key a, n, some f⟩]⟩))))

/-- R235: the addresses of a lane access: with an offset or a scalar register the lanes reach consecutive units, with
a lane register each its own, and in private memory every lane the same offset. R237, R238, R241 to R243: LOADS. Each
active lane takes the bytes at its address; a lane that fails a check discards the leg with the fault R192 gives. A
VLD.w takes its elements' values in the wave's format when nothing is damaged, and a VLDP the bytes of its parameter
window, zero past its end. -/
def Obligations.Loads : Prop :=
  (∀ (c : Ctx) (f : LM) (n : Nat) (a : DWord), c.getA f.areg = .ok a →
      (∀ o, f.am = .off o → c.laneAddrs f n = .ok (c.active.map fun l => (l,
          if privateBase f.spc (a + o.signExtend 64) then a + o.signExtend 64
          else a + o.signExtend 64 + BitVec.ofNat 64 (n * l))))
        ∧ (∀ r x, f.am = .s r → c.getS r = .ok x → c.laneAddrs f n = .ok (c.active.map fun l => (l,
          if privateBase f.spc (a + x.signExtend 64) then a + x.signExtend 64
          else a + x.signExtend 64 + BitVec.ofNat 64 (n * l))))
        ∧ (∀ r v, f.am = .v r → c.lanes (.v r) 0 = .ok v → c.laneAddrs f n = .ok (c.active.map fun l =>
          (l, a + (lane v.vals l).signExtend 64))))
    ∧ (∀ (s : State) (c : Ctx) (m : Bool) (f : LM), Issues s c loadShape m →
      (∀ as ps c', c.laneAddrs f (tyBytes f.ty) = .ok as →
          c.locate f false as (tyBytes f.ty) .read c.s.readFault = .ok ps →
          c.reserveUnknown f.dv (tyBytes f.ty / 4) = .ok c' → c'.w.ww = c.w.ww → c'.s = c.s →
          exec (.vld m f) s = .next (((c'.fillNats f.dv
            ((List.range c.w.ww).map fun l => leNat (readPieces c.s.mem (piecesOf ps l))) (tyBytes f.ty / 4)).await
              false (reportedLanes f.spc as) ps).advance loadShape m))
        ∧ (∀ as t, c.laneAddrs f (tyBytes f.ty) = .ok as →
          c.locate f false as (tyBytes f.ty) .read c.s.readFault = .error t → exec (.vld m f) s = .next (c.fail t))
        ∧ (∀ a p d, c.base f = .ok a → c.s.locate c.w f.spc true 0 a (tyBytes f.ty) (tyBytes f.ty) .read = .ok p →
          c.s.readFault p.pieces = none → f.dv = .s d →
          exec (.sld m f) s = .next (((c.setNat d (leNat (readPieces c.s.mem p.pieces)) (tyBytes f.ty / 4)).await
            true [(0, reported f.spc a)] [(0, p)]).advance loadShape m))
        ∧ (∀ a e, c.base f = .ok a → c.s.locate c.w f.spc true 0 a (tyBytes f.ty) (tyBytes f.ty) .read = .error e →
          exec (.sld m f) s = .next (c.fail { code := e.2, addr := reported f.spc a, mask := c.leg.e0 }))
        ∧ (let q := (widenElem f.ty).2
          let skip := fun (l : Nat) => match f.am with | .v _ => 0 | _ => q * l
          ∀ as, c.laneAddrs f 0 = .ok as → (∀ x ∈ as, ∃ v, c.widenLane f.spc x.2 (skip x.1) q = .ok v) →
            Roomy c c.w.ww → (c.oldDst f.dv).expand.length = c.w.ww →
            ∃ c' : Ctx, exec (.vldW m f) s = .next (c'.advance loadShape m) ∧ c'.w = c.w ∧ c'.s.mem = c.s.mem
              ∧ (c.s.errs = [] → c.s.poison = [] → ∀ x ∈ as, ∀ lf pl i,
                  c.widenLane f.spc x.2 (skip x.1) q = .ok (lf, pl, i) →
                  (lf.loc = 1 → c.s.cxlUp.getLsbD lf.dev.toNat = true) →
                  lane (c'.oldDst f.dv).expand x.1 = BitVec.ofNat 32 (packBits (32 / q) ((List.range q).map fun h =>
                    ((widenElem f.ty).1.encode .rne false (pl.value c.s.mem lf.baseKey (i + h))).1))))
        ∧ (∀ t, c.vldW f = .error t → exec (.vldW m f) s = .next (c.fail t))
        ∧ (let n := tyBytes f.ty
          ∀ qs, c.windowOffs f n = .ok qs → (c.window f.areg).2 ≠ 0 →
            (∀ x ∈ qs, ∃ ps, (c.windowAt (c.window f.areg) x.1 x.2 n).2 = .ok ps) → Roomy c (n / 4 * c.w.ww) →
            (∀ j, j < n / 4 → (c.oldDst (selAt f.dv j)).expand.length = c.w.ww) →
            ∃ c' : Ctx, exec (.vldp m f) s = .next (c'.advance loadShape m) ∧ c'.s = c.s ∧ c'.w = c.w
              ∧ c'.leg.pwb = (c.leg.pwb || qs.any fun x => decide ((c.window f.areg).2 < x.2 + n))
              ∧ ∀ x ∈ qs, ∀ ps, (c.windowAt (c.window f.areg) x.1 x.2 n).2 = .ok ps → ∀ j, j < n / 4 →
                lane (c'.oldDst (selAt f.dv j)).expand x.1
                  = BitVec.ofNat 32 (leNat (readPieces c.s.mem ps) / 2 ^ (32 * j)))
        ∧ ((c.window f.areg).2 = 0 → ∀ qs, c.windowOffs f (tyBytes f.ty) = .ok qs →
            exec (.vldp m f) s = .next (c.fail (c.trapHere 0x8001)))
        ∧ (∀ c', c.sldp f = .ok c' → exec (.sldp m f) s = .next (c'.advance loadShape m))
        ∧ ((c.window f.areg).2 = 0 → ∀ o, f.am = .off o →
            exec (.sldp m f) s = .next (c.fail (c.trapHere 0x8001)))
        ∧ (∀ o d, (c.window f.areg).2 ≠ 0 → f.am = .off o → f.dv = .s d → o.toNat % tyBytes f.ty = 0 →
            (c.window f.areg).2 ≤ o.toNat →
            exec (.sldp m f) s = .next ((({ c with leg := { c.leg with pwb := true } } : Ctx).setNat d 0
              (tyBytes f.ty / 4)).advance loadShape m)))

/-- R239, R39: STORES. A store is held in the leg with the bytes and the place of each active lane, and changes no byte
before the commit; of a leg that ends with it, the commit writes exactly those bytes: every byte outside the pieces
located for its lanes reads as before. A store to CXL memory or to another device waits at the marker for its answer (R419, R420);
FADDR of a bare private offset is its generic address (R193). -/
def Obligations.Stores : Prop :=
  ∀ (s : State) (c : Ctx) (m : Bool) (f : LM), Issues s c storeShape m →
    (∀ v as ps, c.laneNats f.dv (tyBytes f.ty / 4) = .ok v → c.laneAddrs f (tyBytes f.ty) = .ok as →
        c.locate f false as (tyBytes f.ty) .write c.s.storeFault = .ok ps →
        ∃ c' : Ctx, exec (.vst m f) s = .next (c'.advance storeShape m) ∧ c'.s = c.s ∧ c'.w = c.w
          ∧ ∃ o, c'.leg = { c.leg with out := c.leg.out ++ o, stores := c.leg.stores ++ ps.map fun p =>
              ⟨p.2.pieces, leBytes (v.getD p.1 0) (tyBytes f.ty), c.w.asid,
                reported f.spc (((as.find? (·.1 == p.1)).map (·.2)).getD 0)⟩ }
            ∧ ((∀ x ∈ ps, ∀ q ∈ x.2.pieces, q.owner? = none) → o = [])
            ∧ (∀ x ∈ ps, ∀ q ∈ x.2.pieces, ∀ u, q.owner? = some u → ∃ r ∈ o, r.host = false ∧ r.cxl = u.1 ∧ r.dev = u.2
              ∧ r.lanes.any (fun l => l.1 == x.1) = true))
      ∧ (∀ as t, c.laneAddrs f (tyBytes f.ty) = .ok as → (∃ v, c.laneNats f.dv (tyBytes f.ty / 4) = .ok v) →
        c.locate f false as (tyBytes f.ty) .write c.s.storeFault = .error t → exec (.vst m f) s = .next (c.fail t))
      ∧ (∀ r v a p, f.dv = .s r → c.scalarNat r (tyBytes f.ty / 4) = .ok v → c.base f = .ok a →
        c.s.locate c.w f.spc true 0 a (tyBytes f.ty) (tyBytes f.ty) .write = .ok p → c.s.storeFault p.pieces = none →
        (∃ (c' : Ctx) (o : List OutRead), exec (.sst m f) s = .next (c'.advance storeShape m)
          ∧ c' = { c with leg := { c.leg with out := c.leg.out ++ o, stores := c.leg.stores ++
              [⟨p.pieces, leBytes v (tyBytes f.ty), c.w.asid, reported f.spc a⟩] } }
          ∧ ((∀ q ∈ p.pieces, q.owner? = none) → o = [])
          ∧ (∀ q ∈ p.pieces, ∀ u, q.owner? = some u → ∃ r ∈ o, r.host = false ∧ r.cxl = u.1 ∧ r.dev = u.2))
        ∧ (m = true → MayClose s c → Memory.wf c.s.mem = true → (∀ q ∈ p.pieces, q.owner? = none) →
          ∃ t, exec (.sst m f) s = .next t
          ∧ t.mem = (c.s.performStores [⟨p.pieces, leBytes v (tyBytes f.ty), c.w.asid, reported f.spc a⟩]).mem
          ∧ (∀ k, (∀ q ∈ p.pieces, k < q.key ∨ q.key + q.len ≤ k) → Memory.get t.mem k = Memory.get c.s.mem k)
          ∧ OtherWaves c t ∧ ∃ w, t.wave? c.w.id = some w ∧ w.regs = c.w.regs.commit (c.written []) c.w.ww))

/-- R244: what each operation of an atomic leaves in memory. R244, R245: ATOMICS on the device's own memory, as their
leg's commit: the lanes in increasing order, each seeing the results of the lanes before it; the destination receives
the old values; every byte outside the located ones reads as before. -/
def Obligations.Atomics : Prop :=
  (∀ (t : LTy) (n old v x : Nat), n = 4 ∨ n = 8 ∨ n = 16 → old < 2 ^ (8 * n) → v < 2 ^ (8 * n) →
      (t ≠ .f32 → atomNew .add t n old v x = (old + v) % 2 ^ (8 * n))
        ∧ (t = .f32 → atomNew .add t n old v x = fp32.addBits .rne false old v)
        ∧ atomNew .and t n old v x = old &&& v ∧ atomNew .or t n old v x = old ||| v
        ∧ atomNew .xor t n old v x = old ^^^ v ∧ atomNew .swap t n old v x = v
        ∧ atomNew .cas t n old v x = (if old = x then v else old)
        ∧ (t = .i32 ∨ t = .i64 → sintOf (8 * n) (atomNew .min t n old v x) = min (sintOf (8 * n) old) (sintOf (8 * n) v)
            ∧ sintOf (8 * n) (atomNew .max t n old v x) = max (sintOf (8 * n) old) (sintOf (8 * n) v))
        ∧ (t = .n32 ∨ t = .n64 → atomNew .min t n old v x = min old v ∧ atomNew .max t n old v x = max old v))
    ∧ (∀ (s : State) (c : Ctx) (f : LM), MayClose s c → Memory.wf c.s.mem = true →
      (∀ (i : Instr) (op : AtomOp), (i, op) ∈ [(Instr.vatomAdd true f, AtomOp.add), (.vatomAnd true f, .and),
          (.vatomOr true f, .or), (.vatomXor true f, .xor), (.vatomMin true f, .min), (.vatomMax true f, .max),
          (.vatomSwap true f, .swap), (.vatomCas true f, .cas)] →
          ∀ ls c', c.vatom op f = .ok c' → c'.s = c.s → c'.w = c.w →
            c'.leg.closing = some (.atomic false op f.ty (atomBytes op f.ty) f.dv ls) →
            c'.leg.short = false → (∀ l ∈ ls, ∀ p ∈ l.pieces, p.far? = none) →
            ∃ t w, exec i s = .next t ∧ t.wave? c.w.id = some w
              ∧ t.mem = (atomRun op f.ty (atomBytes op f.ty) 0 0 ls c.s.mem).2
              ∧ w.regs = c.w.regs.commit (c'.atomResult f.dv (atomRun op f.ty (atomBytes op f.ty) 0 0 ls c.s.mem).1
                  (atomBytes op f.ty / 4)).leg c.w.ww
              ∧ (∀ k, (∀ l ∈ ls, ∀ p ∈ l.pieces, k < p.key ∨ p.key + p.len ≤ k) →
                  Memory.get t.mem k = Memory.get c.s.mem k))
        ∧ (∀ (i : Instr) (op : AtomOp), (i, op) ∈ [(Instr.satomAdd true f, AtomOp.add), (.satomAnd true f, .and),
          (.satomOr true f, .or), (.satomXor true f, .xor), (.satomMin true f, .min), (.satomMax true f, .max),
          (.satomSwap true f, .swap), (.satomCas true f, .cas)] →
          ∀ a d l c', c.base f = .ok a → f.dv = .s d → c.satom op f = .ok c' →
            c'.leg.closing = some (.atomic true op f.ty (atomBytes op f.ty) f.dv [l]) → (∀ p ∈ l.pieces, p.far? = none) →
            let n := atomBytes op f.ty
            let old := leNat (readPieces c.s.mem l.pieces)
            ∃ t, exec i s = .next t
              ∧ t.mem = writePieces c.s.mem l.pieces (leBytes (atomNew op f.ty n old (l.v.toNat % 2 ^ (8 * n))
                  (l.c.toNat % 2 ^ (8 * n))) n)
              ∧ Committed c ((c.setNat d old (n / 4)).leg.sw.take (n / 4)) (c.pathAt (c.pc + 12)
                  ((c.setNat d old (n / 4)).leg.sw.take (n / 4))) t
              ∧ (∀ k, (∀ p ∈ l.pieces, k < p.key ∨ p.key + p.len ≤ k) → Memory.get t.mem k = Memory.get c.s.mem k)))

/-- R249: CLAIM: the chunk it takes, what it writes into the record and its registers, and the faults of its table in
their order. -/
def Obligations.ClaimTakesItsChunk : Prop :=
  ∀ (s : State) (c : Ctx) (f : LM) (a : DWord) (r d : SReg) (lim : Word),
    Issues s c atomShape true → f.sv = .s r → f.dv = .s d → c.getS r = .ok lim → c.base f = .ok a →
    let fails := fun (e : BitVec 16) => exec (.claim true f) s = .next (c.fail (c.trap e a))
    (windowOf a = none → fails 0x1103)
      ∧ (∀ v, windowOf a = some v → v ≠ .glob → fails 0x1104)
      ∧ (windowOf a = some .glob → (f.spc = .x ∨ f.spc = .g) →
          (∀ l, c.s.leaf? c.w.asid a = some l → l.p = true → l.loc = 3 → fails 0x0104)
          ∧ ((∀ l, c.s.leaf? c.w.asid a = some l → l.p = true → l.loc ≠ 3) → a.toNat % 16 ≠ 0 → fails 0x0201)
          ∧ (∀ p, (∀ l, c.s.leaf? c.w.asid a = some l → l.p = true → l.loc ≠ 3) → a.toNat % 16 = 0 →
              c.s.translate c.w.asid a 16 .atomic = .ok p → p.far? = none → c.s.readFault [p] = none → MayClose s c →
              let b := fun k => leNat (Memory.read c.s.mem (p.key + 4 * k) 4)
              let rem := if b 1 > b 0 then b 1 - b 0 else 0
              let p' := max 1 (b 3)
              let chunk := max (max 1 (b 2)) ((rem + 2 * p' - 1) / (2 * p'))
              let cnt := if lim = 0 then min chunk rem else min (min chunk rem) lim.toNat
              ∃ t, exec (.claim true f) s = .next t
                ∧ t.mem = Memory.write c.s.mem p.key (leBytes (b 0 + cnt) 4 ++ Memory.read c.s.mem (p.key + 4) 12)
                ∧ Committed c [(d + 1, BitVec.ofNat 32 cnt), (d, BitVec.ofNat 32 (b 0))]
                    (c.pathAt (c.pc + 12) [(d + 1, BitVec.ofNat 32 cnt), (d, BitVec.ofNat 32 (b 0))]) t))

/-! ## Control -/

/-- R330, R331, R335: BR, BRZ and JMP move the whole path; a target that JMP computed is checked by the first leg there
(R322); YIELD with no running entry goes on. Nothing but the wave changes. -/
def Obligations.BranchesMoveThePath : Prop :=
  ∀ (s : State) (c : Ctx),
    MayClose s c → ∀ (off : BitVec 17) (a : SReg) (x : Word) (b : AReg) (y : DWord), c.getS a = .ok x → c.getA b = .ok y →
      let target := c.pc + BitVec.ofInt 64 (4 * off.toInt)
      let goes := fun (i : Instr) (q : Path) =>
        ∃ t, exec i s = .next t ∧ Committed c [] q t ∧ OtherWaves c t ∧ SameButWaves c.s t
      goes (.br true off) (c.pathAt target []) ∧ goes (.brz true a off) (c.pathAt (if x = 0 then target else c.pc + 4) [])
        ∧ goes (.jmp true b) { c.pathAt y [] with jumped := some y } ∧ goes (.yield true) (c.pathAt (c.pc + 4) [])

/-- R334: LAND changes nothing where it is the first instruction of its leg, however the path came there, and raises
0x0104 anywhere else; a computed jump whose target is aligned, canonical and holds a LAND takes no target fault. NOP changes
nothing either (R337). -/
def Obligations.LandChangesNothing : Prop :=
  ∀ (s : State) (c : Ctx) (m : Bool), Issues s c plainShape m →
    exec (.nop m) s = .next (c.advance plainShape m)
      ∧ (c.pc = c.leg.start → exec (.land m) s = .next (c.advance plainShape m))
      ∧ (c.pc ≠ c.leg.start → exec (.land m) s = .next (c.fail (c.trapHere 0x0104)))
      ∧ (∀ (w : Word) (n : Bool), c.path.jumped = some c.leg.start → c.leg.start.extractLsb' 0 2 = 0 →
        c.leg.start.extractLsb' 52 12 = 0 → c.fetchWord 0 = .ok w → decodeWords w 0 0 = some (.land n) → c.targetFault = none)
      ∧ (c.advance plainShape false).mem = c.s.mem
      ∧ (c.leg.short = false →
        ∃ w, c.advance plainShape false = c.s.setWave w ∧ w.regs = c.w.regs ∧ ∀ k, (w.slot k).path = (c.w.slot k).path)

/-- R314, R315, R331: BRV splits its path by a mask and JMPV by the lanes' targets, as `split` and `jumpLanes` give
(SplitsFollowTheRules); with E empty JMPV goes on. The Hamper writes new stack entries, which a fault of the save area
can stop (R327). R314: a split: nothing of it without taken lanes; no split when all lanes are taken; else the taken
side is a new path at the target with P and E the taken lanes, the other keeps the rest, and the side with fewer
active lanes leaves the slot, the taken side on a tie. R315, R332: computed targets and returns: every lane finds
itself on one path whose PC is the lane's own target: an active lane's address value, or for RET the lane's link
address, one depth lower. -/
def Obligations.DivergentBranches : Prop :=
  (∀ (s : State) (c : Ctx) (n : MBase) (off : BitVec 17) (M : Mask) (a : VReg) (v : Lanes64),
      MayClose s c → (c.w.slot c.k).legs + 1 < 4096 → (c.w.slot c.k).inHandler = false → c.getM n = .ok M →
      c.lanes64 (.v a) 0 false = .ok v →
      let q := c.pathAt (c.pc + 4) []
      let splits := fun (i : Instr) (f : Wave → Wave) =>
        ∃ t u w h st, exec i s = .next t ∧ (u.slot c.k).path = some q ∧ u.stack = [] ∧ u.regs = c.w.regs.commit (c.written []) c.w.ww
          ∧ (u.slot c.k.other).path = (c.w.slot c.k.other).path ∧ f u = w
          ∧ t.wave? c.w.id = some { w with hamper := h, stack := st } ∧ st.map StackEntry.plain = w.stack.map StackEntry.plain
          ∧ OtherWaves c t
      splits (.brv true n off) (fun u => u.split c.k q c.leg.e0 (c.leg.e0 &&& M) (c.pc + BitVec.ofInt 64 (4 * off.toInt)))
        ∧ splits (.jmpv true a) (fun u => if c.active = [] then u else
            u.jumpLanes c.k q c.leg.e0 q.dep (c.active.map fun l => (l, v.vals.getD l 0))))
    ∧ (∀ (w : Wave) (k : SlotId) (p : Path) (e0 t : Mask) (target : DWord), (w.slot k).path = some p →
      t &&& e0 = t → e0 &&& p.p = e0 →
      let taken : Path := { p with pc := target, p := t, e := t }
      let fall : Path := { p with p := p.p &&& ~~~t, e := p.e &&& ~~~t }
      (t = 0 → w.split k p e0 t target = w)
        ∧ (t ≠ 0 → t = e0 → ((w.split k p e0 t target).slot k).path = some { p with pc := target }
            ∧ (w.split k p e0 t target).stack = w.stack)
        ∧ (t ≠ 0 → t ≠ e0 → ((w.split k p e0 t target).slot k).path
              = some (if maskCount t ≤ maskCount (e0 &&& ~~~t) then fall else taken)
            ∧ ((w.slot k.other).path = none → ((w.split k p e0 t target).slot k.other).path
                = some (if maskCount t ≤ maskCount (e0 &&& ~~~t) then taken else fall) ∧ (w.split k p e0 t target).stack = w.stack)
            ∧ ((w.slot k.other).path ≠ none → (w.split k p e0 t target).slot k.other = w.slot k.other
              ∧ ∃ e : StackEntry, (w.split k p e0 t target).stack = w.stack ++ [e] ∧ e.join = none
                ∧ e.path = if maskCount t ≤ maskCount (e0 &&& ~~~t) then taken else fall))
        ∧ (w.split k p e0 t target).live = w.live)
    ∧ (∀ (w : Wave) (k : SlotId) (p : Path) (e0 : Mask) (l : Nat), (w.slot k).path = some p → l < w.ww → w.ww ≤ 96 →
      let holds := fun (u : Wave) (q : Path) =>
        (u.slot k).path = some q ∨ (u.slot k.other).path = some q ∨ ∃ e ∈ u.stack, e.path = q
      (∀ ts : List (Nat × DWord), (ts.map (·.1)).Nodup → (∀ x ∈ ts, x.1 < 96 ∧ e0.getLsbD x.1 = true ∧ p.p.getLsbD x.1 = true) →
          ∀ x ∈ ts, x.1 = l → ∃ q, holds (w.jumpLanes k p e0 p.dep ts) q ∧ q.pc = x.2 ∧ q.p.getLsbD l = true
            ∧ q.e.getLsbD l = true ∧ q.dep = p.dep ∧ q.jumped = some x.2 ∧ q.brk = p.brk)
        ∧ (p.p.getLsbD l = true → ∃ q, holds (w.returnLanes k p e0) q
            ∧ q.pc = laneAddr (linkExpand (w.regs.img p.dep.toNat).link) l ∧ q.p.getLsbD l = true
            ∧ q.e.getLsbD l = p.e.getLsbD l ∧ q.dep = p.dep - 1 ∧ q.brk = p.brk))

/-- R320, R331 (and, for what a fill answers, the model's reading of R320 and R326 in log entries 28 and 29): CALL and
CALLV write the link vector of the depth below on every lane of P with the address after the call and go one depth
down; a call that does not fit, or at depth 65,535, takes 0x0401 with nothing done; one on some of the lanes of a
spilled link vector waits for its fill, whose fault it takes; CALLV with E empty makes no call. R320, R326, R332 (the
working set that a RET fills and the address of its 0x0301 are the model's reading of R326 and R327, log entries 28
and 29): RET sends the lanes of P to their link addresses one depth up, here all to one; at depth 0 it takes 0x0104,
and the fault of a fill that its working set needs, 0x0301 at the RET's own address; one whose link vector holds an
error takes 0x2001, or 0x2002 once it has been found (R411). -/
def Obligations.CallsAndReturns : Prop :=
  (∀ (s : State) (c : Ctx) (off : BitVec 17) (a : VReg) (v : Lanes64) (target : DWord),
      MayClose s c → (c.w.slot c.k).legs + 1 < 4096 → (c.w.slot c.k).inHandler = false →
      c.lanes64 (.v a) 0 false = .ok v → (∀ l ∈ c.active, v.vals.getD l 0 = target) →
      let q := c.pathAt (c.pc + 4) []
      let calls := fun (i : Instr) (dest : Path) =>
        ∃ t w, exec i s = .next t ∧ t.wave? c.w.id = some w ∧ (w.slot c.k).path = some dest ∧ w.stack = []
          ∧ (∀ l, l < c.w.ww → c.path.p.getLsbD l = true →
              laneAddr (linkExpand (w.regs.img (c.path.dep.toNat + 1)).link) l = c.pc + 4)
          ∧ (w.regs.img c.path.dep.toNat).regs = ((c.w.regs.commit (c.written []) c.w.ww).img c.path.dep.toNat).regs
          ∧ OtherWaves c t
      (c.s.callRefused c.w c.path.dep.toNat = true →
          exec (.call true off) s = .next (c.fail (c.trapHere 0x0401))
          ∧ (c.active ≠ [] → exec (.callv true a) s = .next (c.fail (c.trapHere 0x0401))))
        ∧ (c.s.callRefused c.w c.path.dep.toNat = false → c.path.dep.toNat < c.w.regs.imgs.length →
          (∃ c', c.reserve (c.w.callSlots c.path.dep.toNat c.path.p fun _ => c.pc + 4) = .ok c' ∧ c'.s = c.s ∧ c'.w = c.w
            ∧ c'.leg.short = false) →
          c.w.regs.imgs.length ≤ c.path.dep.toNat + 1 ∨ c.w.regs.resident (.link (c.path.dep.toNat + 1)) = true
            ∨ c.path.p = Mask.below c.w.ww →
          calls (.call true off) { q with pc := c.pc + BitVec.ofInt 64 (4 * off.toInt), dep := c.path.dep + 1 }
          ∧ (c.active ≠ [] → calls (.callv true a) ⟨target, maskOf c.active ||| (q.p &&& ~~~c.leg.e0), maskOf c.active,
              q.dep + 1, q.brk, some target⟩))
        ∧ (∀ c' e x ls, c.s.callRefused c.w c.path.dep.toNat = false →
          c.reserve (c.w.callSlots c.path.dep.toNat c.path.p fun _ => c.pc + 4) = .ok c' → c'.s = c.s → c'.w = c.w →
          c'.leg.short = false →
          let cl : Closing := .call (c.pc + BitVec.ofInt 64 (4 * off.toInt))
          (c'.marked cl closeShape).fillLink (c'.markedWave cl closeShape) c.path c'.leg.resv = .error (.fault e x ls) →
          exec (.call true off) s = .next ((c'.marked cl closeShape).takeFault (c'.markedWave cl closeShape) c.k
            { code := e, addr := if e = 0x0301 then c.pc else x, mask := c.leg.e0, poison := ls } c.leg.start))
        ∧ (c.active = [] → ∃ t, exec (.callv true a) s = .next t ∧ Committed c [] q t))
    ∧ (∀ (s : State) (c : Ctx), MayClose s c → (c.w.slot c.k).legs + 1 < 4096 →
      (∀ found, c.w.regs.bad.find? (fun x => x.1 == .link c.path.dep.toNat) = some (.link c.path.dep.toNat, found) →
          ∃ addr, exec (.ret true) s = .next (c.fail
            { code := if found then 0x2002 else 0x2001, addr := addr, mask := c.leg.e0,
              reg := some (.link c.path.dep.toNat) }))
        ∧ ((∀ x ∈ c.w.regs.bad, x.1 ≠ .link c.path.dep.toNat) →
          (c.path.dep = 0 → exec (.ret true) s = .next ((c.marked (.ret c.pc) closeShape).takeFault
              (c.markedWave (.ret c.pc) closeShape) c.k { code := 0x0104, addr := c.pc, mask := c.leg.e0 } c.leg.start))
            ∧ (∀ e x ls, c.path.dep ≠ 0 → (c.w.slot c.k).inHandler = false → c.w.hamper = none →
              let cl : Closing := .ret c.pc
              (c.marked cl closeShape).fillBelow (c.markedWave cl closeShape) c.k c.path.dep c.leg.resv
                = .error (.fault e x ls) →
              exec (.ret true) s = .next ((c.marked cl closeShape).takeFault (c.markedWave cl closeShape) c.k
                { code := e, addr := if e = 0x0301 then c.pc else x, mask := c.leg.e0, poison := ls } c.leg.start))
            ∧ (∀ a, c.path.dep ≠ 0 → (lanesOf c.path.p c.w.ww) ≠ [] → c.leg.vw = [] →
              (∀ l ∈ lanesOf c.path.p c.w.ww, laneAddr (linkExpand (c.w.regs.img c.path.dep.toNat).link) l = a) →
              (∀ r ∈ c.w.regs.records, r.inSet (c.path.dep.toNat - 1) = true → c.w.regs.resident r = true) →
              let q := c.pathAt a []
              let ls := maskOf (lanesOf c.path.p c.w.ww)
              ∃ t, exec (.ret true) s = .next t ∧ OtherWaves c t
                ∧ Committed c [] ⟨q.pc, ls, q.e &&& ls, c.path.dep - 1, q.brk, q.jumped⟩ t)))

/-- R318, R333: JOIN: a path that covers its expected set goes on; one that does not waits in a new entry, and its
slot is free. Merging with the entry of the address joins lanes, and completes when the expected lanes that live are
all there; different depths, lanes outside the recorded set and different brackets are refused. R338: EXIT: the path's
active lanes leave it; a path with lanes left goes on without active lanes; a path without lanes ends and its slot is
free; and when no lane of the wave lives and no engine command of it is open, the wave retires. -/
def Obligations.JoinsAndExits : Prop :=
  ((∀ (s : State) (c : Ctx) (n : MBase) (M : Mask), MayClose s c → c.getM n = .ok M →
        (c.w.slot c.k).legs + 1 < 4096 →
        (M &&& c.w.live &&& ~~~c.path.p = 0 → ∃ t, exec (.join true n) s = .next t ∧ Committed c [] (c.pathAt (c.pc + 4) []) t)
          ∧ (M &&& c.w.live &&& ~~~c.path.p ≠ 0 → ∃ t w e, exec (.join true n) s = .next t ∧ t.wave? c.w.id = some w
            ∧ (w.slot c.k).path = none ∧ w.stack = [e] ∧ e.path = c.pathAt (c.pc + 4) [] ∧ e.join = some (c.pc, M)))
      ∧ (∀ (w : Wave) (k : SlotId) (p : Path) (m jm : Mask) (j : DWord) (i : Nat) (e : StackEntry),
        (w.slot k).path = some p → w.joinEntry j = some (i, e, jm) →
        (w.joinRefused p j = true ↔ e.path.dep ≠ p.dep ∨ p.p &&& ~~~jm ≠ 0
            ∨ ∃ a b, p.brk = some a ∧ e.path.brk = some b ∧ a ≠ b)
          ∧ (jm &&& w.live &&& ~~~(p.p ||| e.path.p) = 0 → ((w.joinAt k p m j).slot k).path = some ⟨p.pc, p.p ||| e.path.p,
                p.e ||| e.path.e, p.dep, if p.brk.isSome then p.brk else e.path.brk, p.jumped⟩
              ∧ (w.joinAt k p m j).stack = w.stack.eraseIdx i)
          ∧ (w.joinAt k p m j).live = w.live))
    ∧ (∀ (s : State) (c : Ctx), MayClose s c →
      let q := c.pathAt (c.pc + 4) []
      (c.path.p &&& ~~~c.leg.e0 ≠ 0 → ∃ t, exec (.exit true) s = .next t ∧ OtherWaves c t ∧ SameButWaves c.s t
          ∧ Committed c [] { q with p := c.path.p &&& ~~~c.leg.e0, e := 0 } t)
        ∧ (∀ r, c.path.p &&& ~~~c.leg.e0 = 0 → (c.w.slot c.k.other).path = some r → r.p &&& ~~~c.leg.e0 ≠ 0 →
          c.path.brk = none → ∃ t w, exec (.exit true) s = .next t ∧ t.wave? c.w.id = some w ∧ w.slot c.k = Slot.empty
            ∧ (w.slot c.k.other).path = some r ∧ OtherWaves c t ∧ SameButWaves c.s t)
        ∧ (c.path.p &&& ~~~c.leg.e0 = 0 → (c.w.slot c.k.other).path = none → c.path.brk = none →
          c.s.basaltOf c.w.id = [] → c.s.porterOf c.w.id = [] →
          ∃ t, exec (.exit true) s = .next t ∧ t.wave? c.w.id = none))

/-- R311, R316, R317, R335: rotation: the slot's path goes to the newest end of the stack and the oldest running entry takes
the slot, its leg count starting again; SLOT_ROTATION does it for a slot between legs that has committed 4,096 of them, and
the path is what the Hamper reads back when memory held its entry. -/
def Obligations.RotationTakesTheOldest : Prop :=
  (∀ (w : Wave) (k : SlotId) (p : Path) (e : StackEntry) (rest : List StackEntry), (w.slot k).path = some p →
      w.stack = e :: rest → e.join = none → e.held = false →
      ((w.rotate k).slot k).path = some e.path ∧ ((w.rotate k).slot k).legs = e.due.legs
        ∧ ((w.rotate k).slot k).leg = e.due.leg ∧ (w.rotate k).slot k.other = w.slot k.other
        ∧ (∃ x, (w.rotate k).stack = rest ++ [x] ∧ x.path = p ∧ x.join = none) ∧ (w.rotate k).live = w.live)
    ∧ (∀ (s : State) (w : Wave) (k : SlotId) (p : Path) (e : StackEntry) (rest : List StackEntry), s.wave? w.id = some w →
      4096 ≤ (w.slot k).legs → (w.slot k).path = some p → w.stack = e :: rest → e.join = none → e.held = false →
      (w.slot k).leg = none → (w.slot k).inHandler = false → w.state ≠ .suspended → w.s0.took = none → w.s1.took = none →
      ∃ t v, exec (.slotRotation w.id k) s = .next t ∧ t.wave? w.id = some v ∧ (e.mem = none → v.regs = w.regs)
        ∧ (e.mem = none → (v.slot k).path = some e.path)
        ∧ (∀ i ps q, e.mem = some i → w.hamper = none → s.saveArea w (w.entryAddr i) 64 false = .ok ps →
          s.readFault ps = none → readEntry w.ww e.path.jumped (readPieces s.mem ps) 0 = some (some (q, none)) →
          q.dep.toNat < w.regs.imgs.length → v.regs = w.regs ∧
          (v.slot k).path = some (q.keepTarget (some e.path))))
    ∧ (∀ (s : State) (w : Wave) (k : SlotId), s.wave? w.id = some w → s.agedSlot w.core w.quad = some (w, k) →
      exec (.issueAgePriority w.id k) s = .next { s with agenda := .issue w.id k :: s.agenda })

/-- R336: WAITV reads its word at the marker: a value unlike sB is written to sD; otherwise the leg stays parked, and
WAITV_RECHECK finds the word by its address and reads it again. -/
def Obligations.WatchedWords : Prop :=
  ∀ (s : State) (c : Ctx) (d : SReg) (a : AReg) (b : SReg) (x : DWord) (y : Word) (p : Place),
    MayClose s c → c.getA a = .ok x → c.getS b = .ok y → c.s.locate c.w .x true 0 x 4 4 .read = .ok p →
    (∀ q ∈ p.pieces, q.far? = none) → c.s.readFault p.pieces = none →
    let v : Word := BitVec.ofNat 32 (leNat (readPieces c.s.mem p.pieces))
    (v ≠ y → ∃ t, exec (.waitv true d a b) s = .next t ∧ OtherWaves c t ∧ SameButWaves c.s t
        ∧ Committed c [(d, v)] (c.pathAt (c.pc + 4) [(d, v)]) t)
      ∧ (v = y → ∃ t w leg, exec (.waitv true d a b) s = .next t ∧ t.wave? c.w.id = some w
          ∧ (w.slot c.k).path = some c.path ∧ (w.slot c.k).leg = some leg ∧ leg.parked = true
          ∧ leg.closing = some (.waitv d y x) ∧ w.regs = c.w.regs ∧ SameButWaves c.s t
          ∧ (∀ (u : State) (p' : Place) (z : Word), u.waves = t.waves → c.leg.passed = false →
              u.locate w .x true 0 x 4 4 .read = .ok p' → u.readFault p'.pieces = none →
              z = BitVec.ofNat 32 (leNat (readPieces u.mem p'.pieces)) → z ≠ y →
              ∃ t', exec (.waitvRecheck c.w.id c.k) u = .next t'
                ∧ Committed c [(d, z)] (c.pathAt (c.pc + 4) [(d, z)]) t'))

/-! ## Launches, the Hamper, barriers -/

/-- R17, R299 to R302, R339 to R341, R304: LAUNCH and LAUNCHQ give the record to the Guide, and sD receives 0 or the
reason of the refusal: 0x0009 for a record that cannot be read, 0x0002 and 0x0008 as R340 and R341 say. The leg stays
parked while the Guide's rotation is at another partition; a LAUNCHQ waits for a cairn of its world that is being
applied, and keeps the stage at which it came and its place among those that wait (R277, R271). The posted writes come
before the Guide reads the record (R232). R339: the address operand of LAUNCH and LAUNCHQ must be global and aligned.
-/
def Obligations.Launches : Prop :=
  (∀ (s : State) (c : Ctx) (d : SReg) (a : AReg) (x : DWord) (query : Bool),
      MayClose s c → c.getA a = .ok x → windowOf x = some .glob → x.toNat % 64 = 0 →
      let u := c.marked (.launch query d x) closeShape
      let w := c.markedWave (.launch query d x) closeShape
      let leg := c.markedLeg (.launch query d x) closeShape
      let i : Instr := if query then .launchq true d a else .launch true d a
      let r := u.drain.acceptLaunch c.w.asid c.w.part query true none x
      let v : Word := r.2.zeroExtend 32
      let open_ := query = true → u.queryBusy w c.k leg x = none
      (open_ → u.guideFree c.w.part = true →
          ∃ t, exec i s = .next t ∧ Committed c [(d, v)] (c.pathAt (c.pc + 4) [(d, v)]) t
            ∧ t = { (if r.2 = 9 then u.drain.unreadLaunch c.w.asid c.w.part x else r.1) with
                waves := t.waves, guideLast := c.w.part })
        ∧ (open_ → u.guideFree c.w.part = false → exec i s = .next u)
        ∧ (∀ wd, query = true → u.queryBusy w c.k leg x = some wd → exec i s = .next (u.setWave (w.setLeg c.k
              { leg with cwait := some wd, cstage := ((u.world? wd).map (·.stage)).getD 0, cseq := u.tick })))
        ∧ (u.drain.readRecord c.w.asid x 256 = none → r = (u.drain, 9))
        ∧ (∀ b, u.drain.readRecord c.w.asid x 256 = some b → (r.2 = 0 ∨ r.2 = 1 ∨ r.2 = 2 ∨ r.2 = 3 ∨ r.2 = 4 ∨ r.2 = 5 ∨ r.2 = 6
            ∨ r.2 = 7 ∨ r.2 = 8) ∧ (r.2 ≠ 0 → ∃ l ∈ r.1.launches, l.addr = x ∧ l.asid = c.w.asid ∧ l.part = c.w.part
            ∧ l.state = .refused ∧ l.reason = r.2))
        ∧ (∀ b, u.drain.readRecord c.w.asid x 256 = some b → (parseLaunch b).reserved = false →
            (query = false → (parseLaunch b).nwave = 0 → r.2 = 2) ∧ (query = true → (parseLaunch b).nwave ≠ 0 → r.2 = 2)))
    ∧ (∀ (s : State) (c : Ctx) (d : SReg) (a : AReg) (x : DWord), MayClose s c → c.getA a = .ok x →
      ∀ i ∈ [Instr.launch true d a, .launchq true d a],
        (windowOf x = none → exec i s = .next (c.fail (c.trap 0x1103 x)))
          ∧ (∀ w, windowOf x = some w → w ≠ .glob → exec i s = .next (c.fail (c.trap 0x1104 x)))
          ∧ (windowOf x = some .glob → x.toNat % 64 ≠ 0 → exec i s = .next (c.fail (c.trap 0x0201 x))))

/-- R324, R325, R328, R343: WSYNC goes on when no Hamper access of the wave is stopped, WFLUSH when its spills are
done too; either reports a stopped access with its token, and waits while the handler of a reported one runs.
HAMPER_SPILL spills the first candidate: its record is written whole and its register is no longer resident. R119,
R324: a register survives its record: what the Hamper writes for a register of WW lanes reads back as the same runs,
and a record whose count or padding is wrong reads back as none. -/
def Obligations.HamperSynchronisation : Prop :=
  (∀ (s : State) (c : Ctx), MayClose s c →
      (c.w.hamper = none → ∃ t, exec (.wsync true) s = .next t ∧ Committed c [] (c.pathAt (c.pc + 4) []) t
          ∧ SameButWaves c.s t)
        ∧ (∀ (f : Bool) (h : HamperStop), c.w.hamper = some h → h.reported = true →
          (c.w.s0.inHandler = true ∨ c.w.s1.inHandler = true) →
          exec (if f then .wflush true else .wsync true) s = .next (c.marked (.wsync f) closeShape))
        ∧ (∀ (f : Bool) (h : HamperStop), c.w.hamper = some h → h.reported = false → c.w.faultHolds c.k = false → ∃ u w,
          exec (if f then .wflush true else .wsync true) s = .next (u.takeFault w c.k
            { code := h.code, addr := h.addr, mask := c.leg.e0, tok := some h.tok } c.leg.start)
          ∧ w.hamper = some { h with reported := true } ∧ SameButWaves c.s u)
        ∧ (c.w.hamper = none → c.w.candidates = [] → ∃ t, exec (.wflush true) s = .next t
          ∧ Committed c [] (c.pathAt (c.pc + 4) []) t)
        ∧ (∀ (w : Wave) (r : SaveRec) (rest : List SaveRec) (ps : List Piece), s.wave? w.id = some w →
          w.hamper = none → w.state ≠ .suspended → w.rb < w.residentSlots + w.reserved → w.candidates = r :: rest →
          s.saveArea w (s.recAddr w r) (w.regs.recBytes r).length true = .ok ps → s.deadFault ps = none →
          exec (.hamperSpill w.id) s = .next ({ s with mem := writePieces s.mem ps (w.regs.recBytes r) }.setWave
            { w with regs := w.regs.setResident false r })
          ∧ (w.regs.setResident false r).resident r = false))
    ∧ (∀ (ww : Nat) (r : LReg), 1 ≤ r.length → r.length ≤ 96 → (∀ x ∈ r, 1 ≤ x.cnt ∧ x.cnt ≤ 96) → (r.map (·.cnt)).sum = ww →
      (regRecord r).length = 512 ∧ readRegRecord ww (regRecord r) = some r
        ∧ (∀ ww', ww' ≠ ww → readRegRecord ww' (regRecord r) = none))

/-- R344 to R347: BARRIERS. BINIT claims a free barrier; BARV and BEXP arrive, give the parity of the phase they
joined, and complete the phase when nothing is due; BTEST and BWAIT compare the parity; an identifier above 63 or a
barrier that the launch does not hold raises 0x0104. R348: GBAR: in a launch that is not co-resident it raises 0x7001,
and 0x0104 when the path does not hold every live lane; otherwise the wave arrives, and passes when every wave of the
launch has arrived; until then its leg stays parked. -/
def Obligations.Barriers : Prop :=
  (∀ (s : State) (c : Ctx) (d a b : SReg) (id n : Word) (k : BitVec 6) (B : Barrier),
      MayClose s c → c.getS a = .ok id → c.getS b = .ok n →
      let at_ := fun (t : State) => (t.core c.w.core.toNat).bar k
      let done := fun (t : State) (new : List (SReg × Word)) =>
        Committed c new (c.pathAt (c.pc + 4) new) t ∧ OtherWaves c t ∧ SameMemory c.s t
          ∧ ∀ j, j ≠ k → (t.core c.w.core.toNat).bar j = (c.s.core c.w.core.toNat).bar j
      let phase := fun (x : Barrier) => if x.arr = 0 ∧ x.byt = 0 then { x with ph := !x.ph, arr := x.exp } else x
      let refused := fun (i : Instr) (cl : Closing) => exec i s = .next ((c.marked cl closeShape).takeFault
        (c.markedWave cl closeShape) c.k { code := 0x0104, addr := c.pc, mask := c.leg.e0 } c.leg.start)
      (id.toNat = k.toNat → at_ c.s = B →
          (B.hold = none → 1 ≤ n.toNat → n.toNat ≤ 65535 → ∃ t, exec (.binit true a b) s = .next t ∧ done t []
              ∧ at_ t = ⟨some c.w.launch, false, n.extractLsb' 0 16, n.extractLsb' 0 16, 0⟩)
          ∧ (B.hold = some c.w.launch →
            let ph : Word := if B.ph then 1 else 0
            let arrivals := if n = 0 then 1 else n.toNat
            (arrivals ≤ B.arr.toNat → ∃ t, exec (.barv true d a b) s = .next t ∧ done t [(d, ph)]
                ∧ at_ t = phase { B with arr := B.arr - BitVec.ofNat 16 arrivals })
              ∧ (B.arr.toNat < arrivals → refused (.barv true d a b) (.barv d id n))
              ∧ (1 ≤ B.arr.toNat → ∃ t, exec (.bexp true d a b) s = .next t ∧ done t [(d, ph)]
                ∧ at_ t = phase { B with byt := B.byt + n, arr := B.arr - 1 })
              ∧ (c.s.porterOf c.w.id = [] →
                (let r : Word := if B.ph ≠ n.getLsbD 0 then 1 else 0
                  ∃ t, exec (.btest true d a b) s = .next t ∧ done t [(d, r)] ∧ at_ t = B)
                ∧ (B.ph ≠ n.getLsbD 0 → ∃ t, exec (.bwait true a b) s = .next t ∧ done t [] ∧ at_ t = B)
                ∧ (B.ph = n.getLsbD 0 → ∃ t w leg, exec (.bwait true a b) s = .next t ∧ t.wave? c.w.id = some w
                  ∧ (w.slot c.k).leg = some leg ∧ leg.parked = true ∧ k ∈ (w.slot c.k).waitBar
                  ∧ w.regs = c.w.regs ∧ SameButWaves c.s t)))
          ∧ (B.hold ≠ some c.w.launch → refused (.barv true d a b) (.barv d id n) ∧ refused (.bexp true d a b) (.bexp d id n)
            ∧ refused (.btest true d a b) (.btest d id (n.getLsbD 0)) ∧ refused (.bwait true a b) (.bwait id (n.getLsbD 0))))
        ∧ (64 ≤ id.toNat → refused (.binit true a b) (.binit id n) ∧ refused (.barv true d a b) (.barv d id n)
          ∧ refused (.bexp true d a b) (.bexp d id n) ∧ refused (.btest true d a b) (.btest d id (n.getLsbD 0))
          ∧ refused (.bwait true a b) (.bwait id (n.getLsbD 0))))
    ∧ (∀ (s : State) (c : Ctx) (r : LaunchRec), MayClose s c → c.s.recOf c.w = some r →
      let u := c.marked .gbar closeShape
      let v := c.markedWave .gbar closeShape
      (r.all = false → exec (.gbar true) s = .next (u.takeFault v c.k { code := 0x7001, addr := c.pc, mask := c.leg.e0 } c.leg.start))
        ∧ (r.all = true → c.w.live ≠ c.path.p →
          exec (.gbar true) s = .next (u.takeFault v c.k { code := 0x0104, addr := c.pc, mask := c.leg.e0 } c.leg.start))
        ∧ (r.all = true → c.w.live = c.path.p → (u.setWave v.arriveGbar).gbarDone v.arriveGbar = true →
          ∃ t w, exec (.gbar true) s = .next t ∧ Committed c [] (c.pathAt (c.pc + 4) []) t ∧ t.wave? c.w.id = some w
            ∧ w.gbars = c.w.gbars + 1 ∧ w.gbarAt = false ∧ OtherWaves c t)
        ∧ (r.all = true → c.w.live = c.path.p → (u.setWave v.arriveGbar).gbarDone v.arriveGbar = false →
          ∃ w, exec (.gbar true) s = .next (u.setWave w) ∧ w = v.arriveGbar))

/-! ## Engines -/

/-- R253, R256, R258, R261, R262: PCOPY reads and checks its descriptor as it issues and at commit its command joins
Porter's under a fresh token (a command without bytes does nothing); PBATCH closes the wave's open commands into the
next batch and sD receives its number; PWAIT goes on when no command of a covered batch is unfinished. R227, R257 to
R259: a chunk: its bytes are read, with their table entries, then written in order, but those that a later command of
its wave has written already; a fault writes none of them and suspends the command at the chunk; a chunk whose bytes
have been read before is written as it was read; the last chunk ends the command, and a barrier is counted down by the
chunk's bytes. -/
def Obligations.PorterCommands : Prop :=
  (∀ (s : State) (c : Ctx) (a : AReg) (b d : SReg) (ord : Ord) (scp : Scp) (x : DWord) (n : Word), MayClose s c →
      c.getA a = .ok x → c.getS b = .ok n →
      (∀ r t, Issues s c { closeShape with cls := 1 } true → c.readUnits x 64 1 = .ok r → r.1.leg.out = [] →
          (parseDesc r.2 = none → exec (.pcopy true a ord scp) s = .next (c.fail (c.trapHere 0x0104)))
          ∧ (∀ p, parseDesc r.2 = some p → c.s.descFault c.w p = some t →
            exec (.pcopy true a ord scp) s = .next (c.fail (c.trap t.1 t.2)))
          ∧ (∀ p, parseDesc r.2 = some p → c.s.descFault c.w p = none → (c.s.porterOf c.w.id).length < 64 →
            ∃ u, exec (.pcopy true a ord scp) s = .next u ∧ Committed c [] (c.pathAt (c.pc + 4) []) u ∧ OtherWaves c u
              ∧ SameMemory c.s u
              ∧ (p.total = 0 → u.porter = c.s.porter)
              ∧ (p.total ≠ 0 → ∃ q, u.porter = c.s.porter ++ [q] ∧ q.desc = p ∧ q.wave = c.w.id ∧ q.launch = c.w.launch
                  ∧ q.asid = c.w.asid ∧ q.batch = none ∧ q.done = 0 ∧ q.work = none ∧ q.susp = none)))
        ∧ (c.s.openBatches c.w.id < 16 →
          let k : Word := if c.w.batch = 0xFFFF_FFFF then 1 else c.w.batch + 1
          ∃ u w, exec (.pbatch true d) s = .next u ∧ Committed c [(d, k)] (c.pathAt (c.pc + 4) [(d, k)]) u
            ∧ u.wave? c.w.id = some w ∧ w.batch = k
            ∧ u.porter = c.s.porter.map fun q => if q.wave = c.w.id ∧ q.batch = none then { q with batch := some k } else q)
        ∧ ((∀ q ∈ c.s.porter, q.wave = c.w.id → ∀ k, q.batch = some k → 2 ^ 31 ≤ (n - k).toNat) →
          ∃ u, exec (.pwait true b) s = .next u ∧ Committed c [] (c.pathAt (c.pc + 4) []) u ∧ SameButWaves c.s u)
        ∧ (∀ q k, q ∈ c.s.porter → q.wave = c.w.id → q.batch = some k → (n - k).toNat < 2 ^ 31 →
          (∀ r ∈ c.s.porter, r.susp = none) → exec (.pwait true b) s = .next (c.marked (.pwait n) closeShape)))
    ∧ (∀ (s : State) (q : PorterCmd), s.porter.find? (·.tok == q.tok) = some q → q.susp = none → s.tokensDone q.after = true →
      let n := min 4096 (q.desc.total - q.done)
      (∀ code a ls, q.work = none → s.chunkBytes q q.done n = .error (code, a, ls) → ∃ t, exec (.porterChunk q.tok) s = .next t
          ∧ SameMemory s t ∧ t.porter = s.porter.map fun x => if x.tok == q.tok then { q with susp := some (code, a) } else x)
        ∧ (∀ xs, s.chunkBytes q q.done n = .ok xs → xs.length = n)
        ∧ (∀ xs, q.work = some xs ∨ (q.work = none ∧ s.chunkBytes q q.done n = .ok xs) → ∃ t, exec (.porterChunk q.tok) s = .next t
            ∧ t.mem = ((xs.filter fun x => !q.rewritten.contains x.1.key).foldl (fun s x => s.store [x.1] [x.2]) s).mem
            ∧ t.cores = (if q.desc.ben then s.countBytes q.core q.launch q.desc.bar n else s).cores
            ∧ (q.desc.total ≤ q.done + n → ∀ x ∈ t.porter, x.tok ≠ q.tok)
            ∧ (q.done + n < q.desc.total → t.porter.find? (·.tok == q.tok) = some { q with done := q.done + n, work := none })
            ∧ ∀ y ∈ s.porter.takeWhile (fun x => x.tok != q.tok), y.wave = q.wave →
              { y with rewritten := y.rewritten ++ xs.map fun x => x.1.key } ∈ t.porter))

/-- R225, R226, R250 to R252, R379: FENCE joins the leg and changes nothing else; CINV, CWB and PREF change no byte
and no register; CINV and CWB take the faults of an address that is not global, PREF none, whatever its operands are.
A table walk that no later shoot-down covers fills an entry for a leaf that is present, of its partition's at most 64
times WAYS (R369). R67, R250: a fetch returns the word in memory, or, of a word changed since the core's lines of it
were dropped for its ASID, one of the values that it had; the commit of a leg with a CINV leaves no such value in the
CINV's range. R378, R380: TLBINV drops the entries of the wave's ASID over its range, and waits while an access of the
ASID that has been sent is not answered; one with a length of zero commits at once and drops none. -/
def Obligations.FencesAndCaches : Prop :=
  ((∀ (s : State) (c : Ctx) (m : Bool) (pred succ : BitVec 6) (scp : Scp) (a : AReg) (b : SReg) (x : DWord) (y : Word),
      Issues s c (lineShape 0) m → Issues s c (lineShape 2) m → c.getA a = .ok x → c.getS b = .ok y →
      exec (.fence m pred succ scp) s
          = .next (({ c with leg := { c.leg with fences := c.leg.fences ++ [(pred, succ)] } } : Ctx).advance (lineShape 0) m)
        ∧ (windowOf x = some .glob → exec (.cinv m a b) s
            = .next (({ c with leg := { c.leg with cinvs := c.leg.cinvs ++ [(x, y, c.leg.stores.length)] } } : Ctx).advance
                (lineShape 0) m)
          ∧ exec (.cwb m a b) s = .next (c.advance (lineShape 2) m))
        ∧ (windowOf x = none → exec (.cinv m a b) s = .next (c.fail (c.trap 0x1103 x))
          ∧ exec (.cwb m a b) s = .next (c.fail (c.trap 0x1103 x)))
        ∧ (∀ v, windowOf x = some v → v ≠ .glob → exec (.cinv m a b) s = .next (c.fail (c.trap 0x1104 x))
          ∧ exec (.cwb m a b) s = .next (c.fail (c.trap 0x1104 x))))
      ∧ (∀ (s : State) (c : Ctx) (m : Bool) (a : AReg) (b : SReg), Issues s c (lineShape 0) m →
        ∃ ws, exec (.pref m a b) s
            = .next (({ c with s := { c.s with walks := c.s.walks ++ ws } } : Ctx).advance (lineShape 0) m)
          ∧ ∀ v ∈ ws, v.asid = c.w.asid ∧ v.seq = c.s.shootSeq ∧ v.die = Config.homeSlice c.w.asid (v.va.toNat / 128) / 64
            ∧ v.ctl = Config.homeController c.w.asid (v.va.toNat / 128)
            ∧ ∃ l, c.s.leaf? c.w.asid v.va = some l ∧ l.p = true)
      ∧ (∀ (s : State) (i : Nat) (v : Walk) (l : Leaf), s.walks[i]? = some v → s.leaf? v.asid v.va = some l → l.p = true →
        (∀ k ∈ s.shoots, k.seq ≤ v.seq) →
        ∃ t, exec (.tlbWalk i) s = .next t ∧ t.walks = s.walks.eraseIdx i ∧ SameMemory s t
          ∧ (∀ e ∈ t.tlb, e = ⟨v.die, v.ctl, l⟩ ∨ e ∈ s.tlb)
          ∧ ∀ p, s.asidPart? v.asid = some p → 1 ≤ p.ways → (⟨v.die, v.ctl, l⟩ : TlbEntry) ∈ t.tlb
            ∧ (t.tlb.filter fun e => e.die == v.die && e.ctl == v.ctl && p.hasAsid e.leaf.asid).length ≤ 64 * p.ways))
    ∧ ((∀ (s : State) (core : BitVec 10) (asid : BitVec 16) (a : DWord) (p : Piece),
      s.translate asid a 4 .fetch = .ok p → s.readFault [p] = none →
      (s.oldWords core asid a (p.key / 4) = [] → s.fetchWord core asid a = .ok (wordOfBytes (readPieces s.mem [p])))
        ∧ ∃ w, s.fetchWord core asid a = .ok w
          ∧ (w = wordOfBytes (readPieces s.mem [p]) ∨ w ∈ s.oldWords core asid a (p.key / 4)))
      ∧ (∀ (s : State) (id : Nat) (k : SlotId) (w : Wave) (p : Path) (leg : Leg) (lo : DWord) (n : Word) (i : Nat),
        s.parkedLeg id k = some (w, p, leg) → leg.closing = none → w.state ≠ .suspended →
        ((w.slot k).legs + 1 < 4096 ∨ w.stack = []) → Unhindered s w leg → leg.stores = [] → leg.cinvs = [(lo, n, i)] →
        ∃ t, exec (.legCommit id k) s = .next t ∧ t.mem = s.mem ∧ ∀ (a : DWord) (key : Nat), lo.toNat ≤ a.toNat →
          a.toNat < lo.toNat + n.toNat → t.oldWords w.core w.asid a key = []))
    ∧ (∀ (s : State) (c : Ctx) (a : AReg) (b : SReg) (x : DWord) (n : Word), MayClose s c → Issues s c closeShape true →
      c.getA a = .ok x → c.getS b = .ok n → windowOf x = some .glob →
      (c.s.shootHeld c.w.asid = true → n ≠ 0 → exec (.tlbinv true a b) s = .next (c.marked (.tlbinv x n) closeShape))
      ∧ (c.s.shootHeld c.w.asid = false ∨ n = 0 → ∃ t, exec (.tlbinv true a b) s = .next t
        ∧ Committed c [] (c.pathAt (c.pc + 4) []) t ∧ SameMemory c.s t
        ∧ (n = 0 → t.tlb = c.s.tlb ∧ t.shootSeq = c.s.shootSeq)
        ∧ (n ≠ 0 → t.shootSeq = c.s.shootSeq + 1
          ∧ ∀ e, e ∈ t.tlb ↔ e ∈ c.s.tlb ∧ ¬(e.leaf.asid = c.w.asid ∧ pageOverlaps e.leaf.va e.leaf.size x.toNat n.toNat = true))))

/-- R147, R148, R154 to R163: a Sieve instruction that finds the pipe free, or that the rotation has taken, issues and
occupies it; one that finds it busy waits in the queue of its quadrant, and nothing else changes. The pipe that
becomes free takes the oldest request of the next quadrant that has one. R154 to R156, R158, R160, R163: what a Sieve
instruction computes where its operands are good: XCVT's and XDQNT's lanes, the Hadamard transform and the fields of
XDEC; a part at or beyond G, a format field that is not legal and an invalid description raise 0x0104. R150, R154 to
R163: each Sieve instruction that the pipe admits completes where its operands are good: XDQNT's lanes are the scaled
elements converted, XHAD's the transform, XDEC's the fields of the stream, XTBL's the table's entries widened, with
its barrier wait over (a byte that a chunk in work is writing reads old or new, R161); XQNT holds one store for each
group of lanes that is wholly active, and takes the faults of its address. The scale of a block whose format has no
finite value but zero is a free value (log entry 84), and 0x1103 before R157's rows is the model's reading (log entry
86). -/
def Obligations.SieveInstructions : Prop :=
  (∀ (s : State) (c : Ctx) (m : Bool) (f : LX),
      let co := c.s.core c.w.core.toNat
      let r : SieveReq := ⟨c.w.id, c.k, c.w.quad⟩
      let v : Ctx := { c with s := c.s.setCore { co with sieveBusy := true, sieveGrant := none, sieveLast := c.w.quad } }
      (∀ (i : Instr) (cls : BitVec 6) (b : Ctx → Except Trap Ctx), (i, cls, b) ∈
          [(Instr.xcvt m f, 0, (Ctx.xcvt · f)), (.xqnt m f, 2, (Ctx.xqnt · f)), (.xdqnt m f, 0, (Ctx.xdqnt · f)),
            (.xhad m f, 0, (Ctx.xhad · f)), (.xdec m f, 1, (Ctx.xdec · f))]
            ++ (if pfield f.param 8 8 = 0 then [(Instr.xtbl m f, 1, (Ctx.xtbl · f))] else []) →
          Issues s c (sieveShape cls) m →
          ((co.sieveGrant = some r ∨ (co.sieveBusy = false ∧ co.sieveGrant = none ∧ co.sieveQ = [])) →
            (∀ c', b v = .ok c' → exec i s = .next (c'.advance (sieveShape cls) m))
              ∧ (∀ t, b v = .error t → exec i s = .next (v.fail t)))
          ∧ (co.sieveGrant ≠ some r → (co.sieveBusy = true ∨ co.sieveGrant ≠ none ∨ co.sieveQ ≠ []) → r ∉ co.sieveQ →
            exec i s = .next (c.s.setCore { co with sieveQ := co.sieveQ ++ [r] })))
        ∧ (∀ n : BitVec 10, ((s.core n.toNat).sieveGrant = none → (s.core n.toNat).sieveQ = [] →
            exec (.sieveServe n) s = .next (s.setCore { s.core n.toNat with sieveBusy := false }))
          ∧ (∀ q, (s.core n.toNat).sieveGrant = none → q ∈ (s.core n.toNat).sieveQ →
            ∃ g, g ∈ (s.core n.toNat).sieveQ ∧ exec (.sieveServe n) s = .next (s.setCore { s.core n.toNat with
                sieveBusy := true, sieveLast := g.quad, sieveGrant := some g,
                sieveQ := (s.core n.toNat).sieveQ.filter (· != g) })
              ∧ (g.quad - (s.core n.toNat).sieveLast - 1).toNat ≤ (q.quad - (s.core n.toNat).sieveLast - 1).toNat)))
    ∧ (∀ (c : Ctx) (f : LX) (de se : Elem) (A B : Lanes) (c' : Ctx),
      elemOf c.leg.snap.nf (f.param.extractLsb' 10 5) = some de → elemOf c.leg.snap.nf (f.param.extractLsb' 5 5) = some se →
      c.lanes f.sa 0 = .ok A → c.lanes f.sb 0 = .ok B → c.reserveUnknown f.dst 1 = .ok c' →
      (max se.container de.container / min se.container de.container ≤ pfield f.param 4 2 →
          c.xcvt f = .error (c.trapHere 0x0104))
        ∧ (pfield f.param 4 2 < max se.container de.container / min se.container de.container → ∃ c'', c.xcvt f = .ok c''
          ∧ c''.leg.stores = c'.leg.stores ∧ c''.leg.sw = c'.leg.sw
          ∧ ((∃ r, f.dst = .v r) ∨ (∃ r, f.dst = .t r) → (c'.oldDst f.dst).expand.length = c.w.ww → ∀ l, l < c.w.ww →
            l < A.vals.length → l < B.vals.length → lane (c''.oldDst f.dst).expand l = if c'.leg.e0.getLsbD l
              then (convLane se de (pfield f.param 4 2) f.rm f.sat se.value (lane A.vals l) (lane B.vals l)).1
              else lane (c'.oldDst f.dst).expand l))
        ∧ (∀ (part : Nat) (rm : Rm) (sat : Bool) (a b : Word), part < slotGap se.container de.container →
          let n := slotsPerStep se.container de.container
          let r := (convLane se de part rm sat se.value a b).1
          ∀ i, i < n → de.container * (i + (if de.container < se.container then part * n else 0)) < 32 →
            getSlot r de.container (i + (if de.container < se.container then part * n else 0)) de.container
              = (de.encode rm sat (se.value (getSlot a se.container
                  (i + (if se.container < de.container then part * n else 0)) se.width))).1 % 2 ^ de.container)
        ∧ (∀ e, elemOf c.leg.snap.nf e = none → c.elem e = .error (c.trapHere 0x0104)))
    ∧ (∀ (s : State) (c : Ctx) (m : Bool) (f : LX) (A : Lanes),
      let co := c.s.core c.w.core.toNat
      let r : SieveReq := ⟨c.w.id, c.k, c.w.quad⟩
      let nf := c.leg.snap.nf
      (∀ cls, Issues s c (sieveShape cls) m) → (co.sieveGrant = some r ∨ (co.sieveBusy = false ∧ co.sieveGrant = none ∧ co.sieveQ = [])) →
      let writes := fun (i : Instr) (cls : BitVec 6) (v : Nat → Word) =>
        ∃ c' : Ctx, exec i s = .next (c'.advance (sieveShape cls) m) ∧ c'.w = c.w ∧ c'.s.mem = c.s.mem ∧ c'.leg.stores = c.leg.stores
          ∧ ((c.oldDst f.dst).expand.length = c.w.ww → ∀ l, l < c.w.ww → lane (c'.oldDst f.dst).expand l
            = if c.leg.e0.getLsbD l then v l else lane (c.oldDst f.dst).expand l)
      let scalar := fun (x : Sel) (o : Word) => match x with | .s n => c.getS n = .ok o | _ => o = 0
      (∀ (B D : Lanes) (de se : Elem), c.lanes f.sa 0 = .ok A → c.lanes f.sb 0 = .ok B → c.lanes f.sc 0 = .ok D →
          elemOf nf (f.param.extractLsb' 10 5) = some de → elemOf nf (f.param.extractLsb' 5 5) = some se →
          1 ≤ pfield f.param 14 10 → pfield f.param 14 10 ≤ 3 →
          (2 ≤ pfield f.param 9 5 ∧ pfield f.param 9 5 ≤ 10) ∨ 24 ≤ pfield f.param 9 5 →
          pfield f.param 4 2 < slotGap se.container de.container → Roomy c c.w.ww →
          A.vals.length = c.w.ww → B.vals.length = c.w.ww → D.vals.length = c.w.ww →
          writes (.xdqnt m f) 0 fun l => (convLane se de (pfield f.param 4 2) f.rm f.sat (fun raw => scaled (se.value raw)
              (if f.param.getLsbD 1 then e4m3.decode ((lane B.vals l).toNat % 256) else e8m0 ((lane B.vals l).toNat % 256)))
            (lane A.vals l) (lane D.vals l)).1)
        ∧ (c.lanes f.sa 0 = .ok A → Roomy c c.w.ww → writes (.xhad m f) 0 fun l =>
            lane (hadamardLanes (hadOrder (pfield f.param 1 0)) c.leg.e0 A.vals) l)
        ∧ (∀ (de : Elem) (ee : Option Elem) (o : Word) (tbl : List Word) (g : Nat → Nat → Nat),
          let k := pfield f.param 19 16 + 1
          let mode := pfield f.param 15 14
          let dc := pfield f.param 8 4
          let q := if dc = 2 ∨ dc = 3 then 2 else 1
          (mode = 2 → k ≤ 3) → (mode ≠ 3 → ee = none) →
          (mode = 3 → ∃ e, elemOf nf (f.param.extractLsb' 9 5) = some e ∧ e.width = k ∧ ee = some e) →
          dc = 1 ∨ dc = 2 ∨ dc = 3 ∨ dc = 11 ∨ dc = 12 → elemOf nf (f.param.extractLsb' 4 5) = some de →
          scalar f.sa o → c.table f.sb = .ok tbl → (co.alloc? c.w.launch).isSome = true →
          (∀ l ∈ c.active, ∀ h, h < q → c.streamField (o.toNat + k * (q * l + h)) k = .ok (g l h)) → Roomy c c.w.ww →
          writes (.xdec m f) 1 fun l => BitVec.ofNat 32 (packBits (32 / q) ((List.range q).map fun h =>
            (de.encode f.rm f.sat (c.fieldValue mode k ee tbl (g l h))).1)))
        ∧ (∀ (e : Elem) (o : Word) (d : SReg) (ps : Nat → List Piece),
          (pfield f.param 8 8 = 0 ∨ co.sieveGrant = some r ∨ ∃ b x, c.s.heldBar c.w (BitVec.ofNat 32 (pfield f.param 15 10)) = some (b, x)
            ∧ x.ph ≠ (pfield f.param 9 9 == 1) ∧ ∀ y ∈ c.s.porter, y.susp = none) →
          1 ≤ pfield f.param 4 0 → pfield f.param 4 0 ≤ 5 → elemOf nf (f.param.extractLsb' 0 5) = some e → scalar f.sa o →
          f.dst = .s d → (∀ j, j < 8 → c.allocBytes (o.toNat + j * (e.width / 8)) (e.width / 8) = some (ps j)
            ∧ c.s.readFault (ps j) = none) →
          ∃ (c' : Ctx) (bs : Nat → List Byte), exec (.xtbl m f) s = .next (c'.advance (sieveShape 1) m) ∧ c'.w = c.w
            ∧ ((∀ y ∈ c.s.porter, y.work = none) →
              c'.s.mem = c.s.mem ∧ ∀ j, j < 8 → bs j = readPieces c.s.mem (ps j))
            ∧ c'.leg.sw = ((List.range 8).reverse.map fun j => (d + BitVec.ofNat 6 j,
                toF32 .rne false (e.value (leNat (bs j))))) ++ c.leg.sw)
        ∧ (∀ b x, pfield f.param 8 8 ≠ 0 → co.sieveAsked r = false →
          c.s.heldBar c.w (BitVec.ofNat 32 (pfield f.param 15 10)) = some (b, x) → x.ph = (pfield f.param 9 9 == 1) →
          (∀ y ∈ c.s.porter, y.susp = none) → c.w.stack = [] →
          exec (.xtbl m f) s = .next (c.s.setWave (c.w.setSlot c.k
            { c.w.slot c.k with
              waitBar := (c.w.slot c.k).waitBar ++ (if (c.w.slot c.k).waitBar.contains b then [] else [b]), wait := some (.bar b (pfield f.param 9 9 == 1)) })))
        ∧ (∀ (o : Word) (b : DWord) (l : Leaf) (p : PageLayout) (entries : List Word), scalar f.sb o →
          c.getA (f.param.extractLsb' 3 4) = .ok b → c.lanes f.sa 0 = .ok A → c.table f.sc = .ok entries →
          let a := b + o.signExtend 64
          let had := pfield f.param 1 0
          let scl := l.scl.toNat
          let form := quantForm scl (f.param.getLsbD 2) p
          let groups := c.wholeGroups form.2.2
          windowOf a = some .glob → c.s.leaf? c.w.asid a = some l → l.p = true → l.w = true → l.fmt ≠ 0 →
          (l.loc = 0 ∨ l.loc = 3 ∨ (l.loc = 1 ∧ c.s.cxlUp.getLsbD l.dev.toNat = true)) →
          (f.param.getLsbD 2 = true → scl = 0) → (had ≠ 0 → scl ≠ 3) → (scl = 3 ↔ f.sc ≠ .v 0) →
          l.layout (c.s.nft c.w.part) = some p → a.toNat % p.bytes % form.1 = 0 → a.toNat % p.bytes / form.1 < form.2.1 →
          (∀ g ∈ groups, a.toNat % p.bytes / form.1 + g < form.2.1) →
          ∃ c' : Ctx, exec (.xqnt m f) s = .next (c'.advance (sieveShape 2) m) ∧ c'.w = c.w ∧ c'.s.mem = c.s.mem
            ∧ c'.leg.sw = c.leg.sw ∧ c'.leg.vw = c.leg.vw
            ∧ c'.leg.stores = c.leg.stores ++ groups.map fun g => (c.quantGroup f l p a
                (if had = 0 then A.vals else hadamardLanes (hadOrder had) c.leg.e0 A.vals) entries g).2)
        ∧ (∀ (o : Word) (b : DWord), scalar f.sb o → c.getA (f.param.extractLsb' 3 4) = .ok b →
          let a := b + o.signExtend 64
          let v : Ctx := { c with s := c.s.setCore { co with sieveBusy := true, sieveGrant := none, sieveLast := c.w.quad } }
          let fails := fun (e : BitVec 16) => exec (.xqnt m f) s = .next (v.fail (c.trap e a))
          (windowOf a = none → fails 0x1103)
            ∧ (∀ x, windowOf a = some x → x ≠ .glob → fails 0x1104)
            ∧ (windowOf a = some .glob → (c.s.leaf? c.w.asid a = none → fails 0x1001)
              ∧ ∀ l, c.s.leaf? c.w.asid a = some l → (l.p = false → fails 0x1001)
                ∧ (l.p = true → l.w = false → fails (if l.cw then 0x1003 else 0x1002))
                ∧ (l.p = true → l.w = true → l.fmt = 0 → fails 0x1004))))

/-- R171, R173 to R175, R179, R181 to R186: TILE COMMANDS: the leg of a command that passes its checks and probes
commits, and the command stands last among its core's with a fresh token, its source read (R172, R179); TST writes its
rows with the leg's stores and leaves no command, or waits for the answers to those of its rows that go to CXL memory
or another device; TWAIT goes on when no command that it covers is unfinished. R173, R174, R177, R179, R187: Basalt
starts a command when no earlier unfinished command of its core conflicts with it; a load that a fence held then reads
its rows, as its wave saw them; and it finishes the command: TZERO clears its tile and the poison bit, a load puts its
rows, a macro-op accumulates its units. -/
def Obligations.TileCommands : Prop :=
  (∀ (s : State) (c : Ctx) (f : LT), MayClose s c →
      (∀ (i : Instr) (mk : Ctx → LT → Except Trap TileCmd), (i, mk) ∈ [(Instr.tld true f, Ctx.tldCmd), (.tldW true f, Ctx.tldWCmd),
          (.tldg true f, Ctx.tldgCmd), (.tzero true f, Ctx.tzeroCmd), (.tmma true f, Ctx.tmmaCmd), (.tgrp true f, Ctx.tgrpCmd)] →
          ∀ cmd, mk c f = .ok cmd → c.s.tileProbe c.w cmd = none → (c.s.basaltOf c.w.id).length < 16 →
            ∃ t q, exec i s = .next t ∧ Committed c [] (c.pathAt (c.pc + 12) []) t ∧ OtherWaves c t
              ∧ (cmd.isLoad = false ∨ (c.s.port0.posted = [] ∧ c.s.port1.posted = []) → SameMemory c.s t)
              ∧ t.basalt = c.s.basalt ++ [q] ∧ q.cmd = cmd ∧ q.wave = c.w.id ∧ q.core = c.w.core.toNat ∧ q.done = false
              ∧ q.started = false ∧ (cmd.isLoad = false → q.data = none ∧ q.susp = none))
        ∧ (∀ (i : Instr) (mk : Ctx → LT → Except Trap TileCmd) (t : Trap), (i, mk) ∈ [(Instr.tld true f, Ctx.tldCmd),
          (.tldW true f, Ctx.tldWCmd), (.tldg true f, Ctx.tldgCmd), (.tzero true f, Ctx.tzeroCmd), (.tmma true f, Ctx.tmmaCmd),
          (.tgrp true f, Ctx.tgrpCmd), (.tst true f, Ctx.tstCmd)] → mk c f = .error t → exec i s = .next (c.fail t))
        ∧ (∀ tl a st, c.tstCmd f = .ok (.store tl a st) → c.s.tileProbe c.w (.store tl a st) = none →
          (∀ x ∈ c.s.basalt, x.core = c.w.core.toNat → x.done = true ∨ x.cmd.conflicts (.store tl a st) = false) →
          c.s.tileBad c.w.core.toNat tl = false →
          (∀ i ps u, i < 32 → c.s.rowPieces c.w.asid a st (rowBytes tl) i .write = .ok ps → u ∈ ps → u.owner? = none) →
          ∃ t, exec (.tst true f) s = .next t ∧ Committed c [] (c.pathAt (c.pc + 12) []) t ∧ OtherWaves c t
            ∧ ((∀ x ∈ c.s.basalt, x.wave = c.w.id → x.cmd.isLoad = true → x.done = true) →
              t.basalt = c.s.basalt)
            ∧ t.mem = (c.s.performStores (c.s.tileStores c.w tl a st)).mem)
        ∧ (∀ tl a st i ps u, c.tstCmd f = .ok (.store tl a st) → i < 32 →
          c.s.rowPieces c.w.asid a st (rowBytes tl) i .write = .ok ps → u ∈ ps → u.owner? ≠ none →
          ∃ t w leg, exec (.tst true f) s = .next t ∧ SameButWaves c.s t ∧ t.wave? c.w.id = some w ∧ w.regs = c.w.regs
            ∧ (w.slot c.k).leg = some leg ∧ leg.parked = true ∧ leg.out ≠ [] ∧ leg.closing = some (.tile (.store tl a st)))
        ∧ (c.s.basaltOf c.w.id = [] → (∃ t, exec (.twaitAll true f) s = .next t ∧ (t.wave? c.w.id).isSome = true ∧ SameMemory c.s t
            ∧ t.basaltOf c.w.id = [] ∧ (t.wave? c.w.id).bind (fun w => (w.slot c.k).path) = some (c.pathAt (c.pc + 12) []))
          ∧ (∀ tl, c.tile f.td = .ok tl → ∃ t, exec (.twait true f) s = .next t ∧ SameMemory c.s t
            ∧ (t.wave? c.w.id).bind (fun w => (w.slot c.k).path) = some (c.pathAt (c.pc + 12) []))))
    ∧ (∀ (s : State) (q : BasaltCmd), s.basalt.find? (·.tok == q.tok) = some q → q.susp = none → q.done = false →
      (q.started = false → q.stopped = false → s.tokensDone q.after = true → s.conflictBefore q = false →
          (∃ w, s.wave? q.wave = some w ∧ w.state ≠ .suspended ∧ w.unread = false) →
          (q.cmd.isLoad = false ∨ q.data.isSome = true →
            exec (.basaltCommandStart q.tok) s = .next ((s.drainFor q.cmd).setBasalt { q with started := true }))
          ∧ (∀ x, q.cmd.isLoad = true → q.data = none → s.port0.posted = [] → s.port1.posted = [] →
            (q.view s).readLoad q (s.cmdPart q) = .ok x →
            exec (.basaltCommandStart q.tok) s = .next ((s.markPoison x.found).setBasalt
              { q with started := true, data := some (x.bytes, x.bad), events := x.events })))
        ∧ (s.conflictBefore q = true → exec (.basaltCommandStart q.tok) s = .next s)
        ∧ (q.started = true → (∀ t, q.cmd = .zero t → exec (.basaltCommandFinish q.tok) s
            = .next (let u := s.putTile q.core t (leBytes 0 (tileSpan t).2) false
                { u with basalt := u.basalt.filter (·.tok != q.tok) }))
          ∧ (∀ t a st b bad, q.cmd = .load t a st → q.data = some (b, bad) → exec (.basaltCommandFinish q.tok) s
            = .next (let u := s.putTile q.core t b bad
                { u with basalt := u.basalt.filter (·.tok != q.tok) }))
          ∧ (∀ t a rows b bad, q.cmd = .gather t a rows → q.data = some (b, bad) → exec (.basaltCommandFinish q.tok) s
            = .next (let u := s.putTile q.core t b bad
                { u with basalt := u.basalt.filter (·.tok != q.tok) }))
          ∧ (∀ t a st e b bad, q.cmd = .loadW t a st e → q.data = some (b, bad) → exec (.basaltCommandFinish q.tok) s
            = .next ((s.putTile q.core t b bad).setBasalt { q with done := true, data := none }))
          ∧ (∀ z p nf, q.cmd.macro? = some (z, p, nf) → exec (.basaltCommandFinish q.tok) s
            = .next (let u := s.runUnits q.core z p nf (q.cmd.units.drop q.doneUnits)
                { u with basalt := u.basalt.filter (·.tok != q.tok) }))))

/-! ## The Quarry -/

/-- R264, R265, R277, R280, R282, R285 to R288: COLUMN ACCESS. A handle leads to a row when its world is one of the
partition, its generation is the slot's and the slot is live or pending for the wave's own launch; a row form counts
from the wave's first row, below its limit. The loads give the element word or zero, the stores write it, the others
what R288 says; lanes without a row or a column are stale, and a strict launch takes 0x4001 for stale handles that are
not null. While a cairn of a handle's world is applied the handle forms wait. R265, R282, R285 to R288: each column
instruction completes where its rows, its column and its places are good: QLDC gives the element word of each active
lane, zero where the lane has no row or column, and QSTC holds the words of its lanes; QLDH gives the handle of the
lane's row; all write the mask of the lanes that reached nothing. -/
def Obligations.ColumnAccess : Prop :=
  (∀ (s : State) (c : Ctx) (m : Bool) (f : LQ),
      let forms : List (Instr × Shape × (Ctx → Except Trap Ctx)) :=
        [(.qres m f, laneShape, (Ctx.qres · f)), (.qldc m f, columnShape 1, (Ctx.qldc · f)),
          (.qldcH m f, columnShape 1, (Ctx.qldcH · f)), (.qstc m f, columnShape 2, (Ctx.qstc · f)),
          (.qstcH m f, columnShape 2, (Ctx.qstcH · f)), (.qldh m f, columnShape 1, (Ctx.qldh · f)),
          (.qgen m f, laneShape, (Ctx.qgen · f))]
      ((∀ id, c.s.applying id = false) → ∀ i x b, (i, x, b) ∈ forms → Issues s c x m →
          (∀ c', b c = .ok c' → exec i s = .next (c'.advance x m)) ∧ (∀ t, b c = .error t → exec i s = .next (c.fail t)))
        ∧ (∀ h id, c.lanes64 f.sa 0 false = .ok h →
            c.s.busyHandle c.w (c.active.map fun l => (l, h.vals.getD l 0)) = some id →
            c.s.applying id = true ∧ (∃ l ∈ c.active, hWorld (h.vals.getD l 0) = id)
            ∧ (Issues s c laneShape m → exec (.qres m f) s = .next (c.waitCairn id) ∧ exec (.qgen m f) s = .next (c.waitCairn id))
            ∧ (Issues s c (columnShape 1) m → exec (.qldcH m f) s = .next (c.waitCairn id))
            ∧ (Issues s c (columnShape 2) m → exec (.qstcH m f) s = .next (c.waitCairn id)))
        ∧ (∀ r, c.w.rows = some r → c.s.partBusy c.w r.world = true → Issues s c (columnShape 1) m →
            exec (.qldh m f) s = .next (c.waitCairn r.world))
        ∧ (c.w.rows = none → c.qldc f = .error (c.trapHere 0x0104) ∧ c.qstc f = .error (c.trapHere 0x0104)
            ∧ c.qldh f = .error (c.trapHere 0x0104))
        ∧ (∀ h w t r, (c.handleRef h).at_ = some (w, t, r) ↔ c.s.worldOf c.w.part (hWorld h) = some w
            ∧ ∃ e, w.ent? h.lo = some e ∧ e.gen = hGen h ∧ (e.st = .live t r ∨ e.st = .pending c.w.launch t r))
        ∧ (∀ h, (c.handleRef h).bad = true ↔ (c.handleRef h).at_ = none ∧ h ≠ 0 ∧ c.s.strictWave c.w = true)
        ∧ (∀ x w st r, c.s.world? x.world = some w → w.stratum? x.strat = some st → (c.rowRef x r).at_
            = if (x.first + r).toNat < x.limit.getD (st.rows.length + st.pend) then some (w, x.strat, (x.first + r).toNat)
              else none)
        ∧ (∀ w t row st base b ew, w.stratum? t = some st → st.comps.find? (·.1 == f.ct.toNat) = some (f.ct.toNat, base) →
            columnAt ⟨some (w, t, row), b⟩ f.ct ew = some (base + BitVec.ofNat 64 (w.size f.ct * row + 4 * ew), w.size f.ct))
        ∧ ((c.oldDst f.dst).expand.length = c.w.ww → (c.oldDst (selNext f.dst)).expand.length = c.w.ww →
            (∃ r, f.dst = .v r) → ∀ (c' : Ctx) (h : Lanes64) (l : Nat), l ∈ c.active → h.vals.length = c.w.ww →
            c.lanes64 f.sa 0 false = .ok h →
            let got := lane (c'.oldDst f.dst).expand l
            (c.qres f = .ok c' → (c.handleRef (h.vals.getD l 0)).bad = false
              ∧ (got, lane (c'.oldDst (selNext f.dst)).expand l) = (match (c.handleRef (h.vals.getD l 0)).at_ with
                | some (_, t, row) => (BitVec.ofNat 32 row, BitVec.ofNat 32 t)
                | none => (0xFFFF_FFFF, 0xFFFF_FFFF)))
            ∧ (c.qldcH f = .ok c' → (c.handleRef (h.vals.getD l 0)).bad = false
              ∧ (columnAt (c.handleRef (h.vals.getD l 0)) f.ct f.ew.toNat = none → got = 0)
              ∧ (∀ a n, columnAt (c.handleRef (h.vals.getD l 0)) f.ct f.ew.toNat = some (a, n) → ∃ p,
                  c.s.translate c.w.asid a (min 4 n) .read = .ok p
                  ∧ got = BitVec.ofNat 32 (leNat (Memory.read c'.s.mem p.key (min 4 n)))))
            ∧ (c.qgen f = .ok c' → got = match c.s.worldOf c.w.part (hWorld (h.vals.getD l 0)) with
                | none => 0xFFFF_FFFF
                | some w => match w.ent? (h.vals.getD l 0).lo with
                  | some e => BitVec.ofNat 32 (e.st.code * 2 ^ 24 + e.gen.toNat)
                  | none => 1))
        ∧ (∀ c' h v, c.lanes64 f.sa 0 false = .ok h → c.lanes f.sb f.imm = .ok v → c.qstcH f = .ok c' →
            ∃ ps, c.columnPlaces (h.vals.map c.handleRef) f.ct f.ew.toNat .write false = .ok ps
              ∧ c'.leg.stores = c.leg.stores ++ ps.map fun p =>
                  ⟨[p.2.2], leBytes (lane v.vals p.1).toNat p.2.2.len, c.w.asid, p.2.1⟩))
    ∧ (∀ (s : State) (c : Ctx) (m : Bool) (f : LQ), (∀ x ∈ [laneShape, columnShape 1, columnShape 2], Issues s c x m) →
      (∀ id, c.s.applying id = false) →
      let el := fun (rs : List RowRef) (l : Nat) => columnAt (refAt rs l) f.ct f.ew.toNat
      let ends := fun (i : Instr) (x : Shape) (stale : Mask) (q : Ctx → Prop) => ∃ c' : Ctx, exec i s = .next (c'.advance x m)
        ∧ c'.s = c.s ∧ c'.w = c.w ∧ c'.leg.sw = (c.setStale f.mb stale).leg.sw ∧ q c'
      let lanesGive := fun (c' : Ctx) (x : Sel) (v : Nat → Word) => ∀ l, l < c.w.ww → lane (c'.oldDst x).expand l
        = if c.leg.e0.getLsbD l then v l else lane (c.oldDst x).expand l
      let typed := fun (store : Bool) (ws : List World) => (∀ w ∈ ws, ewBad (w.size f.ct) f.ew.toNat = false)
        ∧ ∀ r q, c.s.systemOf c.w = some (r, q) →
          r.wset.getLsbD f.ct.toNat = true ∨ (store = false ∧ r.rset.getLsbD f.ct.toNat = true)
      let loads := fun (i : Instr) (rs : List RowRef) (ws : List World) => typed false ws →
        (∀ l ∈ c.active, (refAt rs l).bad = false ∧ ∀ a n, el rs l = some (a, n) →
          ∃ p, c.s.translate c.w.asid a (min 4 n) .read = .ok p ∧ c.s.readFault [p] = none) →
        Roomy c c.w.ww → (c.oldDst f.dst).expand.length = c.w.ww →
        ends i (columnShape 1) (c.missLanes rs f.ct f.ew.toNat) fun c' => c'.leg.stores = c.leg.stores
          ∧ lanesGive c' f.dst fun l => match el rs l with
            | none => 0
            | some (a, n) => match c.s.translate c.w.asid a (min 4 n) .read with
              | .ok p => BitVec.ofNat 32 (leNat (Memory.read c.s.mem p.key (min 4 n)))
              | .error _ => 0
      let stores := fun (i : Instr) (rs : List RowRef) (ws : List World) => ∀ v, c.lanes f.sb f.imm = .ok v → typed true ws →
        (∀ l ∈ c.active, (refAt rs l).bad = false ∧ ∀ a n, el rs l = some (a, n) →
          ∃ p, c.s.translate c.w.asid a (min 4 n) .write = .ok p ∧ (p.host?.isSome = true ∨ c.s.deadFault [p] = none)) →
        ends i (columnShape 2) (c.missLanes rs f.ct f.ew.toNat) fun c' => c'.leg.vw = c.leg.vw
          ∧ c'.leg.stores = c.leg.stores ++ c.active.filterMap fun l => match el rs l with
            | none => none
            | some (a, n) => match c.s.translate c.w.asid a (min 4 n) .write with
              | .ok p => some ⟨[p], leBytes (lane v.vals l).toNat (min 4 n), c.w.asid, a⟩
              | .error _ => none
      (∀ x v, c.w.rows = some x → c.lanes f.sa f.imm = .ok v →
          let rs := v.vals.map (c.rowRef x)
          loads (.qldc m f) rs c.rowWorlds ∧ stores (.qstc m f) rs c.rowWorlds
            ∧ (Roomy c (2 * c.w.ww) → v.vals.length = c.w.ww → (c.oldDst f.dst).expand.length = c.w.ww →
              (c.oldDst (selNext f.dst)).expand.length = c.w.ww →
              let h := fun (l : Nat) => c.handleOf (refAt rs l)
              ends (.qldh m f) (columnShape 1) (maskOf (c.active.filter fun l => (h l).isNone)) fun c' =>
                lanesGive c' f.dst (fun l => ((h l).getD 0).lo) ∧ lanesGive c' (selNext f.dst) (fun l => ((h l).getD 0).hi)))
        ∧ (∀ h, c.lanes64 f.sa 0 false = .ok h →
          let rs := h.vals.map c.handleRef
          loads (.qldcH m f) rs (c.handleWorlds h.vals) ∧ stores (.qstcH m f) rs (c.handleWorlds h.vals)
            ∧ ((∀ l ∈ c.active, (refAt rs l).bad = false) → Roomy c (2 * c.w.ww) →
              ends (.qres m f) laneShape (maskOf (c.active.filter fun l => (refAt rs l).at_.isNone)) fun _ => True)
            ∧ (Roomy c c.w.ww → ∃ c' : Ctx, exec (.qgen m f) s = .next (c'.advance laneShape m) ∧ c'.s = c.s ∧ c'.w = c.w
              ∧ c'.leg.sw = c.leg.sw)))

/-- R266, R273, R274, R280, R289 to R295: QUEUE OPERATIONS AND VIEWS. QGRP opens a bracket with the wave's next number, QCOMMIT
closes its group; QNEW gives the handles of pending entities, QDEL, QADD and QREM queue on the lanes whose handles are good: alone
each as a group of its own, under a bracket in its open group, whose world they must name (0x0104); a strict launch takes 0x4001 on
the lanes with stale handles that are not null; a queue that would pass 2^20 operations takes 0x4002 with nothing queued; QVIEW
gives the world's lowest free view, QDROP drops one. -/
def Obligations.QueueOperations : Prop :=
  ∀ (s : State) (c : Ctx), MayClose s c →
    let refused := fun (i : Instr) (cl : Closing) (x : Shape) => exec i s = .next ((c.marked cl x).takeFault
      (c.markedWave cl x) c.k { code := 0x0104, addr := c.pc, mask := c.leg.e0 } c.leg.start)
    let idle := ∀ id, c.s.applying id = false
    (∀ a n w, c.getS a = .ok n → c.s.worldNum c.w.part n = some w →
        (c.path.brk.isSome = true → refused (.qgrp true a) (.qgrp w.id) closeShape)
        ∧ (c.path.brk = none → ∃ t u, exec (.qgrp true a) s = .next t ∧ t.wave? c.w.id = some u
          ∧ (u.slot c.k).path = some { c.pathAt (c.pc + 4) [] with brk := some ⟨w.id, nextBrk c.w.brkSeq⟩ }
          ∧ u.brkSeq = nextBrk c.w.brkSeq ∧ u.regs = c.w.regs.commit (c.written []) c.w.ww
          ∧ t.world? w.id = some { w with groups := w.groups
              ++ [⟨c.s.groupSub c.w w.id, c.w.id, c.w.wid.toNat, some (nextBrk c.w.brkSeq), none, false, false, []⟩] }))
      ∧ (∀ a n, c.getS a = .ok n → c.s.worldNum c.w.part n = none →
        exec (.qgrp true a) s = .next (c.fail (c.trapHere 0x0104)))
      ∧ (c.path.brk = none → refused (.qcommit true) .qcommit closeShape)
      ∧ (∀ b x, c.path.brk = some b → (∀ r, (c.w.slot c.k.other).path = some r → r.brk ≠ some b) →
        c.s.world? b.world = some x → ∃ t u, exec (.qcommit true) s = .next t ∧ t.wave? c.w.id = some u
          ∧ (u.slot c.k).path = some { c.pathAt (c.pc + 4) [] with brk := none } ∧ OtherWaves c t
          ∧ u.regs = c.w.regs.commit (c.written []) c.w.ww
          ∧ t.world? b.world = some { x with seq := x.seq + 1, groups := x.groups.map fun g =>
              if g.wave = c.w.id ∧ g.bracket = some b.seq ∧ g.closed = none then { g with closed := some x.seq } else g })
      ∧ (∀ (f : LQ) L c', idle → c.lanes f.sa f.imm = .ok L → c.reserveUnknown f.dst 2 = .ok c' → c'.s = c.s → c'.w = c.w →
        c'.leg.short = false →
        let ls := c.active.map fun l => (l, lane L.vals l)
        let r := c.s.createLanes c.w c.path.brk f.ct ls
        let vals := (List.range c.w.ww).map fun l => ((r.2.find? (·.1 == l)).map (·.2)).getD 0
        let cl : Closing := .qnew f.dst f.mb f.ct ls
        let fails := fun (code : BitVec 16) => exec (.qnew true f) s = .next ((c'.marked cl queueShape).takeFault
          (c'.markedWave cl queueShape) c.k { code := code, addr := c.pc, mask := c.leg.e0 } c.leg.start)
        (c.s.worldOf c.w.part f.ct = none → fails 0x0104)
          ∧ ∀ x, c.s.worldOf c.w.part f.ct = some x →
            (∀ b, c.path.brk = some b → b.world ≠ f.ct → fails 0x0104)
            ∧ ((∀ b, c.path.brk = some b → b.world = f.ct) →
              ((∃ l ∈ ls, x.stratum? l.2.toNat = none) → fails 0x0104)
              ∧ ((∀ l ∈ ls, (x.stratum? l.2.toNat).isSome = true) →
                (1048576 < x.ops + (r.2.filter (·.2 != 0)).length → fails 0x4002)
                ∧ (x.ops + (r.2.filter (·.2 != 0)).length ≤ 1048576 →
                  ∃ t u, exec (.qnew true f) s = .next t ∧ t.wave? c.w.id = some u ∧ OtherWaves c t ∧ SameMemory c.s t
                  ∧ (u.slot c.k).path = some (c.pathAt (c.pc + 12) ((((c'.fillLanes f.dst (vals.map DWord.lo)).fillLanes
                      (selNext f.dst) (vals.map DWord.hi)).setStale f.mb (maskOf ((r.2.filter (·.2 == 0)).map (·.1)))).leg.sw.take
                        (if f.mb = 0 then 0 else 3)))
                  ∧ u.regs = c.w.regs.commit (((c'.fillLanes f.dst (vals.map DWord.lo)).fillLanes (selNext f.dst)
                      (vals.map DWord.hi)).setStale f.mb (maskOf ((r.2.filter (·.2 == 0)).map (·.1)))).leg c.w.ww
                  ∧ t.worlds = r.1.worlds))))
      ∧ (∀ (w : Wave) (b : Option Bracket) (u : State) (x : World) (n : Nat), u.world? x.id = some x →
        let r := u.createOne w b x.id n
        (x.free = [] → 4294967296 ≤ x.mark → r = (u, 0))
        ∧ (∀ st y slot gen, x.stratum? n = some st → x.reserveSlot = some (y, slot, gen) → r.2 = mkHandle x.id gen slot
          ∧ (b = none → ∃ z, r.1.world? x.id = some z ∧ z.seq = x.seq + 1 ∧ z.groups = x.groups
            ++ [⟨u.groupSub w x.id, w.id, w.wid.toNat, none, some x.seq, false, false, [⟨.new n, r.2, w.launch⟩]⟩])
          ∧ (∀ q, b = some q → ∃ z, r.1.world? x.id = some z ∧ z.seq = x.seq ∧ z.groups = x.groups.map fun g =>
            if g.wave = w.id ∧ g.bracket = some q.seq ∧ g.closed = none then { g with ops := g.ops ++ [⟨.new n, r.2, w.launch⟩] }
            else g)))
      ∧ (∀ (f : LQ) (i : Instr) (k : QKind) H, (i, k) ∈ [(Instr.qdel true f, QKind.del), (.qadd true f, .add f.ct.toNat),
          (.qrem true f, .rem f.ct.toNat)] → idle → c.lanes64 f.sa 0 false = .ok H →
        let ls := c.active.map fun l => (l, H.vals.getD l 0)
        let good := fun (h : DWord) => (c.s.resolveHandle c.w.part c.w.launch h).isSome
        let stale := ls.filter fun x => x.2 != 0 && !good x.2
        let full := ∃ y ∈ c.s.worlds, 1048576 < y.ops + (ls.filter fun x => good x.2 && hWorld x.2 == y.id).length
        let cl : Closing := .qop k f.mb ls
        let fails := fun (code : BitVec 16) (m : Mask) => exec i s = .next ((c.marked cl queueShape).takeFault
          (c.markedWave cl queueShape) c.k { code := code, addr := c.pc, mask := m } c.leg.start)
        (∀ b, c.path.brk = some b → (∃ x ∈ ls, hWorld x.2 ≠ b.world) → fails 0x0104 c.leg.e0)
          ∧ ((∀ b, c.path.brk = some b → ∀ x ∈ ls, hWorld x.2 = b.world) →
            (c.s.strictWave c.w = true → stale ≠ [] → fails 0x4001 (maskOf (stale.map (·.1))))
            ∧ (c.s.strictWave c.w = false ∨ stale = [] →
              (full → fails 0x4002 c.leg.e0)
              ∧ (¬full → ∃ t u, exec i s = .next t ∧ t.wave? c.w.id = some u ∧ OtherWaves c t ∧ SameMemory c.s t
                ∧ (u.slot c.k).leg = none
                ∧ u.regs = c.w.regs.commit (c.setStale f.mb (c.s.staleLanes c.w ls)).leg c.w.ww
                ∧ t.worlds = (c.s.queueLanes c.w c.path.brk k ls).worlds))))
      ∧ (∀ (w : Wave) (b : Option Bracket) (k : QKind) (u : State) (l : Nat) (h : DWord) (x y : World) (p : Nat × Nat),
        u.resolveHandle w.part w.launch h = some (y, p) → u.world? y.id = some x →
        let op : QOp := ⟨k, h, w.launch⟩
        (b = none → u.queueLanes w b k [(l, h)] = u.setWorld { x with
          ops := x.ops + 1, seq := x.seq + 1,
          groups := x.groups ++ [⟨u.groupSub w x.id, w.id, w.wid.toNat, none, some x.seq, false, false, [op]⟩] })
        ∧ (∀ q, b = some q → u.queueLanes w b k [(l, h)] = u.setWorld { x with
          ops := x.ops + 1,
          groups := x.groups.map fun g =>
            if g.wave = w.id ∧ g.bracket = some q.seq ∧ g.closed = none then { g with ops := g.ops ++ [op] } else g }))
      ∧ (∀ d q a r, c.getA q = .ok a → c.readUnits a 16 5 = .ok r → r.1.leg.out = [] →
        (parseQuery r.2 = none → exec (.qview true d q) s = .next (c.fail (c.trapHere 0x0104)))
        ∧ (∀ req exc wd x, parseQuery r.2 = some (req, exc, wd) → c.s.worldOf c.w.part wd = some x → idle →
          ((∀ k, k < 64 → ∃ v ∈ x.views, v.idx = k) → ∃ t, exec (.qview true d q) s = .next t
            ∧ Committed c [(d, 0xFFFF_FFFF)] (c.pathAt (c.pc + 4) [(d, 0xFFFF_FFFF)]) t ∧ SameButWaves c.s t)
          ∧ (∀ k, k < 64 → (∀ v ∈ x.views, v.idx ≠ k) → (∀ j, j < k → ∃ v ∈ x.views, v.idx = j) →
            let n : Word := BitVec.ofNat 32 (wd.toNat * 64 + k)
            ∃ t, exec (.qview true d q) s = .next t ∧ Committed c [(d, n)] (c.pathAt (c.pc + 4) [(d, n)]) t
              ∧ t.world? wd = some { x with views := x.views ++ [⟨k, x.matching req exc⟩] })))
      ∧ (∀ a v, c.getS a = .ok v →
        (c.s.viewOf c.w.part v = none → refused (.qdrop true a) (.qdrop v) closeShape)
        ∧ (∀ w x, c.s.viewOf c.w.part v = some (w, x) → ∃ t, exec (.qdrop true a) s = .next t
          ∧ Committed c [] (c.pathAt (c.pc + 4) []) t
          ∧ t.world? w.id = some { w with views := w.views.filter (·.idx != x.idx) }))

/-- R15, R272, R274 to R276, R296, R297, R439: CAIRNS. CAIRN ends the stage and waits at the hub die, and its leg commits
with the cairn number once the engine has applied it, after the resolutions that waited for the cairn before it (the model's choice, log entry 30: R277 leaves
their order open) and the readier cairns of the partition's other worlds; a ready cairn completes where the pages that it writes are
present, writable and of no format (what a format page does is log entry 87); the groups go in the order of R274; a single operation on a stale handle is dropped, a bracket with one aborts. -/
def Obligations.Cairns : Prop :=
  (∀ (s : State) (c : Ctx) (a d : SReg) (n : Word), MayClose s c → c.getS a = .ok n →
      (c.s.worldNum c.w.part n = none → exec (.cairn true a d) s = .next (c.fail (c.trapHere 0x0104)))
      ∧ (∀ x, c.s.worldNum c.w.part n = some x →
        (c.s.cairnRefused c.w (x.id.zeroExtend 32) = true → exec (.cairn true a d) s = .next ((c.marked (.cairn x.id d)
            closeShape).takeFault (c.markedWave (.cairn x.id d) closeShape) c.k
            { code := 0x0104, addr := c.pc, mask := c.leg.e0 } c.leg.start))
        ∧ (c.s.cairnRefused c.w (x.id.zeroExtend 32) = false → ∃ t w leg, exec (.cairn true a d) s = .next t
          ∧ (let k : Cairn := ⟨c.w.id, c.k, x.stage, false, [], [], 0, none, none, none, []⟩
            let due := fun (y : Cairn) => { y with ready := none }
            ∃ ks, t.world? x.id = some { x with stage := x.stage + 1, subs := 0, cairns := ks }
              ∧ ks.map due = (x.cairns ++ [k]).map due)
          ∧ t.wave? c.w.id = some w ∧ w.regs = c.w.regs ∧ (w.slot c.k).path = some c.path ∧ (w.slot c.k).leg = some leg
          ∧ leg.parked = true ∧ leg.sent = true ∧ leg.reply = none ∧ OtherWaves c t
          ∧ ∀ (u : State) (num : Word), u.waves = (t.setWave (w.setLeg c.k { leg with reply := some num })).waves →
              ∃ t', exec (.legCommit c.w.id c.k) u = .next t' ∧ Committed c [(d, num)] (c.pathAt (c.pc + 4) [(d, num)]) t')))
    ∧ (∀ (s : State) (w : World) (c : Cairn) (rest : List Cairn), s.world? w.id = some w → w.cairns = c :: rest →
      (c.stopped.isSome = true ∨ (c.applying = false ∧ s.cairnReady w c = false) →
          exec (.cairnApply w.id) s = .next s)
      ∧ (∀ v ∈ s.waves, ∀ k leg, v.state = .running → (v.slot k).leg = some leg → (v.slot k).held = false →
          (v.slot k).dead = false → leg.cwait = some w.id → s.cairnReady w c = false)
      ∧ (c.stopped = none → c.applying = false → s.cairnReady w c = true →
        let x := s.cairnGroups w c
        (∀ s' v, s.cairnStrata x.1 x.2 x.1.strata.length = .ok (s', v) → exec (.cairnApply w.id) s = .next
            (let v' := { v with cairn := v.cairn + 1, cairns := rest }
            ((s'.setWorld v').answerCairn x.2 v'.cairn.lo).beginStage v' (x.2.stage + 1)))
        ∧ ((∀ t ∈ x.1.strata, ∀ y ∈ (s.stratumRows x.1 t x.2).2, ∀ k ∈ t.comps, k.1 = y.2.1 → ∃ l,
              s.leaf? w.asid ((k.2 + BitVec.ofNat 64 (x.1.esz.getD k.1 0 * y.1)) &&& ~~~0xFFFF) = some l
                ∧ l.p = true ∧ l.w = true ∧ l.fmt = 0) →
            ∃ t v, exec (.cairnApply w.id) s = .next t ∧ t.world? w.id = some v ∧ v.cairn = w.cairn + 1
              ∧ v.cairns.length = rest.length)
        ∧ (∀ s' v k page code, s.cairnStrata x.1 x.2 x.1.strata.length = .error (s', v, k, page, code) → v.id = w.id →
            s'.worlds = s.worlds → ∃ t tok k', exec (.cairnApply w.id) s = .next t
              ∧ t.world? w.id = some { v with cairns := k' :: rest } ∧ k'.stopped = some tok)))
    ∧ (∀ gs : List Group, ((orderGroups gs).map (·.1)).Perm gs
      ∧ ((orderGroups gs).map (·.1)).Pairwise fun a b => b.sub.isSome = true → a.sub.isSome = true
          ∧ (a.sub.getD 0 < b.sub.getD 0 ∨ (a.sub.getD 0 = b.sub.getD 0 ∧ a.ordinal ≤ b.ordinal)))
    ∧ (∀ (s : State) (w : World) (a : CState) (op : QOp) (g : Group), g.aborted = false → g.crossed = false → g.ops = [op] →
      s.cwork w a op.launch op.handle = none →
      (g.bracket = none → s.applyGroup w a g = (a, true, none))
      ∧ (g.bracket.isSome = true → (s.applyGroup w a g).2 = (false, some op.handle)))

/-! ## Lookout -/

/-- R353, R354, R362 to R365: LKSUB, LKCARD AND LKSTAT. A head that the partition does not own raises 0x0104, before the
address of sA is looked at (the model's choice, log 48); otherwise the leg commits with the head's answer in sD. -/
def Obligations.LookoutInstructions : Prop :=
  (∀ (s : State) (c : Ctx) (d b e : SReg) (a : AReg) (n : Word) (p : Part), MayClose s c → c.getS b = .ok n →
      c.s.part? c.w.part = some p →
      (¬(n.toNat < 16 ∧ p.heads.getLsbD n.toNat = true) → ∀ i ∈ [Instr.lksub true d a b, .lkcard true d a b, .lkstat true d b e],
          exec i s = .next (c.fail (c.trapHere 0x0104)))
      ∧ (n.toNat < 16 → p.heads.getLsbD n.toNat = true →
        let h := c.s.head? n.toNat
        let gives := fun (i : Instr) (v : Word) (t : State) => exec i s = .next t
          ∧ Committed c [(d, v)] (c.pathAt (c.pc + 4) [(d, v)]) t ∧ OtherWaves c t ∧ SameMemory c.s t
        (∀ x r, c.getA a = .ok x → windowOf x = some .glob → x.toNat % 64 = 0 → c.readUnits x 64 2 = .ok r → r.1.leg.out = [] →
            ∃ t, gives (.lksub true d a b) (match h with | none => 0x8000_0001 | some h => (h.latched.submit r.2).2) t
              ∧ t.head? n.toNat = h.map fun h => (h.latched.submit r.2).1)
        ∧ (∀ c' card ws bs, Ctx.lkcard d a b c = .ok c' →
            c'.leg.closing = some (.lkcard d (n.extractLsb' 0 4) card ws bs) → c'.leg.out = [] →
            ∃ t, gives (.lkcard true d a b) (match h with | none => 0x8000_0001 | some h => (h.latched.bindCard card ws bs).2) t
              ∧ t.head? n.toNat = h.map fun h => (h.latched.bindCard card ws bs).1)
        ∧ (∀ i, c.getS e = .ok i →
            (i.toNat < 8 → ∃ t, gives (.lkstat true d b e) (match h with | none => 0 | some h => h.latched.stat i.toNat) t
              ∧ SameButWaves c.s t)
            ∧ (8 ≤ i.toNat → exec (.lkstat true d b e) s = .next (c.fail (c.trapHere 0x0104))))))
    ∧ (∀ (h : Head) (b : List Byte),
      let seq : Word := if h.seq = 0x7FFF_FFFF then 1 else h.seq + 1
      let f := parseSet b seq
      let fits := f.scale * f.rw = h.cfg.hact ∧ f.scale * f.rh = h.cfg.vact ∧ ∀ k, h.bound = some k → k.scale = f.scale
      (h.enabled = false ∨ h.disabling = true → h.submit b = (h, 0x8000_0001))
        ∧ (h.enabled = true → h.disabling = false → (setRangeOk b f = false → h.submit b = (h, 0x8000_0002))
          ∧ (setRangeOk b f = true → ¬fits → h.submit b = (h, 0x8000_0003))
          ∧ (setRangeOk b f = true → fits → h.bound = none → h.submit b = (h, 0x8000_0004))
          ∧ (setRangeOk b f = true → fits → h.bound ≠ none → (h.submit b).2 = seq ∧ (h.submit b).1.seq = seq
            ∧ (h.pend.length ≤ 1 → (h.submit b).1.pend = h.pend ++ [f])
            ∧ (∀ x y, h.pend = [x, y] → (h.submit b).1.pend = [y, f] ∧ (h.submit b).1.superseded = capAdd h.superseded 1))))
    ∧ (∀ (h : Head) (b : List Byte) (ws bs : List (List Byte)),
      (h.enabled = false ∨ h.disabling = true → h.bindCard b ws bs = (h, 0x8000_0001))
        ∧ (h.enabled = true → h.disabling = false → (cardRangeOk b = false → h.bindCard b ws bs = (h, 0x8000_0002))
          ∧ (cardRangeOk b = true → (makeCard b ws bs).valid = false → h.bindCard b ws bs = (h, 0x8000_0003))
          ∧ (cardRangeOk b = true → (makeCard b ws bs).valid = true →
              h.bindCard b ws bs = ({ h with cardNext := some (makeCard b ws bs) }, 0)))
        ∧ (h.enabled = false → ∀ k, h.stat k = 0))

/-- R349, R350, R353, R356, R357, R359 to R361, R364: THE EVENTS OF A HEAD: the latch of a refresh, the start of a band,
its falling to a lower tier, its completion with the counts, and the raster. No other head and no wave changes. The moments
of the latch and of a band's start against the raster, the raster's counting and the code that stands for other faults are
the model's choice (log 54). -/
def Obligations.LookoutEvents : Prop :=
  ∀ (s : State) (n : BitVec 4) (late : Bool) (code : BitVec 16) (addr : DWord),
    (s.head? n.toNat = none → ∀ i ∈ [Instr.refreshLatch n, .bandStart n, .bandProjection n late, .bandLayerEnd n late,
        .tier0Deadline n, .tier1Cutoff n, .bandDone n, .lineScanout n, .lookoutAccessFault n code addr], exec i s = .next s)
      ∧ (∀ h, s.head? n.toNat = some h →
        let gives := fun (i : Instr) (q : Head → Prop) => ∃ t x, exec i s = .next t ∧ t.head? n.toNat = some x ∧ q x
          ∧ t.waves = s.waves ∧ ∀ m, m ≠ n.toNat → t.head? m = s.head? m
        let card := h.cardNext.or h.card
        (h.latchDue = false → exec (.refreshLatch n) s = .next s)
          ∧ (h.latchDue = true → gives (.refreshLatch n) fun x => x.card = card ∧ x.cardNext = none
            ∧ x.bands = h.bands ∧ x.outseq = h.outseq
            ∧ (∀ f, h.cur = some f → h.made < f.nout → x.cur = some f ∧ x.made = h.made + 1 ∧ x.pend = h.pend
                ∧ x.latches = h.latches ++ [⟨h.nextRefresh, some f, f.phase.getD h.made 256, card, 0, false⟩])
            ∧ (∀ g r, h.pend = g :: r → (h.cur = none ∨ ∃ f, h.cur = some f ∧ f.nout ≤ h.made) → x.cur = some g ∧ x.made = 1
                ∧ x.pend = r ∧ x.latches = h.latches ++ [⟨h.nextRefresh, some g, g.phase.getD 0 256, card, 0, false⟩])
            ∧ (∀ f, h.cur = some f → f.nout ≤ h.made → h.pend = [] → x.cur = some f
                ∧ x.latches = h.latches ++ [⟨h.nextRefresh, some f, 256, card, 0, false⟩]
                ∧ x.repeats = (if h.repeats = 0xFFFF_FFFF then h.repeats else h.repeats + 1))
            ∧ (h.cur = none → h.pend = [] → x.latches = h.latches ++ [⟨h.nextRefresh, none, 256, card, 0, false⟩]))
          ∧ ((∀ l ∈ h.latches, h.bandCount ≤ l.bands ∨ h.line < (l.n - 1) * h.cfg.vtotal + 16 * l.bands) →
            exec (.bandStart n) s = .next s)
          ∧ (∀ l ls, h.latches = l :: ls → l.bands < h.bandCount → (l.n - 1) * h.cfg.vtotal + 16 * l.bands ≤ h.line →
            let starts := fun (x : Head) (tier : Nat) (ox oy : Int) => x.bands = h.bands ++ [⟨l.n, l.bands, tier, false, ox, oy⟩]
              ∧ ∃ y ys, x.latches = y :: ys ∧ y.n = l.n ∧ y.bands = l.bands + 1
            (l.set = none → gives (.bandStart n) fun x => starts x 2 0 0)
            ∧ (∀ f, l.set = some f →
              let tier := if l.n = 1 ∨ (f.prev = 0 ∧ 4 ≤ h.num ∧ h.wrote = false) then 2 else 0
              (f.pose = 0 → gives (.bandStart n) fun x => starts x tier 0 0)
              ∧ (∀ b, f.pose ≠ 0 → s.lookRead h.cfg.asid f.pose 16 = .ok b → recNat b 4 4 = 0 →
                gives (.bandStart n) fun x => x.pseq = recWord b 0
                  ∧ starts x tier (poseInt (recWord b 8)) (poseInt (recWord b 12)))))
          ∧ (h.inWork = none → ∀ i ∈ [Instr.bandProjection n late, .bandLayerEnd n late, .bandDone n,
              .lookoutAccessFault n code addr], exec i s = .next s)
          ∧ gives (.tier0Deadline n) (fun x => x = { h with bands := (h.bands.map fun b =>
              if b.done = false ∧ b.tier = 0 ∧ h.dueLine b.n (16 * b.num) ≤ h.line + 4 then { b with tier := 1 } else b) })
          ∧ gives (.tier1Cutoff n) (fun x => x = { h with bands := (h.bands.map fun b =>
              if b.done = false ∧ b.tier ≤ 1 ∧ h.dueLine b.n (16 * b.num) ≤ h.line + 1 then { b with tier := 2 } else b) })
          ∧ (∀ b, h.inWork = some b →
            let at_ := fun (t : Nat) => fun (x : Head) => x.bands = (h.setBand { b with tier := t }).bands
            (late = true → b.tier = 0 → gives (.bandProjection n late) (at_ 1) ∧ gives (.bandLayerEnd n late) (at_ 1))
              ∧ (late = false ∨ b.tier ≠ 0 → exec (.bandProjection n late) s = .next s ∧ exec (.bandLayerEnd n late) s = .next s)
              ∧ (∀ l, h.latches.find? (·.n == b.n) = some l →
                (l.set = none ∨ h.tierNow b = 2 → gives (.bandDone n) (at_ 2))
                ∧ (∀ f, l.set = some f → h.tierNow b = 0 → l.card = none → gives (.bandDone n) (at_ 1))
                ∧ (∀ f rest rows tier, l.set = some f → h.bands = b :: rest →
                  (∀ y ∈ rest, y.done = false ∧ (y.n ≠ b.n ∨ y.num ≠ b.num)) →
                  let c : BandCtx := ⟨s, h, b.n, f, l.phase, b.ox, b.oy⟩
                  (tier = 0 ∧ ∃ k, l.card = some k ∧ bandRows h b.num (c.tier0 k) = .ok rows)
                    ∨ (tier = 1 ∧ bandRows h b.num c.tier1 = .ok rows) → h.tierNow b = tier →
                  gives (.bandDone n) fun x => x.bands = rest ∧ x.tiermap = h.tiermap.set b.num tier
                    ∧ x.miss1 = (if tier = 1 then capAdd h.miss1 1 else h.miss1) ∧ x.miss2 = h.miss2
                    ∧ x.rows = h.rows ++ rows.map (fun r => (h.dueLine b.n r.1, r.2))
                    ∧ (h.bandCount ≤ b.num + 1 → x.bandno = 0 ∧ x.wrote = true
                      ∧ x.outseq = (if h.outseq = 0xFFFF_FFFF_FFFF_FFFF then h.outseq else h.outseq + 1))
                    ∧ (b.num + 1 < h.bandCount → x.bandno = h.bandno + 1 ∧ x.wrote = h.wrote ∧ x.outseq = h.outseq)))
              ∧ (∀ e, s.lookRead h.cfg.asid addr 1 = .error e → e.1 = code →
                gives (.lookoutAccessFault n code addr) fun x => x.fcode = code ∧ x.faddr = e.2.1
                  ∧ x.fcount = capAdd h.fcount 1 ∧ at_ (min 2 (b.tier + 1)) x))
          ∧ (h.enabled = false → exec (.lineScanout n) s = .next s)
          ∧ (h.enabled = true → gives (.lineScanout n) fun x => x.line = h.line + 1 ∧ ∀ r ∈ x.rows, h.line < r.1))

/-! ## Faults, recovery, placement -/

/-- R391, R393 to R396, R410: A PATH TAKES A FAULT. The leg is discarded; the frame saves the resume address, E and WDEP;
FCODE, FADDR and FTOK are written and no other register; the path acts as a CALL to the supervisor page on the lanes of
P, with E the fault mask; where its link vector has room nothing is spilled. In the handler it is a double fault (of a fault
that falls due, where the leg that raised it lay), and so is a delivery that cannot be made, a link vector that cannot be
filled included (R396 names the fetch, 0x0401 and 0x0301; that the fill counts with them is the model's choice, log 28); and
while the other slot is in its handler the slot is held. FAULT_DELIVERY delivers the lowest fault that is due. -/
def Obligations.FaultsAreTaken : Prop :=
  (∀ (s : State) (w : Wave) (k : SlotId) (t : Trap) (resume : DWord) (p : Path), s.wave? w.id = some w →
      (w.slot k).path = some p → t.poison = [] → t.reg = none →
      let u := s.takeFault w k t resume
      let sup := t.sup.getD (inSupervisor p.pc)
      let s0 := s.forgetSieve w k
      let w0 := w.discard k
      (sup = false → (w.slot k.other).inHandler = false → s0.callRefused w0 p.dep.toNat = false →
        s0.handlerFetch w0 = true → w0.deliveryFits p.dep.toNat p.p resume = true → p.dep.toNat < w.regs.imgs.length →
        w.regs.imgs.length ≤ p.dep.toNat + 1 ∨ w.regs.resident (.link (p.dep.toNat + 1)) = true ∨ p.p = Mask.below w.ww →
        ∃ v, u.wave? w.id = some v ∧ (v.slot k).leg = none
          ∧ (v.slot k).path = some { p with pc := 0x000F_FFFF_FFFF_0000, e := t.mask &&& p.p, dep := p.dep + 1, jumped := none }
          ∧ (v.slot k).frame = { (w.slot k).frame with
              rpc := resume, se := p.e, sdep := p.dep, active := true, defer := 0, fmask := t.mask &&& p.p, jumped := p.jumped }
          ∧ (v.slot k).pend = (w.slot k).pend ||| (w.slot k).frame.defer
          ∧ (v.slot k.other).path = (w.slot k.other).path ∧ v.stack = w.stack
          ∧ v.regs.fcode = t.code.zeroExtend 32 ∧ v.regs.faddr = t.addr
          ∧ v.regs.ftok = (match t.tok with | some x => x | none => (s.freshToken w.core.toNat).2)
          ∧ v.regs.s = w.regs.s ∧ v.regs.a = w.regs.a ∧ v.regs.low = w.regs.low ∧ v.regs.glob = w.regs.glob
          ∧ v.regs.qabt = w.regs.qabt
          ∧ (∀ d, d < w.regs.imgs.length → (v.regs.img d).regs = (w.regs.img d).regs)
          ∧ (∀ l, l < w.ww → p.p.getLsbD l = true → laneAddr (linkExpand (v.regs.img (p.dep.toNat + 1)).link) l = resume)
          ∧ (w.residentSlots + w.callSlots p.dep.toNat p.p (fun _ => resume) + (w.slot k.other).resv ≤ w.rb →
            u.mem = s.mem ∧ v.slot k.other = w.slot k.other)
          ∧ ∀ id, id ≠ w.id → u.wave? id = s.wave? id)
        ∧ (w.faultHolds k = false → (sup = true ∨ s0.callRefused w0 p.dep.toNat = true
            ∨ s0.handlerFetch w0 = false ∨ w0.deliveryFits p.dep.toNat p.p resume = false
            ∨ ∃ e, s0.fillLink w0 p 0 = .error e ∧ ∀ n a b, e ≠ .room n a b) →
          ∃ v, u.wave? w.id = some v ∧ (v.slot k).path = some p ∧ (v.slot k).leg = none
          ∧ (v.slot k).dead = true ∧ v.regs = w.regs.setFault t.code t.addr (s.freshToken w.core.toNat).2
          ∧ ∃ e ∈ u.waits, e.wave = w.id ∧ e.slot = k ∧ e.key = v.regs.ftok)
        ∧ (inSupervisor p.pc = false → (w.slot k.other).inHandler = true → ∃ v, u.wave? w.id = some v
          ∧ v.slot k = { w.slot k with leg := none, wait := none, held := true } ∧ v.regs = w.regs))
    ∧ (∀ (s : State) (core : Nat), core < 1024 → (s.tokens[core / 128]?).getD 0 < 2 ^ 60 →
      let r := s.freshToken core
      r.2.getLsbD 63 = true ∧ (r.2.extractLsb' 60 3).toNat = core / 128
        ∧ (r.2.extractLsb' 0 60).toNat = (s.tokens[core / 128]?).getD 0
        ∧ (r.1.tokens[core / 128]?).getD 0 = (s.tokens[core / 128]?).getD 0 + 1)
    ∧ (∀ (s : State) (w : Wave) (k : SlotId) (p : Path), s.wave? w.id = some w → (w.slot k).path = some p →
      (w.slot k).leg = none → w.issues k = true →
      (∀ n, w.unread = false → lowestDefer (w.slot k).frame.defer = some n → (w.slot k.other).inHandler = false → ∃ v x,
        exec (.faultDelivery w.id k) s = .next (s.takeFault v k x p.pc)
          ∧ (v.slot k).frame.defer = (w.slot k).frame.defer &&& ~~~deferBit n ∧ (v.slot k).path = some p
          ∧ x.code = (if n = 8 then 0xA000 + (w.slot k).frame.swcode.zeroExtend 16 else deferCode n)
          ∧ x.sup = some ((w.slot k).sup &&& deferBit n != 0))
        ∧ (∀ x, s.boundary w k p = .ok x → exec (.faultDelivery w.id k) s = .next s))

/-- R397 to R400, R405: TRAP outside the handler makes its fault due after the leg; in the handler it parks under its wait
key until a wake, whose status it gives. SVRET restores PC, E and WDEP from the frame. RPLAY wakes every path under its key
and counts them; that the count takes in the overflow entries with those of the table is the model's choice (log 62). -/
def Obligations.TrapsReturnsAndWakes : Prop :=
  (∀ (s : State) (c : Ctx) (d b : SReg) (a : AReg) (x : DWord) (y : Word), MayClose s c → c.getA a = .ok x → c.getS b = .ok y →
      ((c.w.slot c.k).inHandler = false → ∃ t w, exec (.trap true d a b) s = .next t ∧ t.wave? c.w.id = some w
        ∧ Committed c [] (c.pathAt (c.pc + 4) []) t ∧ OtherWaves c t ∧ SameButWaves c.s t
        ∧ (w.slot c.k).frame.defer.getLsbD 8 = true ∧ (w.slot c.k).frame.swcode = y.extractLsb' 0 8
        ∧ (w.slot c.k).swaddr = x)
      ∧ ((c.w.slot c.k).inHandler = true → (x.getLsbD 63 = true ∨ x.extractLsb' 52 12 = 0) →
        (c.w.slot c.k).frame.waiting = false → c.leg.passed = false → ∃ t w leg, exec (.trap true d a b) s = .next t ∧ t.wave? c.w.id = some w
          ∧ (w.slot c.k).path = some c.path ∧ (w.slot c.k).leg = some leg ∧ leg.parked = true ∧ w.regs = c.w.regs
          ∧ (w.slot c.k).frame.waiting = true ∧ (w.slot c.k).frame.waitkey = x ∧ (w.slot c.k).frame.woken = false
          ∧ (∃ e ∈ t.waits, e.wave = c.w.id ∧ e.slot = c.k ∧ e.key = x)
          ∧ ∀ (u : State) (st : Word), u.waves = (t.setWave (w.setSlot c.k { w.slot c.k with frame :=
                { (w.slot c.k).frame with wakest := st, woken := true } })).waves →
              ∃ t', exec (.legCommit c.w.id c.k) u = .next t' ∧ Committed c [(d, st)] (c.pathAt (c.pc + 4) [(d, st)]) t')
      ∧ ((c.w.slot c.k).inHandler = true → x.getLsbD 63 = false → x.extractLsb' 52 12 ≠ 0 →
        exec (.trap true d a b) s = .next (c.fail (c.trapHere 0x0104)))
      ∧ ((c.w.slot c.k).frame.active = false → exec (.svret true) s = .next ((c.marked .svret closeShape).takeFault
        (c.markedWave .svret closeShape) c.k { code := 0x0104, addr := c.pc, mask := c.leg.e0 } c.leg.start))
      ∧ ((c.w.slot c.k).frame.active = true → ∃ t w, exec (.svret true) s = .next t ∧ t.wave? c.w.id = some w
        ∧ (let f := (c.w.slot c.k).frame
          let q : Path := { c.pathAt (c.pc + 4) [] with pc := f.rpc, e := f.se &&& c.path.p, dep := f.sdep, jumped := f.jumped }
          (w.slot c.k).path = some q ∧ (w.slot c.k).leg = none
            ∧ (f.sdep.toNat < c.w.regs.imgs.length → Committed c [] q t))
        ∧ (w.slot c.k).frame.active = false ∧ (w.slot c.k.other).held = false ∧ OtherWaves c t ∧ SameButWaves c.s t)
      ∧ ((x.getLsbD 63 = true ∨ x.extractLsb' 52 12 = 0) →
        let n : Word := BitVec.ofNat 32 (min (c.s.wakeKey x c.w.asid c.w.part y).2 0xFFFF_FFFF)
        ∃ t, exec (.rplay true d a b) s = .next t ∧ Committed c [(d, n)] (c.pathAt (c.pc + 4) [(d, n)]) t
          ∧ t.waits = (c.s.wakeKey x c.w.asid c.w.part y).1.waits ∧ SameMemory c.s t)
      ∧ (x.getLsbD 63 = false → x.extractLsb' 52 12 ≠ 0 → exec (.rplay true d a b) s = .next (c.fail (c.trapHere 0x0104))))
    ∧ (∀ (s : State) (key : DWord) (asid : BitVec 16) (part : BitVec 3) (st : Word),
      let hit := fun (e : WaitEntry) => (e.overflow = true ∧ e.asid = asid)
        ∨ (key.getLsbD 63 = true ∧ e.key = key ∧ e.part = part)
        ∨ (key.getLsbD 63 = false ∧ e.key.getLsbD 63 = false ∧ e.asid = asid ∧ e.key >>> 16 = key >>> 16)
      (∀ e, e ∈ (s.wakeKey key asid part st).1.waits ↔ e ∈ s.waits ∧ ¬hit e)
        ∧ (key.getLsbD 63 = false → (s.wakeKey key asid part st).2
            = s.waits.length - (s.wakeKey key asid part st).1.waits.length))

/-- R401 to R404, R32: MAPFT maps a free granule of the pool, cleared, at a reserved leaf, MAPCW breaks copy-on-write
sharing, each with its code in sD once no access that has been sent
holds a shoot-down of its ASID; CSRR gives a control register as the leg began, and CYC as it runs on (R404 says the count at the
cycle of issue; how many cycles have passed is free, `Config.cycStep`: the model's choice, log 5, with 20 and 35); CSRW writes
the writable fields at commit. -/
def Obligations.MappingsAndControlRegisters : Prop :=
  (∀ (s : State) (c : Ctx) (d : SReg) (a : AReg) (x : DWord), MayClose s c → c.getA a = .ok x →
      (windowOf x = none → ∀ i ∈ [Instr.mapft true d a, .mapcw true d a], exec i s = .next (c.fail (c.trap 0x1103 x)))
      ∧ (∀ v, windowOf x = some v → v ≠ .glob → ∀ i ∈ [Instr.mapft true d a, .mapcw true d a],
          exec i s = .next (c.fail (c.trap 0x1104 x)))
      ∧ (windowOf x = some .glob → ∀ (i : Instr) (r : State × Nat), (i, r) ∈
          [(Instr.mapft true d a, c.s.mapFirstTouch c.w.asid c.w.part x),
            (.mapcw true d a, c.s.mapCopyOnWrite c.w.asid c.w.part x)] →
          let v : Word := BitVec.ofNat 32 r.2
          (c.s.shootHeld c.w.asid = true → ∃ cl, exec i s = .next (c.marked cl closeShape))
          ∧ (c.s.shootHeld c.w.asid = false → ∃ t, exec i s = .next t
            ∧ Committed c [(d, v)] (c.pathAt (c.pc + 4) [(d, v)]) t
            ∧ t = { r.1 with waves := t.waves, cores := t.cores }
            ∧ (t.shootSeq = c.s.shootSeq → t = { r.1 with waves := t.waves } ∧ OtherWaves c t))))
    ∧ (∀ (s : State) (asid : BitVec 16) (part : BitVec 3) (va : DWord),
      (∀ l, s.leaf? asid va = some l → l.p = true → s.mapFirstTouch asid part va = (s, 1))
      ∧ ((s.leaf? asid va).filter (·.p) = none → s.reservedLeaf asid va = none → s.mapFirstTouch asid part va = (s, 3))
      ∧ (∀ l, (s.leaf? asid va).filter (·.p) = none → s.reservedLeaf asid va = some l → s.poolGranule part = none →
          s.mapFirstTouch asid part va = (s, 2))
      ∧ (∀ t, s.mapFirstTouch asid part va = (t, 0) → ∃ loc dev pa l, s.poolGranule part = some (loc, dev, pa)
          ∧ t.leaf? asid va = some l ∧ l.p = true ∧ l.loc = loc ∧ l.dev = dev ∧ l.pa = BitVec.ofNat 64 pa
          ∧ (s.sound → (∀ i, i < 65536 → Memory.get t.mem (physKey loc dev pa + i) = 0)
            ∧ SameOutside s t (physKey loc dev pa) 65536))
      ∧ ((s.leaf? asid va).filter (·.p) = none → s.mapCopyOnWrite asid part va = (s, 3))
      ∧ (∀ l, (s.leaf? asid va).filter (·.p) = some l →
        (l.w = true → s.mapCopyOnWrite asid part va = (s, 1))
        ∧ (l.w = false → l.size ≠ 0 ∨ l.cw = false → s.mapCopyOnWrite asid part va = (s, 3))
        ∧ (∀ t, s.mapCopyOnWrite asid part va = (t, 4) → t.mem = s.mem ∧ t.leaf? asid va = some { l with w := true, cw := false })
        ∧ (∀ t, s.mapCopyOnWrite asid part va = (t, 0) → ∃ l' loc dev pa, s.poolGranule part = some (loc, dev, pa)
          ∧ t.leaf? asid va = some l' ∧ l'.w = true ∧ l'.cw = false ∧ l'.loc = loc ∧ l'.dev = dev ∧ l'.pa = BitVec.ofNat 64 pa
          ∧ (let src := physKey l.loc l.dev l.pa.toNat
            let dst := physKey loc dev pa
            s.sound → src + 65536 ≤ dst ∨ dst + 65536 ≤ src →
              SameOutside s t dst 65536 ∧ ∀ i, i < 65536 → Memory.get t.mem (dst + i) = Memory.get s.mem (src + i)))))
    ∧ (∀ (s : State) (c : Ctx) (m : Bool) (n : BitVec 12) (r : BitVec 6), Issues s c plainShape m →
      (n ≠ 0x070 → (csrWide n = some false → exec (.csrr m n r) s = .next ((c.setS r (c.csrValue n).lo).advance plainShape m))
        ∧ (csrWide n = some true →
          exec (.csrr m n r) s = .next ((c.setA (r.extractLsb' 0 4) (c.csrValue n)).advance plainShape m)))
      ∧ (let co := c.s.core c.w.core.toNat
        let cyc := co.cyc + Config.cycStep c.s.tick
        exec (.csrr m 0x070 r) s = .next ((({ c with s := c.s.setCore { co with cyc := cyc } } : Ctx).setA
          (r.extractLsb' 0 4) cyc).advance plainShape m))
      ∧ c.csrValue 0x000 = c.w.wid.zeroExtend 64 ∧ (c.csrValue 0x001).toNat = 1024 * c.w.quad.toNat + c.w.core.toNat
      ∧ c.csrValue 0x007 = c.path.dep.zeroExtend 64 ∧ c.csrValue 0x010 = c.w.spb ∧ c.csrValue 0x011 = c.w.spl
      ∧ c.csrValue 0x020 = c.leg.snap.fcode.zeroExtend 64 ∧ c.csrValue 0x021 = c.leg.snap.faddr
      ∧ c.csrValue 0x050 = c.leg.tprog.zeroExtend 64 ∧ c.csrValue 0x022 = c.leg.snap.ftok ∧ c.csrValue 0x023 = c.leg.snap.qabt
      ∧ (∀ k : Fin 8, c.csrValue (BitVec.ofNat 12 (0x030 + k.val)) = c.leg.snap.nf[k].zeroExtend 64)
      ∧ c.csrValue 0x040 = c.leg.snap.csat.zeroExtend 64 ∧ c.csrValue 0x041 = c.leg.snap.cftz.zeroExtend 64
      ∧ c.csrValue 0x042 = c.leg.snap.cnan.zeroExtend 64 ∧ c.csrValue 0x060 = c.w.asid.zeroExtend 64
      ∧ c.csrValue 0x061 = c.w.part.zeroExtend 64)
    ∧ (∀ (s : State) (c : Ctx) (n : BitVec 12) (r : BitVec 6) (v : DWord), MayClose s c → c.csrSource n r = .ok v →
      ∃ t w, exec (.csrw true n r) s = .next t ∧ t.wave? c.w.id = some w ∧ OtherWaves c t ∧ SameButWaves c.s t
        ∧ (w.slot c.k).path = some (c.pathAt (c.pc + 4) []) ∧ (w.slot c.k).leg = none
        ∧ w.regs = (c.w.regs.writeCsr n v).commit (c.written []) c.w.ww)
    ∧ (∀ (g : Regs) (v : DWord), g.writeCsr 0x020 v = { g with fcode := v.lo &&& 0xFFFF }
      ∧ g.writeCsr 0x021 v = { g with faddr := v } ∧ g.writeCsr 0x040 v = { g with csat := v.lo }
      ∧ g.writeCsr 0x041 v = { g with cftz := v.lo } ∧ g.writeCsr 0x042 v = { g with cnan := v.lo }
      ∧ (g.writeCsr 0x043 v).pwb = (g.pwb && !v.getLsbD 0)
      ∧ (∀ k : Fin 8, (g.writeCsr (BitVec.ofNat 12 (0x030 + k.val)) v).nf = g.nf.set k (v.lo &&& 0x1FFFF))
      ∧ ∀ n : BitVec 12, n ∉ [0x020, 0x021, 0x040, 0x041, 0x042, 0x043] → (n.toNat < 0x030 ∨ 0x037 < n.toNat) →
        g.writeCsr n v = g)

/-- R22, R303, R305 to R308, R312, R313: PLACEMENT. WAVE_BIND binds the launch's next wave with every register at its start
value; WAVE_PREEMPT leaves the waves of other units alone, waits while a side effect has been sent, and suspends every wave of
a unit whose save areas take its image; WAVE_REBIND restores the unit of the partition's first waiting wave where it fits and
posts a context-fit record where no core of the partition fits. The model's choices: the lowest free slot-table entry (log
21), when a suspended unit goes before a launch (`awaitsRebind`, `nextLaunch`: log 22, 23) and what does not fit
(`planMisfit`, `unitMisfit`: log 58). -/
def Obligations.Placement : Prop :=
  ∀ (s : State) (core : BitVec 10) (quad : BitVec 2),
    (s.nextLaunch core.toNat quad.toNat = none → exec (.waveBind core quad) s = .next s)
      ∧ (∀ l e, s.nextLaunch core.toNat quad.toNat = some l → s.freeEntry core.toNat quad.toNat = some e → l.query = none →
        ∃ t w, exec (.waveBind core quad) s = .next t ∧ t.waves = s.waves ++ [w] ∧ t.nextId = s.nextId + 1
          ∧ w.id = s.nextId ∧ w.launch = l.id ∧ w.wid = BitVec.ofNat 32 l.next ∧ w.core = core ∧ w.quad = quad ∧ w.entry = e
          ∧ w.state = .bound ∧ w.ww = l.lr.ww ∧ w.rb = l.lr.rb ∧ w.asid = l.asid ∧ w.part = l.part
          ∧ w.spb = l.lr.sab + BitVec.ofNat 64 (l.next * l.lr.sasz) ∧ w.spl = w.spb + BitVec.ofNat 64 l.lr.sasz
          ∧ w.regs = Regs.start l.lr.ww ∧ w.s0.path = some ⟨l.lr.entry, Mask.below l.lr.ww, Mask.below l.lr.ww, 0, none, none⟩
          ∧ w.s0.leg = none ∧ w.s1 = Slot.empty ∧ w.stack = []
          ∧ t.launches = s.launches.map fun x => if x.id = l.id then { l with next := l.next + 1 } else x)
      ∧ (∀ n l, s.launch? n = some l → (s.preemptWanted l core.toNat = true
          ∨ (s.unitOf l core.toNat).any (·.state == .suspending) = true) →
        ∃ t, exec (.wavePreempt n core) s = .next t
          ∧ (∀ id, (∀ w ∈ s.unitOf l core.toNat, w.id ≠ id) → t.wave? id = s.wave? id)
          ∧ ((s.unitOf l core.toNat).any (fun w => w.s0.settling || w.s1.settling) = true → SameButWaves s t
            ∧ ∀ w ∈ s.unitOf l core.toNat, ∃ x, t.wave? w.id = some x ∧ x.state = .suspending)
          ∧ ((s.waves.map (·.id)).Nodup → s.unitOf l core.toNat ≠ [] →
            (∀ w ∈ s.unitOf l core.toNat, w.s0.settling = false ∧ w.s1.settling = false ∧ w.hamper = none ∧ w.stack = []
              ∧ s.porterOf w.id = [] ∧ s.basaltOf w.id = [] ∧ 1 ≤ w.regs.imgs.length
              ∧ s.frameBase w + 17408 * w.regs.imgs.length ≤ 2 ^ 64
              ∧ ∀ va n, w.spb.toNat ≤ va.toNat → va.toNat < s.frameBase w + 17408 * w.regs.imgs.length →
                ∃ q, s.savePiece w va n true = .ok q ∧ s.deadFault [q] = none) →
            (∀ w ∈ s.unitOf l core.toNat, ∃ x, t.wave? w.id = some x ∧ x.state = .suspended ∧ x.regs = w.regs)
            ∧ ∃ us, t.units = s.units ++ us ∧ ∀ w ∈ s.unitOf l core.toNat, ∃ u ∈ us, u.launch = l.id ∧ w.id ∈ u.waves))
      ∧ (∀ n l, s.launch? n = some l → s.preemptWanted l core.toNat = false →
        (s.unitOf l core.toNat).any (·.state == .suspending) = false → exec (.wavePreempt n core) s = .next s)
      ∧ (∀ w u l p, s.wave? w.id = some w → s.savedUnit w.id = some u → s.launch? w.launch = some l → s.part? w.part = some p →
        (s.awaitsRebind w = false → exec (.waveRebind w.id core quad) s = .next s)
        ∧ (s.awaitsRebind w = true → s.rebindFits w = true →
          (p.cpmask.getLsbD (core.toNat / 16) = false ∨ s.nextWaiting w.part ≠ some (.wave w.id) →
            exec (.waveRebind w.id core quad) s = .next s)
          ∧ (p.cpmask.getLsbD (core.toNat / 16) = true → s.nextWaiting w.part = some (.wave w.id) →
            (s.seatUnits l quad.toNat true (s.rebindPlan l u [core.toNat] p.cores) = none →
              exec (.waveRebind w.id core quad) s = .next s)
            ∧ (∀ x, s.seatUnits l quad.toNat true (s.rebindPlan l u [core.toNat] p.cores) = some x →
              exec (.waveRebind w.id core quad) s = .next (x.2.foldl (fun s y => s.restoreUnit l y) x.1))
            ∧ (l.lr.all = false → l.lr.prod = 0 → u.waves = [w.id] → s.unitMisfit l u core.toNat = none →
              ∃ t x, exec (.waveRebind w.id core quad) s = .next t ∧ t.wave? w.id = some x ∧ x.state = .running
                ∧ x.core = core ∧ x.launch = w.launch ∧ u ∉ t.units)))
        ∧ (s.awaitsRebind w = true → s.rebindFits w = false → (s.heldRecs.filter (·.part == w.part)).length < 4096 →
          ∃ t x, exec (.waveRebind w.id core quad) s = .next t ∧ t.wave? w.id = some x ∧ x = { w with refusedFit := true }
            ∧ t.recNum = s.recNum.set w.part.toNat (s.recNum[w.part.toNat]'w.part.isLt + 1) w.part.isLt
            ∧ SameMemory s t
            ∧ ∃ seq, let m := s.planMisfit l (s.rebindPlan l u p.cores p.cores)
              let r : FRec := ⟨w.part, 3, contextRecord seq (suspendBytes l.addr w.wid m.1 m.2.1 m.2.2)⟩
              seq = s.recNum[w.part.toNat]'w.part.isLt ∧ (t.heldRecs = s.heldRecs ++ [r] ∨
                ({ s with recNum := t.recNum }.setWave x).writeRecord r = t)))

/-! ## Links, ports, the mailbox, power -/

/-- R203, R240, R247, R417, R419, R420: WHAT NEVER COMES BACK. An atomic whose AtomicOp fails or gets no answer commits,
with the fault due after its leg on the failing lanes: 0x3001 (and HAU of the page), 0x3002 or 0x3003; the memory of the
failing lanes changes only where the far side performed the operation; while other lanes are without their answers the leg
waits for them. A read or a store to another device that the leg waits for and that gets no answer discards its leg with
0x3003, and so does a fetch. A failed posted write is counted with its address; a store to CXL memory without an answer
discards its leg with 0x2001 and poisons the line, and another line without one holds an error; a link that goes down is down;
a domain access is held to the export table. -/
def Obligations.FarAnswers : Prop :=
  (∀ (s : State) (w : Wave) (k : SlotId) (p : Path) (leg : Leg) (lanes : Mask) (abort done : Bool) (op : AtomOp) (ty : LTy)
      (n : Nat) (dst : Sel) (ls : List AtomLane),
      s.parkedLeg w.id k = some (w, p, leg) → leg.out = [] → leg.sent = true → leg.stores = [] → leg.fences = [] →
      leg.cinvs = [] → (∀ o, (w.slot k.other).leg = some o → o.sent = false) →
      leg.failed = 0 → leg.failBit = 0 → leg.failDone = 0 → leg.poisoned = 0 → leg.crossed = [] → w.stack = [] →
      w.s0.took = none → w.s1.took = none → w.state ≠ .suspended →
      leg.closing = some (.atomic false op ty n dst ls) →
      ∀ (i : Instr) (bit : Nat) (host perf : Bool) (lm : Mask), (i, bit, host, perf, lm) ∈
          [(Instr.hostAtomicFailure w.id k lanes abort, if abort then 2 else 1, true, false, lanes),
            (.completionTimeout w.id k lanes done, 3, true, done, lanes),
            (.domainResponseTimeout w.id k lanes done, 3, false, done, lanes)] →
        let far := fun (l : AtomLane) => l.pieces.any fun q => match q.far? with | some u => u.1 == host | none => false
        let fm := maskOf ((ls.filter fun l => lm.getLsbD l.lane && far l).map (·.lane))
        let perfd := if perf then fm else 0
        (∃ l ∈ ls, lm.getLsbD l.lane = true ∧ far l = true) →
          ∃ t v, exec i s = .next t ∧ t.wave? w.id = some v
            ∧ ((∀ l ∈ ls, (l.pieces.any fun q => q.far?.isSome) = true → lm.getLsbD l.lane = true ∧ far l = true) →
              (v.slot k).leg = none ∧ (∃ q, (v.slot k).path = some q ∧ q.pc = leg.next)
              ∧ (v.slot k).frame.defer.getLsbD bit = true ∧ (v.slot k).hmask = fm
              ∧ t.mem = (atomRun op ty n fm perfd ls s.mem).2)
            ∧ (∀ l ∈ ls, (l.pieces.any fun q => q.far?.isSome) = true → (lm.getLsbD l.lane = false ∨ far l = false) →
              fm.getLsbD l.lane = false → (v.slot k).path = (w.slot k).path ∧ t.mem = s.mem
              ∧ (v.slot k).leg = some { leg with failed := fm, failBit := deferBit bit, failDone := perfd })
            ∧ (bit = 1 → ∀ l ∈ ls, lm.getLsbD l.lane = true → far l = true → ∀ q ∈ l.pieces, ∀ x ∈ t.leaves, ∀ f,
                q.leaf = some f → x.asid = f.asid → x.va = f.va → x.size = f.size → x.hau = true))
    ∧ (∀ (s : State) (w : Wave) (k : SlotId) (leg : Leg) (lanes : Mask) (done : Bool), s.wave? w.id = some w →
      (w.slot k).leg = some leg → w.state ≠ .suspended → leg.sent = false →
      let lost := fun (o : OutRead) => o.lanes.filter fun l => o.scalar.isSome || lanes.getLsbD l.1
      let waits := fun (host : Bool) => leg.out.any fun o => !o.cxl && o.host == host
      ∀ (i : Instr) (host : Bool), (i, host) ∈ [(Instr.completionTimeout w.id k lanes done, true),
          (.domainResponseTimeout w.id k lanes done, false)] →
        (∀ o, leg.out.find? (fun x => !x.cxl && x.host == host && !(lost x).isEmpty) = some o → ∀ x r, lost o = x :: r →
            exec i s = .next (s.takeFault w k
              { code := 0x3003, addr := x.2, mask := o.scalar.getD (maskOf ((lost o).map (·.1))) } leg.start))
          ∧ (waits host = true → leg.out.find? (fun x => !x.cxl && x.host == host && !(lost x).isEmpty) = none →
            exec i s = .next s)
          ∧ (∀ p x u, waits host = false → (w.slot k).path = some p → w.issues k = true →
            s.translate w.asid leg.next 4 .fetch = .ok x → x.far? = some u → u.1 = host →
            exec i s = .next (s.takeFault w k { code := 0x3003, addr := leg.next, mask := leg.e0 } leg.start)))
    ∧ (∀ (s : State) (w : Wave) (k : SlotId) (p : Path) (x : Piece) (u : Bool × BitVec 4) (lanes : Mask) (done : Bool),
      s.wave? w.id = some w → (w.slot k).path = some p → (w.slot k).leg = none → w.issues k = true →
      s.translate w.asid p.pc 4 .fetch = .ok x → x.far? = some u →
      exec (if u.1 then Instr.completionTimeout w.id k lanes done else .domainResponseTimeout w.id k lanes done) s
        = .next (s.takeFault w k { code := 0x3003, addr := p.pc, mask := p.e } p.pc))
    ∧ (∀ (s : State) (k : PortId) (a : DWord), exec (.lateCompletion k) s = .next s
      ∧ ((s.port k).posted.find? (fun x => x.addr == a && x.fq.isNone) = none → exec (.postedWriteError k a) s = .next s)
      ∧ (∀ x, (s.port k).posted.find? (fun x => x.addr == a && x.fq.isNone) = some x → exec (.postedWriteError k a) s
          = .next (s.setPort k { s.port k with
              posted := (s.port k).posted.erase x, pwaddr := a,
              pwerr := if (s.port k).pwerr = 0xFFFF_FFFF then 0xFFFF_FFFF else (s.port k).pwerr + 1 })))
    ∧ (∀ (s : State) (c : BitVec 2) (a : DWord) (link : BitVec 4),
      let line := lineOf (physKey 1 (c.zeroExtend 4) a.toNat)
      let down := fun (t : State) => ∀ i, i < 4 → t.cxlUp.getLsbD i = (s.cxlUp.getLsbD i && decide (i ≠ c.toNat))
      ((∀ w ∈ s.waves, ∀ k leg, (w.slot k).leg = some leg → ∀ o ∈ leg.out, ¬(o.cxl = true ∧ o.dev = c.zeroExtend 4)) →
        (∃ t, exec (.cxlResponseTimeout c a) s = .next t ∧ t = { s with errs := t.errs }
          ∧ ∀ l, l ∈ t.errs ↔ l ∈ s.errs ∨ (l = line ∧ l ∉ s.poison))
        ∧ ∃ t, exec (.cxlLinkLoss c) s = .next t ∧ t = { s with cxlUp := t.cxlUp } ∧ down t)
      ∧ (∀ (w : Wave) (k : SlotId) (leg : Leg), s.waves = [w] → (w.slot k).leg = some leg → w.state ≠ .suspended →
        (∀ o, (w.slot k.other).leg = some o → o.out = []) →
        let fails := fun (s : State) (lines : Nat → Bool) (x : Nat × DWord × Option Mask) (ls : List (Nat × DWord × Option Mask)) =>
          s.takeFault w k {
            code := 0x2001, addr := x.2.1, mask := x.2.2.getD (maskOf (ls.map (·.1))),
            poison := (pieceLines (((s.legStores w leg).flatMap (·.pieces)).filter
              fun p => p.owner? == some (true, c.zeroExtend 4))).filter lines } leg.start
        (∀ x r, s.cxlLanes w leg (c.zeroExtend 4) (· == line) = x :: r →
            exec (.cxlResponseTimeout c a) s = .next (fails s (· == line) x (x :: r)))
        ∧ (∀ t x r, t = { s with cxlUp := t.cxlUp } → down t → t.cxlLanes w leg (c.zeroExtend 4) (fun _ => true) = x :: r →
            exec (.cxlLinkLoss c) s = .next (fails t (fun _ => true) x (x :: r))))
      ∧ (∃ t, exec (.jexkinLinkLoss link) s = .next t ∧ t = { s with jexUp := t.jexUp }
        ∧ ∀ i, i < 12 → t.jexUp.getLsbD i = (s.jexUp.getLsbD i && decide (i ≠ link.toNat))))
    ∧ (∀ (s : State) (peer : BitVec 4) (a : DWord) (n : Nat) (b : List Byte) (op : AtomOp) (ty : LTy) (x y : BitVec 128),
      let ok := fun (len : Nat) => ∃ e ∈ s.exports, e.base ≤ a.toNat ∧ a.toNat + len ≤ e.base + e.len
      let read := fun (len : Nat) => (List.range len).map fun i => Memory.get s.mem (a.toNat + i)
      let k := atomBytes op ty
      (∀ (r : DomainReq) (len : Nat), (r, len) ∈ [(DomainReq.read a n, n), (.write a b, b.length), (.atomic a op ty x y, k)] →
          ¬ok len → exec (.domainInboundAccess peer r) s = .next { s with domAnswer := .refused 0x1002 })
        ∧ (ok n → s.lineFault (linesOf a.toNat n) = none → exec (.domainInboundAccess peer (.read a n)) s
          = .next { s with domAnswer := .data (read n) })
        ∧ (ok b.length → exec (.domainInboundAccess peer (.write a b)) s
          = .next { s with mem := Memory.write s.mem a.toNat b, domAnswer := .none })
        ∧ (ok k → s.lineFault (linesOf a.toNat k) = none → exec (.domainInboundAccess peer (.atomic a op ty x y)) s
          = .next { s with domAnswer := .data (read k), mem := Memory.write s.mem a.toNat (leBytes
              (atomNew op ty k (leNat (read k)) (x.toNat % 2 ^ (8 * k)) (y.toNat % 2 ^ (8 * k))) k) }))

/-- R304, R382, R400, R406, R408, R414, R415: THE REGISTERS OF A PORT. The semaphore goes to the first reader and back
with HELD; a replay with GO from a port that may use the partition and its ASID wakes the key's paths; registers
ignore writes while their GO reads 1, or from a port that does not own the semaphore; a root launch leaves its reason,
the first of R302 that holds; a held record enters the queue once there is room. The model's choices: which halves and
low words a write reaches (log 16), REASON kept where a launch is accepted (log 17), and that the Guide takes a root
launch with a turn of its own, `runOwn` (log 18). R414, R416: INBOUND ACCESS through an aperture window: a window that
is off, or whose ASID is in no partition of the port, answers Unsupported Request; an access that faults answers
Completer Abort and changes no byte (R419: the lines behind a CXL link that is down become poisoned); a read answers
with the bytes, a write changes just its bytes, an AtomicOp answers with the old value and leaves the new one. -/
def Obligations.PortRegisters : Prop :=
  (∀ (s : State) (k : PortId) (v : DWord),
      let p := s.port k
      let own : BitVec 2 := match k with | .p0 => 1 | .p1 => 2
      (let t := { s with owner := if s.owner = 0 then own else s.owner }
          let d := leBytes ((if t.owner = own then 256 else 0) + t.owner.toNat) 4 ++ leBytes 0 4
          exec (.semaphoreAcquire k) s = .next (t.setPort k { t.port k with answer := .data d }))
        ∧ (exec (.semaphoreRelease k) s = .next { s with owner := if s.owner = own then 0 else s.owner })
        ∧ (p.rpgo = false →
          let t := s.setPort k { p with rpstat := v.extractLsb' 32 32, rpasid := v.extractLsb' 16 16, rppart := v.extractLsb' 0 3 }
          let may := v.getLsbD 3 && s.portAllowed k (v.extractLsb' 0 3) && s.partHasAsid (v.extractLsb' 0 3) (v.extractLsb' 16 16)
          exec (.portReplay k v) s = .next (if may then
            (t.wakeKey p.rpkey (v.extractLsb' 16 16) (v.extractLsb' 0 3) (v.extractLsb' 32 32)).1 else t))
        ∧ (p.rlgo = true → exec (.rootLaunch k v.lo) s = .next s ∧ exec (.registerWrite k 0x008 v) s = .next s)
        ∧ (p.rlgo = false →
          let t := s.setPort k { p with
            rlasid := v.lo.extractLsb' 16 16, rlpart := v.lo.extractLsb' 0 3, rlgo := v.lo.getLsbD 3 && s.mode != 2 }
          exec (.rootLaunch k v.lo) s = .next t ∧ exec (.registerWrite k 0x008 v) s = .next t
            ∧ s.runOwn (.root k) = .next s)
        ∧ (p.rlgo = true → s.mode = 1 →
          let ends := fun (u : State) (reason : BitVec 16) => s.runOwn (.root k) = .next (u.setPort k
            { u.port k with rlgo := false, rlreason := if reason = 0 then (u.port k).rlreason else reason,
                            rlstate := if reason = 0 then 1 else 2 })
          (p.rladdr.toNat % 64 ≠ 0 ∨ isGlobal p.rladdr = false → ends s 9)
            ∧ (p.rladdr.toNat % 64 = 0 → isGlobal p.rladdr = true →
              (s.readRecord p.rlasid p.rladdr 256 = none → ends s 9)
              ∧ ∀ b, s.readRecord p.rlasid p.rladdr 256 = some b →
                (let granted := s.portAllowed k p.rlpart && s.partHasAsid p.rlpart p.rlasid
                let r := s.acceptLaunch p.rlasid p.rlpart ((parseLaunch b).view || (parseLaunch b).qrec != 0) granted none p.rladdr
                ends r.1 r.2 ∧ (granted = false → r.2 ≠ 0))))
        ∧ (s.owner ≠ own → ∀ off ∈ [(0x108 : BitVec 16), 0x110, 0x408, 0x40C, 0x800, 0x808, 0x8F0, 0x8F8],
            exec (.registerWrite k off v) s = .next s)
        ∧ (s.owner = own → p.mbgo = false → exec (.registerWrite k 0x108 v) s = .next (s.setPort k { p with mbaddr := v }))
        ∧ (s.owner = own → exec (.registerWrite k 0x40C v) s = .next { s with plimit := v.lo })
        ∧ (s.owner = own → ∀ i : Fin 16, exec (.registerWrite k (BitVec.ofNat 16 (0x808 + 16 * i.val)) v) s
            = .next (s.setPort k { p with win := p.win.set i { p.win[i] with vabase := v } }))
        ∧ (p.rpgo = false → exec (.registerWrite k 0x180 v) s = .next (s.setPort k { p with rpkey := v }))
        ∧ (exec (.registerWrite k 0x300 v) s = .next (s.setPort k
            { p with cto := v.extractLsb' 0 20, pwerr := p.pwerr &&& ~~~(v.extractLsb' 32 32) }))
        ∧ (∀ off : BitVec 16, 0x900 ≤ off.toNat → exec (.registerWrite k off v) s = .next s)
        ∧ (∀ q : BitVec 3, ((s.port (s.recPort q)).room q = false ∨ s.heldRecs.find? (·.part == q) = none →
            exec (.faultQueueFlush q) s = .next s)
          ∧ ∀ r, (s.port (s.recPort q)).room q = true → s.heldRecs = [r] → r.part = q → s.waitRecs = [] →
            exec (.faultQueueFlush q) s = .next ({ s with heldRecs := [] }.writeRecord r)))
    ∧ (∀ (s : State) (k : PortId) (off : BitVec 40) (n : Nat) (b : List Byte) (r : InboundAtomic), s.sound →
      let answers := fun (i : Instr) (a : Answer) => exec i s = .next (s.setPort k { s.port k with answer := a })
      (s.apertureAddr k off = none → answers (.apertureAccess k (.read off n)) .unsupported
          ∧ answers (.apertureAccess k (.write off b)) .unsupported)
        ∧ (s.apertureAddr k r.off = none → answers (.inboundAtomicop k r) .unsupported)
        ∧ (∀ asid va, s.apertureAddr k off = some (asid, va) →
          let aborts := fun (i : Instr) (ls : List Nat) => exec i s
            = .next ((s.markPoison ls).setPort k { s.port k with answer := .abort })
          (∀ ls, s.inboundBytes asid va .read n = .error ls → aborts (.apertureAccess k (.read off n)) ls)
          ∧ (∀ ls, s.inboundBytes asid va .write b.length = .error ls → aborts (.apertureAccess k (.write off b)) ls)
          ∧ (∀ ps, s.inboundBytes asid va .read n = .ok ps → s.lineFault (pieceLines ps) = none →
            answers (.apertureAccess k (.read off n)) (.data (ps.map fun p => Memory.get s.mem p.key)))
          ∧ (∀ ps, s.inboundBytes asid va .write b.length = .ok ps → ∃ t, exec (.apertureAccess k (.write off b)) s = .next t
            ∧ (t.port k).answer = .none ∧ t.waves = s.waves
            ∧ ∀ key, (∀ p ∈ ps, key < p.key ∨ p.key + p.len ≤ key) → Memory.get t.mem key = Memory.get s.mem key))
        ∧ (∀ asid va ps, s.apertureAddr k r.off = some (asid, va) → r.width = 4 ∨ r.width = 8 → va.toNat % r.width = 0 →
          s.inboundBytes asid va .write r.width = .ok ps → s.lineFault (pieceLines ps) = none →
          let old := leNat (readPieces s.mem ps)
          let new := match r.op with
            | .fetchAdd => (old + r.operand.toNat) % 2 ^ (8 * r.width)
            | .swap => r.operand.toNat % 2 ^ (8 * r.width)
            | .cas => if old = r.compare.toNat % 2 ^ (8 * r.width) then r.operand.toNat % 2 ^ (8 * r.width) else old
          ∃ t, exec (.inboundAtomicop k r) s = .next t ∧ (t.port k).answer = .data (leBytes old r.width)
            ∧ t.mem = writePieces s.mem ps (leBytes new r.width)))

/-- R383 to R385, R423: THE MAILBOX. The handler of a request acts only on a started request of its OP, once the
device has left its start, and while no MAP of the other port moves pages; Nuver mode, a scrapped device and a
transition that R387 does not list refuse first (0x0C09, 0x0C06), then a bad header (0x0C01), then what the request's
own rule refuses; a request that carries work is refused with 0x000B and an unknown one with 0x0C01. A refusal changes
nothing but the RESULT and STATE of the port; a success gives RESULT 0 after its response data. R367, R368, R385 to
R388, R390, R402, R425: WHAT A REQUEST THAT SUCCEEDS HAS DONE. The model's choices: FWVER stays until the new firmware
starts (log 77), and a PART_RELEASE has no condition and stops what runs in the partition (log 55). -/
def Obligations.Mailbox : Prop :=
  (∀ (s : State) (k : PortId),
      let p := s.port k
      let body := p.mbrec.drop 64
      let refuses := fun (i : Instr) (c : BitVec 16) => exec i s = .next (s.setPort k
        { p with mbgo := false, mbresult := c, mbstate := 2 })
      (∀ (i : Instr) (op n : Nat) (run : State → List Byte → Reply), (i, op, n, run) ∈
          [(Instr.partSet k, 0x01, 448, runPartSet), (.partRelease k, 0x02, 8, runPartRelease), (.map k, 0x10, 64, runMap k),
            (.unmap k, 0x11, 64, runUnmap), (.protect k, 0x12, 64, runProtect), (.worldCreate k, 0x20, 288, runWorldCreate),
            (.worldDestroy k, 0x21, 8, runWorldDestroy), (.headConfig k, 0x30, 64, runHeadConfig),
            (.identity k, 0x40, 0, runIdentity), (.attest k, 0x41, 32, runAttest), (.lifecycle k, 0x50, 3744, runLifecycle),
            (.fwUpdate k, 0x60, 64, runFwUpdate k), (.suspend k, 0x70, 16, runSuspend), (.resume k, 0x71, 16, runResume)] →
          (p.mbgo = false ∨ s.mode = 0 ∨ p.op ≠ op ∨ s.busyBy = some k.other → exec i s = .next s)
          ∧ (p.mbgo = true → s.mode ≠ 0 → p.op = op → s.busyBy ≠ some k.other →
            (s.mode = 2 → op ≠ 0x40 → op ≠ 0x60 → refuses i 0x0C09)
            ∧ (s.mode = 1 → s.lcs = .scrapped → op ≠ 0x40 → refuses i 0x0C06)
            ∧ (s.mode = 1 → s.lcs ≠ .scrapped → op = 0x50 → 1 ≤ recNat body 0 1 → recNat body 0 1 ≤ 4 →
                transition s.lcs (lifeOf (recNat body 0 1)) = none → refuses i 0x0C06)
            ∧ (((s.mode = 1 ∨ op = 0x60) ∧ s.lcs ≠ .scrapped ∨ op = 0x40) →
              (op = 0x50 → recNat body 0 1 = 0 ∨ 5 ≤ recNat body 0 1 ∨ transition s.lcs (lifeOf (recNat body 0 1)) ≠ none) →
              ((recZero p.mbrec 2 2 = false ∨ recZero p.mbrec 8 56 = false ∨ recNat p.mbrec 4 4 ≠ n) → refuses i 0x0C01)
              ∧ (recZero p.mbrec 2 2 = true → recZero p.mbrec 8 56 = true → recNat p.mbrec 4 4 = n →
                (∀ c, run s body = .refused c → c ≠ 0 → refuses i c)
                ∧ (∀ u, run s body = .done u [] → exec i s = .next (u.setPort k
                    { u.port k with mbgo := false, mbresult := 0, mbstate := 1 }))
                ∧ (∀ u d, run s body = .done u d → d ≠ [] → exec i s = .next
                    (let v := u.post k ((u.port k).mbaddr + 8192) d
                    v.setPort k { v.port k with mbgo := false, mbresult := 0, mbstate := 1 }))
                ∧ (∀ u c, run s body = .abandoned u c → c ≠ 0 → exec i s = .next (u.setPort k
                    { u.port k with mbgo := false, mbresult := c, mbstate := 2 }))
                ∧ (∀ u, run s body = .again u → exec i s = .next u)))))
        ∧ (p.mbgo = true → s.mode = 1 → s.lcs ≠ .scrapped → s.busyBy ≠ some k.other → p.op = 0x80 → refuses (.workRequest k) 0x000B)
        ∧ (p.mbgo = true → s.mode = 1 → s.lcs ≠ .scrapped → s.busyBy ≠ some k.other → p.op ∉ [0x01, 0x02, 0x10, 0x11, 0x12, 0x20, 0x21, 0x30, 0x40, 0x41,
            0x50, 0x60, 0x70, 0x71, 0x80] → refuses (.unknownOp k) 0x0C01)
        ∧ (p.mbgo = false → exec (.workRequest k) s = .next s ∧ exec (.unknownOp k) s = .next s))
    ∧ (∀ (s u : State) (b d : List Byte),
      let m := parseMap b
      (runPartSet s b = .done u d → d = [] ∧ u.part? (BitVec.ofNat 3 (recNat b 0 1)) = some (parsePart b)
          ∧ (∀ q, q ≠ BitVec.ofNat 3 (recNat b 0 1) → u.part? q = s.part? q)
          ∧ s.partOverlap (recNat b 0 1) (parsePart b) = false)
        ∧ (runPartRelease s b = .done u d → u.part? (BitVec.ofNat 3 (recNat b 0 1)) = none
          ∧ ((s.part? (BitVec.ofNat 3 (recNat b 0 1))).isSome = true →
            (∀ w ∈ u.waves, w.part ≠ BitVec.ofNat 3 (recNat b 0 1))
              ∧ (∀ w ∈ u.worlds, w.part ≠ BitVec.ofNat 3 (recNat b 0 1))
              ∧ (∀ w ∈ s.waves, w.part ≠ BitVec.ofNat 3 (recNat b 0 1) → ∃ x ∈ u.waves, x.id = w.id)))
        ∧ (∀ k, runMap k s b = .done u d → (∀ l ∈ m.leaves, l ∈ u.leaves) ∧ s.partHasAsid m.part m.asid = true)
        ∧ (runUnmap s b = .done u d → (∀ l ∈ s.leaves, l.within m.asid m.va m.len = false → l ∈ u.leaves)
          ∧ (m.entry = 0 → ∀ l ∈ u.leaves, l.within m.asid m.va m.len = false) ∧ u.shootSeq = s.shootSeq + 1)
        ∧ (runProtect s b = .done u d → (∀ l ∈ s.leaves, l.within m.asid m.va m.len = false → l ∈ u.leaves)
          ∧ ∀ l ∈ u.leaves, l.p = true → l.within m.asid m.va m.len = true →
            l.w = m.entry.getLsbD 2 ∧ l.x = m.entry.getLsbD 3 ∧ l.cw = m.entry.getLsbD 4 ∧ l.fmt = m.entry.extractLsb' 52 5)
        ∧ (runWorldCreate s b = .done u d → s.world? (BitVec.ofNat 8 (recNat b 0 1)) = none
          ∧ ∃ w, u.world? (BitVec.ofNat 8 (recNat b 0 1)) = some w ∧ w.part = BitVec.ofNat 3 (recNat b 1 1)
            ∧ w.asid = BitVec.ofNat 16 (recNat b 2 2) ∧ w.cbase = recDWord b 8 ∧ w.csize = recDWord b 16 ∧ w.cairn = 0)
        ∧ (runWorldDestroy s b = .done u d → (∀ w ∈ u.worlds, w.id ≠ BitVec.ofNat 8 (recNat b 0 1))
          ∧ ∀ w ∈ s.worlds, w.id ≠ BitVec.ofNat 8 (recNat b 0 1) → w ∈ u.worlds)
        ∧ (runHeadConfig s b = .done u d → (∀ h, s.head? (recNat b 0 1) = some h → h.enabled = false) →
          u.head? (recNat b 0 1) = some { Head.start (recNat b 0 1) (parseHead b) with enabled := recNat b 1 1 == 1 })
        ∧ runIdentity s b = .done s s.identity
        ∧ s.identity.take 3 = [0x10, 0x08, Config.step] ∧ (Config.step = 0xB0 ∨ Config.step = 0xB1)
        ∧ (runAttest s b = .done u d → u = s ∧ (32 ≤ b.length → d.take 32 = b.take 32)
          ∧ (32 ≤ b.length → (d.drop 32).take 64 = s.identity.take 64))
        ∧ (runLifecycle s b = .done u d → transition s.lcs u.lcs ≠ none ∧ u.lcs = lifeOf (recNat b 0 1) ∧ u.waves = []
          ∧ u.launches = [] ∧ ∀ q, u.part? q = none)
        ∧ (∀ k, runFwUpdate k s b = .done u d → u.fwSlot = !s.fwSlot ∧ u.fails = 0
          ∧ (if s.fwSlot then u.fwB = s.fwB else u.fwA = s.fwA) ∧ u.mode = s.mode ∧ u.waves = s.waves
          ∧ u.fwver = s.fwver)
        ∧ (∀ l, s.namedLaunch b = some l → (runSuspend s b = .done u d → ∀ w ∈ u.waves, w.launch = l.id → w.state = .suspended)
          ∧ (runResume s b = .done u d → ∀ w ∈ u.waves, w.launch = l.id → w.kept = false)))

/-- R349, R366 to R368, R383 to R388, R390, R402, R412, R425: EVERY REQUEST COMPLETES. A port's request whose fields and
body pass the checks of its rule, in a device that its owner has not scrapped, is done: its effect stands and RESULT is 0, the
response data posted before it. The model's choices: the bytes that LIFECYCLE's signature covers and their order (log 59), that
SUSPEND and RESUME hold the launch's waves not yet bound too (log 58), PART_RELEASE without a condition and WORLD_DESTROY that
waits for the world's cairns (log 55), and the forms of log 76 and 77. A MAP that moves pages first makes them busy. A LIFECYCLE or an FW_UPDATE whose signature or
version is not good is refused with 0x0C07. A request that carries work, and one that no rule defines, are refused on every
path (R384). -/
def Obligations.EveryRequestCompletes : Prop :=
  ∀ (s : State) (k : PortId),
    let b := s.body k
    let m := parseMap b
    let p3 := fun (o : Nat) => BitVec.ofNat 3 (recNat b o 1)
    let id : BitVec 8 := BitVec.ofNat 8 (recNat b 0 1)
    let does := fun (i : Instr) (u : State) (d : List Byte) => exec i s = .next (u.replied k d)
    let refuses := fun (i : Instr) (c : BitVec 16) => exec i s = .next (s.setPort k
      { s.port k with mbgo := false, mbresult := c, mbstate := 2 })
    (Asked s k 0x01 → partOk b = true → s.partOverlap (p3 0).toNat (parsePart b) = false →
        s.partInUse ((s.part? (p3 0)).getD Sys2Proof.Machine.Part.none) (parsePart b) = false →
        does (.partSet k) ((s.setPart (p3 0) (parsePart b)).measure 3 (Config.sha3 (parsePart b).raw)) [])
      ∧ (Asked s k 0x02 → recNat b 0 1 ≤ 7 → recZero b 1 7 = true → does (.partRelease k) (s.releasePart (p3 0)) [])
      ∧ (∀ p, Asked s k 0x10 → mapBodyOk b m = true → m.entry.getLsbD 1 = true →
        (m.entry &&& 0x000F_FFFF_FFFF_0000).toNat + m.len.toNat ≤ 2 ^ 52 → s.part? m.part = some p → p.hasAsid m.asid = true →
        (∀ l ∈ m.leaves, l.illegal = false ∧ p.allowsLeaf l = true ∧ synonymOf (replaceLeaves s.leaves m.leaves) l = false) →
        (∀ l ∈ s.leaves, l.size = m.size ∨ l.overlaps m.asid m.va m.len = false) →
        (m.size = 0 ∨ s.meetsRegion m.asid m.va m.len = false) → s.shootHeld m.asid = false →
        let moves := m.leaves.filterMap fun l => (s.movedBy l).map fun x => (x, l)
        (moves ≠ [] → s.busyBy = none → exec (.map k) s = .next (s.markBusy k m))
          ∧ (∀ t, moves = [] ∨ s.busyBy = some k → s.copyPages moves = .ok t → does (.map k)
            ({ t with leaves := replaceLeaves s.leaves m.leaves }.clearBusy.shootRange m.asid m.va m.len) []))
      ∧ (∀ p, Asked s k 0x11 → mapBodyOk b m = true → s.part? m.part = some p → p.hasAsid m.asid = true →
        s.shootHeld m.asid = false →
        let kept := s.leaves.filter fun l => !l.within m.asid m.va m.len
        (m.entry = 0 → does (.unmap k) ({ s with leaves := kept }.shootRange m.asid m.va m.len) [])
          ∧ (m.entry.getLsbD 1 = true → m.entry.getLsbD 0 = false → (∀ l ∈ m.leaves, l.illegal = false) →
            does (.unmap k) ({ s with leaves := m.leaves ++ kept }.shootRange m.asid m.va m.len) []))
      ∧ (∀ p, Asked s k 0x12 → mapBodyOk b m = true →
        let e := leafOf m.entry m.asid m.size m.va
        let all := s.leaves.map fun l => if l.p && l.within m.asid m.va m.len then
          { l with w := e.w, x := e.x, cw := e.cw, fmt := e.fmt, blk := e.blk, scl := e.scl } else l
        e.pa = 0 → e.loc = 0 → e.dev = 0 → formatOk e.fmt e.blk e.scl = true → s.part? m.part = some p →
        p.hasAsid m.asid = true → s.shootHeld m.asid = false →
        (∀ l ∈ all, l.p = true → l.within m.asid m.va m.len = true → p.allowsLeaf l = true ∧ synonymOf all l = false) →
        does (.protect k) ({ s with leaves := all }.shootRange m.asid m.va m.len) [])
      ∧ (let base := recDWord b 8
        let size := recDWord b 16
        let esz := (List.range 256).map fun i => recNat b (32 + i) 1
        let asid : BitVec 16 := BitVec.ofNat 16 (recNat b 2 2)
        Asked s k 0x20 → recNat b 1 1 ≤ 7 → recZero b 4 4 = true → recZero b 24 8 = true → base.toNat % 2 ^ 30 = 0 → size ≠ 0 →
        size.toNat % 2 ^ 30 = 0 → base.toNat + size.toNat ≤ 2 ^ 52 → (∀ e ∈ esz, e ∈ [0, 1, 2, 4, 8, 16]) →
        s.partHasAsid (p3 1) asid = true → s.world? id = none → (∀ l ∈ s.leaves, l.overlaps asid base size = false) →
        s.meetsRegion asid base size = false →
        does (.worldCreate k) { s with worlds := s.worlds
          ++ [⟨id, p3 1, asid, base, size, esz, 0, 0, 0, [], [], [⟨0, [], [], 0⟩], [], 0, 0, 0, 0, 0, [], []⟩] } [])
      ∧ (∀ w, Asked s k 0x21 → recNat b 1 1 ≤ 7 → recZero b 2 6 = true → s.worldOf (p3 1) id = some w → w.views = [] →
        w.cairns = [] → (∀ l ∈ s.launches, ∀ q, l.query = some q → q.world = id → l.state ≠ .accepted) →
        does (.worldDestroy k) { s with
          worlds := s.worlds.filter (·.id != id),
          launches := s.launches.map fun l => if l.query.any (·.world == id) then { l with query := none } else l } [])
      ∧ (∀ p, let n := recNat b 0 1
        let c := parseHead b
        Asked s k 0x30 → headOk b n c = true →
        (recNat b 1 1 = 1 → c.share + ((s.heads.filter fun h => h.enabled && h.num != n).map (·.cfg.share)).sum ≤ 64) →
        s.part? c.part = some p → p.hasAsid c.asid = true → p.heads.getLsbD n = true →
        ((∀ h, s.head? n = some h → h.enabled = false) →
          does (.headConfig k) (s.setHead { Head.start n c with enabled := recNat b 1 1 == 1 }) [])
        ∧ (∀ h, s.head? n = some h → h.enabled = true → recNat b 1 1 = 0 → c = h.cfg →
          does (.headConfig k) (s.setHead h.latched.disable) []))
      ∧ (Asked s k 0x40 → does (.identity k) s s.identity)
      ∧ (Asked s k 0x41 → does (.attest k) s
          (s.report b ++ (Config.identitySign (Config.sha3 (s.report b)) ++ leBytes 0 2420).take 2420))
      ∧ (∀ owner, let t := recNat b 0 1
        let pub := (b.drop 2432).take 1312
        let digest := Config.sha3 (leBytes Config.serial.toNat 8 ++ leBytes t 1 ++ leBytes s.lcNonce.toNat 32 ++ pub)
        let auth := (b.drop 8).take 2420
        let signed := if owner then Config.caerpinVerify digest auth
          else match s.ownerKey with | some key => Config.ownerVerify key digest auth | none => false
        Asked s k 0x50 → 1 ≤ t → t ≤ 4 → recZero b 1 7 = true → recZero b 2428 4 = true →
        transition s.lcs (lifeOf t) = some owner → ((owner = true ∧ lifeOf t = .provisioned) ∨ ∀ x ∈ pub, x = 0) →
        (signed = true →
          ∃ u, does (.lifecycle k) u [] ∧ u.lcs = lifeOf t ∧ u.waves = [] ∧ u.launches = [] ∧ (∀ q, u.part? q = none)
            ∧ u.ownerKey = (if owner = true ∧ lifeOf t = .provisioned then some pub else s.ownerKey))
          ∧ (signed = false → refuses (.lifecycle k) 0x0C07))
      ∧ (let img := s.hostBytes k (recDWord b 0) (recNat b 8 4)
        Asked s k 0x60 → 1 ≤ recNat b 8 4 → recNat b 8 4 ≤ 67108864 → recZero b 12 52 = true →
        let good := Config.firmwareVerify img && decide (s.fwMin.toNat ≤ (Config.firmwareVersion img).toNat)
        let t := s.measure 4 (Config.sha3 img)
        (good = false → refuses (.fwUpdate k) 0x0C07) ∧ (good = true → does (.fwUpdate k)
          { t with fwA := if s.fwSlot then slotOf img else s.fwA, fwB := if s.fwSlot then s.fwB else slotOf img,
                   fwSlot := !s.fwSlot, fails := 0 } []))
      ∧ (∀ l, Asked s k 0x70 → suspendBodyOk b = true → s.namedLaunch b = some l →
        (∀ w ∈ s.waves, w.launch = l.id → w.state = .suspended) → ∃ u, does (.suspend k) u []
          ∧ u.waves = s.waves.map (fun w => if w.launch = l.id then { w with kept := true } else w)
          ∧ u.launches = (s.setLaunch { l with held := true }).launches)
      ∧ (∀ l, Asked s k 0x71 → suspendBodyOk b = true → s.namedLaunch b = some l → ∃ u, does (.resume k) u []
          ∧ u.waves = s.waves.map (fun w => if w.launch = l.id then { w with kept := false, refusedFit := false } else w)
          ∧ u.launches = (s.setLaunch { l with held := false }).launches)
      ∧ ((s.port k).mbgo = true → s.mode = 1 → s.lcs ≠ .scrapped → s.busyBy ≠ some k.other →
        ((s.port k).op = 0x80 → refuses (.workRequest k) 0x000B)
        ∧ (opLength (s.port k).op = none → (s.port k).op ≠ 0x80 → refuses (.unknownOp k) 0x0C01))

/-- R386, R418, R422 to R424: RESETS AND POWER. A hot reset returns the port's registers to reset and gives up its
semaphore; a device reset drops every wave, launch, partition and world and starts again, with what non-volatile stores
hold kept; a start that fails counts, gives its reason and switches the slot, and the third enters Nuver mode; a partition
whose islands draw more than its share is counted and loses a step, and heat takes a step from every island. The model's
choices: FAILS stops at 3 and a later failure enters Nuver mode again, BOOTSTAT keeps its REASON, and a reset device waits to
start (log 60); which partitions THROT counts, and that it stops at 0xFFFF (log 61). -/
def Obligations.ResetsAndPower : Prop :=
  ∀ (s : State) (k : PortId) (p : BitVec 3) (power : Word) (tmax : BitVec 16),
    (∀ (i : Instr) (up : Bool), (i, up) ∈ [(Instr.portHotReset k, true), (.portLinkLoss k, false)] →
        s.waves = [] → ∃ t, exec i s = .next t ∧ (t.port k).linkUp = up ∧ (t.port k).posted = [] ∧ (t.port k).rlgo = false
          ∧ (t.port k).rladdr = 0 ∧ (t.port k).rpkey = 0 ∧ (t.port k).cto = 50000
          ∧ (t.port k).fq = Vector.replicate 8 FaultQueue.reset ∧ (t.port k).win = Vector.replicate 16 Aperture.reset
          ∧ (t.port k).mbgo = (s.port k).mbgo ∧ t.port k.other = s.port k.other
          ∧ t.owner = (if s.owner = (match k with | .p0 => 1 | .p1 => 2) then 0 else s.owner) ∧ t.mem = s.mem)
      ∧ (∀ both, both = true ∨ (s.port k.other).linkUp = false → ∃ t, exec (.fundamentalReset both k) s = .next t
        ∧ t.waves = [] ∧ t.launches = [] ∧ t.worlds = [] ∧ (∀ q, t.part? q = none) ∧ t.mode = 0 ∧ t.booting = true
        ∧ t.owner = 0 ∧ t.mr = Vector.replicate 8 0 ∧ t.fails = s.fails ∧ t.fwSlot = s.fwSlot ∧ t.fwA = s.fwA ∧ t.fwB = s.fwB
        ∧ t.lcs = s.lcs ∧ t.ownerKey = s.ownerKey ∧ t.lcNonce = s.lcNonce
        ∧ (s.sound → (∀ key, key < 2 ^ 64 → Memory.get t.mem key = 0)
          ∧ ∀ key, 2 ^ 64 ≤ key → key < 23 * 2 ^ 64 → Memory.get t.mem key = Memory.get s.mem key))
      ∧ (∀ (i : Instr) (reason : BitVec 8), (i, reason) ∈ [(Instr.startTimeout, 4), (.powerRailFault, 7)] →
        (s.booting = false → exec i s = .next s)
        ∧ (s.booting = true → ∃ t, exec i s = .next t ∧ t.bootReason = reason ∧ t.fails = (if s.fails < 3 then s.fails + 1 else 3)
          ∧ t.fwSlot = !s.fwSlot ∧ t.booting = false ∧ t.mode = (if 2 ≤ s.fails then 2 else 0) ∧ t.waves = s.waves
          ∧ t.mem = s.mem))
      ∧ (s.part? p = none → exec (.powerThrottle p power) s = .next s)
      ∧ (∀ r, s.part? p = some r → ∃ t, exec (.powerThrottle p power) s = .next t ∧ t.pnow = s.pnow ∧ t.waves = s.waves ∧ t.mem = s.mem
        ∧ (∀ i, i ∉ r.islands → t.island i = s.island i)
        ∧ (power.toNat ≤ s.powerShare r ∨ (∀ i ∈ r.islands, s.island i = 0) → t.throt = s.throt ∧ t.islands = s.islands)
        ∧ (s.powerShare r < power.toNat → (∃ i ∈ r.islands, s.island i ≠ 0) → (∀ i ∈ r.islands, t.island i = s.island i - 1)
          ∧ t.throt[p.toNat]'p.isLt = (if s.throt[p.toNat]'p.isLt = 0xFFFF then 0xFFFF else s.throt[p.toNat]'p.isLt + 1)))
      ∧ (tmax.toNat < 1600 → exec (.thermalThrottle tmax) s = .next s)
      ∧ (1600 ≤ tmax.toNat → ∃ t, exec (.thermalThrottle tmax) s = .next t ∧ t.tmax = tmax ∧ t.waves = s.waves ∧ t.mem = s.mem
        ∧ (∀ i, i < 512 → t.island i = s.island i - 1)
        ∧ ∀ q : BitVec 3, t.throt[q.toNat]'q.isLt = if (∃ r, s.part? q = some r ∧ ∃ i ∈ r.islands, s.island i ≠ 0)
            ∧ s.throt[q.toNat]'q.isLt ≠ 0xFFFF then s.throt[q.toNat]'q.isLt + 1 else s.throt[q.toNat]'q.isLt)
      ∧ (tmax.toNat < 1760 → exec (.thermalStop tmax) s = .next s)
      ∧ (1760 ≤ tmax.toNat → ∃ t, exec (.thermalStop tmax) s = .next t ∧ t.bootReason = 8 ∧ t.fails = (if s.fails < 3 then s.fails + 1 else 3)
        ∧ t.waves = [] ∧ t.launches = [] ∧ t.mode = (if 2 ≤ s.fails then 2 else 0))
end

