-- ==== Sys2Proof/Laws/State.lean ====
section
/-! SUPPORT. Laws of the state: what each update leaves as it was, field by field, and what reading back finds. -/

namespace Sys2Proof.Machine

/-! ## setWave -/

@[simp] theorem State.setWave_mem (s : State) (w : Wave) : (s.setWave w).mem = s.mem := rfl
@[simp] theorem State.setWave_poison (s : State) (w : Wave) : (s.setWave w).poison = s.poison := rfl
@[simp] theorem State.setWave_errs (s : State) (w : Wave) : (s.setWave w).errs = s.errs := rfl
@[simp] theorem State.setWave_olds (s : State) (w : Wave) : (s.setWave w).olds = s.olds := rfl
@[simp] theorem State.setWave_leaves (s : State) (w : Wave) : (s.setWave w).leaves = s.leaves := rfl
@[simp] theorem State.setWave_busy (s : State) (w : Wave) : (s.setWave w).busy = s.busy := rfl
@[simp] theorem State.setWave_busyBy (s : State) (w : Wave) : (s.setWave w).busyBy = s.busyBy := rfl
@[simp] theorem State.setWave_reserve (s : State) (w : Wave) : (s.setWave w).reserve = s.reserve := rfl
@[simp] theorem State.setWave_tlb (s : State) (w : Wave) : (s.setWave w).tlb = s.tlb := rfl
@[simp] theorem State.setWave_walks (s : State) (w : Wave) : (s.setWave w).walks = s.walks := rfl
@[simp] theorem State.setWave_shootSeq (s : State) (w : Wave) : (s.setWave w).shootSeq = s.shootSeq := rfl
@[simp] theorem State.setWave_shoots (s : State) (w : Wave) : (s.setWave w).shoots = s.shoots := rfl
@[simp] theorem State.setWave_parts (s : State) (w : Wave) : (s.setWave w).parts = s.parts := rfl
@[simp] theorem State.setWave_cores (s : State) (w : Wave) : (s.setWave w).cores = s.cores := rfl
@[simp] theorem State.setWave_launches (s : State) (w : Wave) : (s.setWave w).launches = s.launches := rfl
@[simp] theorem State.setWave_nextId (s : State) (w : Wave) : (s.setWave w).nextId = s.nextId := rfl
@[simp] theorem State.setWave_units (s : State) (w : Wave) : (s.setWave w).units = s.units := rfl
@[simp] theorem State.setWave_basalt (s : State) (w : Wave) : (s.setWave w).basalt = s.basalt := rfl
@[simp] theorem State.setWave_porter (s : State) (w : Wave) : (s.setWave w).porter = s.porter := rfl
@[simp] theorem State.setWave_tokens (s : State) (w : Wave) : (s.setWave w).tokens = s.tokens := rfl
@[simp] theorem State.setWave_waits (s : State) (w : Wave) : (s.setWave w).waits = s.waits := rfl
@[simp] theorem State.setWave_heldRecs (s : State) (w : Wave) : (s.setWave w).heldRecs = s.heldRecs := rfl
@[simp] theorem State.setWave_waitRecs (s : State) (w : Wave) : (s.setWave w).waitRecs = s.waitRecs := rfl
@[simp] theorem State.setWave_recNum (s : State) (w : Wave) : (s.setWave w).recNum = s.recNum := rfl
@[simp] theorem State.setWave_worlds (s : State) (w : Wave) : (s.setWave w).worlds = s.worlds := rfl
@[simp] theorem State.setWave_readySeq (s : State) (w : Wave) : (s.setWave w).readySeq = s.readySeq := rfl
@[simp] theorem State.setWave_guideLast (s : State) (w : Wave) : (s.setWave w).guideLast = s.guideLast := rfl
@[simp] theorem State.setWave_heads (s : State) (w : Wave) : (s.setWave w).heads = s.heads := rfl
@[simp] theorem State.setWave_port0 (s : State) (w : Wave) : (s.setWave w).port0 = s.port0 := rfl
@[simp] theorem State.setWave_port1 (s : State) (w : Wave) : (s.setWave w).port1 = s.port1 := rfl
@[simp] theorem State.setWave_owner (s : State) (w : Wave) : (s.setWave w).owner = s.owner := rfl
@[simp] theorem State.setWave_islands (s : State) (w : Wave) : (s.setWave w).islands = s.islands := rfl
@[simp] theorem State.setWave_volts (s : State) (w : Wave) : (s.setWave w).volts = s.volts := rfl
@[simp] theorem State.setWave_throt (s : State) (w : Wave) : (s.setWave w).throt = s.throt := rfl
@[simp] theorem State.setWave_plimit (s : State) (w : Wave) : (s.setWave w).plimit = s.plimit := rfl
@[simp] theorem State.setWave_pnow (s : State) (w : Wave) : (s.setWave w).pnow = s.pnow := rfl
@[simp] theorem State.setWave_tmax (s : State) (w : Wave) : (s.setWave w).tmax = s.tmax := rfl
@[simp] theorem State.setWave_stopped (s : State) (w : Wave) : (s.setWave w).stopped = s.stopped := rfl
@[simp] theorem State.setWave_mode (s : State) (w : Wave) : (s.setWave w).mode = s.mode := rfl
@[simp] theorem State.setWave_booting (s : State) (w : Wave) : (s.setWave w).booting = s.booting := rfl
@[simp] theorem State.setWave_fwSlot (s : State) (w : Wave) : (s.setWave w).fwSlot = s.fwSlot := rfl
@[simp] theorem State.setWave_fails (s : State) (w : Wave) : (s.setWave w).fails = s.fails := rfl
@[simp] theorem State.setWave_bootReason (s : State) (w : Wave) : (s.setWave w).bootReason = s.bootReason := rfl
@[simp] theorem State.setWave_fwA (s : State) (w : Wave) : (s.setWave w).fwA = s.fwA := rfl
@[simp] theorem State.setWave_fwB (s : State) (w : Wave) : (s.setWave w).fwB = s.fwB := rfl
@[simp] theorem State.setWave_fwMin (s : State) (w : Wave) : (s.setWave w).fwMin = s.fwMin := rfl
@[simp] theorem State.setWave_fwver (s : State) (w : Wave) : (s.setWave w).fwver = s.fwver := rfl
@[simp] theorem State.setWave_mr (s : State) (w : Wave) : (s.setWave w).mr = s.mr := rfl
@[simp] theorem State.setWave_lcs (s : State) (w : Wave) : (s.setWave w).lcs = s.lcs := rfl
@[simp] theorem State.setWave_ownerKey (s : State) (w : Wave) : (s.setWave w).ownerKey = s.ownerKey := rfl
@[simp] theorem State.setWave_lcNonce (s : State) (w : Wave) : (s.setWave w).lcNonce = s.lcNonce := rfl
@[simp] theorem State.setWave_hasIdentity (s : State) (w : Wave) : (s.setWave w).hasIdentity = s.hasIdentity := rfl
@[simp] theorem State.setWave_cxlUp (s : State) (w : Wave) : (s.setWave w).cxlUp = s.cxlUp := rfl
@[simp] theorem State.setWave_jexUp (s : State) (w : Wave) : (s.setWave w).jexUp = s.jexUp := rfl
@[simp] theorem State.setWave_routes (s : State) (w : Wave) : (s.setWave w).routes = s.routes := rfl
@[simp] theorem State.setWave_exports (s : State) (w : Wave) : (s.setWave w).exports = s.exports := rfl
@[simp] theorem State.setWave_imports (s : State) (w : Wave) : (s.setWave w).imports = s.imports := rfl
@[simp] theorem State.setWave_domAnswer (s : State) (w : Wave) : (s.setWave w).domAnswer = s.domAnswer := rfl
@[simp] theorem State.setWave_cur (s : State) (w : Wave) : (s.setWave w).cur = s.cur := rfl
@[simp] theorem State.setWave_agenda (s : State) (w : Wave) : (s.setWave w).agenda = s.agenda := rfl
@[simp] theorem State.setWave_tick (s : State) (w : Wave) : (s.setWave w).tick = s.tick := rfl
@[simp] theorem State.setWave_turn (s : State) (w : Wave) : (s.setWave w).turn = s.turn := rfl

/-! ## setCore -/

@[simp] theorem State.setCore_mem (s : State) (c : Core) : (s.setCore c).mem = s.mem := rfl
@[simp] theorem State.setCore_poison (s : State) (c : Core) : (s.setCore c).poison = s.poison := rfl
@[simp] theorem State.setCore_errs (s : State) (c : Core) : (s.setCore c).errs = s.errs := rfl
@[simp] theorem State.setCore_olds (s : State) (c : Core) : (s.setCore c).olds = s.olds := rfl
@[simp] theorem State.setCore_leaves (s : State) (c : Core) : (s.setCore c).leaves = s.leaves := rfl
@[simp] theorem State.setCore_busy (s : State) (c : Core) : (s.setCore c).busy = s.busy := rfl
@[simp] theorem State.setCore_busyBy (s : State) (c : Core) : (s.setCore c).busyBy = s.busyBy := rfl
@[simp] theorem State.setCore_reserve (s : State) (c : Core) : (s.setCore c).reserve = s.reserve := rfl
@[simp] theorem State.setCore_tlb (s : State) (c : Core) : (s.setCore c).tlb = s.tlb := rfl
@[simp] theorem State.setCore_walks (s : State) (c : Core) : (s.setCore c).walks = s.walks := rfl
@[simp] theorem State.setCore_shootSeq (s : State) (c : Core) : (s.setCore c).shootSeq = s.shootSeq := rfl
@[simp] theorem State.setCore_shoots (s : State) (c : Core) : (s.setCore c).shoots = s.shoots := rfl
@[simp] theorem State.setCore_parts (s : State) (c : Core) : (s.setCore c).parts = s.parts := rfl
@[simp] theorem State.setCore_waves (s : State) (c : Core) : (s.setCore c).waves = s.waves := rfl
@[simp] theorem State.setCore_launches (s : State) (c : Core) : (s.setCore c).launches = s.launches := rfl
@[simp] theorem State.setCore_nextId (s : State) (c : Core) : (s.setCore c).nextId = s.nextId := rfl
@[simp] theorem State.setCore_units (s : State) (c : Core) : (s.setCore c).units = s.units := rfl
@[simp] theorem State.setCore_basalt (s : State) (c : Core) : (s.setCore c).basalt = s.basalt := rfl
@[simp] theorem State.setCore_porter (s : State) (c : Core) : (s.setCore c).porter = s.porter := rfl
@[simp] theorem State.setCore_tokens (s : State) (c : Core) : (s.setCore c).tokens = s.tokens := rfl
@[simp] theorem State.setCore_waits (s : State) (c : Core) : (s.setCore c).waits = s.waits := rfl
@[simp] theorem State.setCore_heldRecs (s : State) (c : Core) : (s.setCore c).heldRecs = s.heldRecs := rfl
@[simp] theorem State.setCore_waitRecs (s : State) (c : Core) : (s.setCore c).waitRecs = s.waitRecs := rfl
@[simp] theorem State.setCore_recNum (s : State) (c : Core) : (s.setCore c).recNum = s.recNum := rfl
@[simp] theorem State.setCore_worlds (s : State) (c : Core) : (s.setCore c).worlds = s.worlds := rfl
@[simp] theorem State.setCore_readySeq (s : State) (c : Core) : (s.setCore c).readySeq = s.readySeq := rfl
@[simp] theorem State.setCore_guideLast (s : State) (c : Core) : (s.setCore c).guideLast = s.guideLast := rfl
@[simp] theorem State.setCore_heads (s : State) (c : Core) : (s.setCore c).heads = s.heads := rfl
@[simp] theorem State.setCore_port0 (s : State) (c : Core) : (s.setCore c).port0 = s.port0 := rfl
@[simp] theorem State.setCore_port1 (s : State) (c : Core) : (s.setCore c).port1 = s.port1 := rfl
@[simp] theorem State.setCore_owner (s : State) (c : Core) : (s.setCore c).owner = s.owner := rfl
@[simp] theorem State.setCore_islands (s : State) (c : Core) : (s.setCore c).islands = s.islands := rfl
@[simp] theorem State.setCore_volts (s : State) (c : Core) : (s.setCore c).volts = s.volts := rfl
@[simp] theorem State.setCore_throt (s : State) (c : Core) : (s.setCore c).throt = s.throt := rfl
@[simp] theorem State.setCore_plimit (s : State) (c : Core) : (s.setCore c).plimit = s.plimit := rfl
@[simp] theorem State.setCore_pnow (s : State) (c : Core) : (s.setCore c).pnow = s.pnow := rfl
@[simp] theorem State.setCore_tmax (s : State) (c : Core) : (s.setCore c).tmax = s.tmax := rfl
@[simp] theorem State.setCore_stopped (s : State) (c : Core) : (s.setCore c).stopped = s.stopped := rfl
@[simp] theorem State.setCore_mode (s : State) (c : Core) : (s.setCore c).mode = s.mode := rfl
@[simp] theorem State.setCore_booting (s : State) (c : Core) : (s.setCore c).booting = s.booting := rfl
@[simp] theorem State.setCore_fwSlot (s : State) (c : Core) : (s.setCore c).fwSlot = s.fwSlot := rfl
@[simp] theorem State.setCore_fails (s : State) (c : Core) : (s.setCore c).fails = s.fails := rfl
@[simp] theorem State.setCore_bootReason (s : State) (c : Core) : (s.setCore c).bootReason = s.bootReason := rfl
@[simp] theorem State.setCore_fwA (s : State) (c : Core) : (s.setCore c).fwA = s.fwA := rfl
@[simp] theorem State.setCore_fwB (s : State) (c : Core) : (s.setCore c).fwB = s.fwB := rfl
@[simp] theorem State.setCore_fwMin (s : State) (c : Core) : (s.setCore c).fwMin = s.fwMin := rfl
@[simp] theorem State.setCore_fwver (s : State) (c : Core) : (s.setCore c).fwver = s.fwver := rfl
@[simp] theorem State.setCore_mr (s : State) (c : Core) : (s.setCore c).mr = s.mr := rfl
@[simp] theorem State.setCore_lcs (s : State) (c : Core) : (s.setCore c).lcs = s.lcs := rfl
@[simp] theorem State.setCore_ownerKey (s : State) (c : Core) : (s.setCore c).ownerKey = s.ownerKey := rfl
@[simp] theorem State.setCore_lcNonce (s : State) (c : Core) : (s.setCore c).lcNonce = s.lcNonce := rfl
@[simp] theorem State.setCore_hasIdentity (s : State) (c : Core) : (s.setCore c).hasIdentity = s.hasIdentity := rfl
@[simp] theorem State.setCore_cxlUp (s : State) (c : Core) : (s.setCore c).cxlUp = s.cxlUp := rfl
@[simp] theorem State.setCore_jexUp (s : State) (c : Core) : (s.setCore c).jexUp = s.jexUp := rfl
@[simp] theorem State.setCore_routes (s : State) (c : Core) : (s.setCore c).routes = s.routes := rfl
@[simp] theorem State.setCore_exports (s : State) (c : Core) : (s.setCore c).exports = s.exports := rfl
@[simp] theorem State.setCore_imports (s : State) (c : Core) : (s.setCore c).imports = s.imports := rfl
@[simp] theorem State.setCore_domAnswer (s : State) (c : Core) : (s.setCore c).domAnswer = s.domAnswer := rfl
@[simp] theorem State.setCore_cur (s : State) (c : Core) : (s.setCore c).cur = s.cur := rfl
@[simp] theorem State.setCore_agenda (s : State) (c : Core) : (s.setCore c).agenda = s.agenda := rfl
@[simp] theorem State.setCore_tick (s : State) (c : Core) : (s.setCore c).tick = s.tick := rfl
@[simp] theorem State.setCore_turn (s : State) (c : Core) : (s.setCore c).turn = s.turn := rfl

/-! ## setLaunch -/

@[simp] theorem State.setLaunch_mem (s : State) (l : Launch) : (s.setLaunch l).mem = s.mem := rfl
@[simp] theorem State.setLaunch_poison (s : State) (l : Launch) : (s.setLaunch l).poison = s.poison := rfl
@[simp] theorem State.setLaunch_errs (s : State) (l : Launch) : (s.setLaunch l).errs = s.errs := rfl
@[simp] theorem State.setLaunch_olds (s : State) (l : Launch) : (s.setLaunch l).olds = s.olds := rfl
@[simp] theorem State.setLaunch_leaves (s : State) (l : Launch) : (s.setLaunch l).leaves = s.leaves := rfl
@[simp] theorem State.setLaunch_busy (s : State) (l : Launch) : (s.setLaunch l).busy = s.busy := rfl
@[simp] theorem State.setLaunch_busyBy (s : State) (l : Launch) : (s.setLaunch l).busyBy = s.busyBy := rfl
@[simp] theorem State.setLaunch_reserve (s : State) (l : Launch) : (s.setLaunch l).reserve = s.reserve := rfl
@[simp] theorem State.setLaunch_tlb (s : State) (l : Launch) : (s.setLaunch l).tlb = s.tlb := rfl
@[simp] theorem State.setLaunch_walks (s : State) (l : Launch) : (s.setLaunch l).walks = s.walks := rfl
@[simp] theorem State.setLaunch_shootSeq (s : State) (l : Launch) : (s.setLaunch l).shootSeq = s.shootSeq := rfl
@[simp] theorem State.setLaunch_shoots (s : State) (l : Launch) : (s.setLaunch l).shoots = s.shoots := rfl
@[simp] theorem State.setLaunch_parts (s : State) (l : Launch) : (s.setLaunch l).parts = s.parts := rfl
@[simp] theorem State.setLaunch_waves (s : State) (l : Launch) : (s.setLaunch l).waves = s.waves := rfl
@[simp] theorem State.setLaunch_cores (s : State) (l : Launch) : (s.setLaunch l).cores = s.cores := rfl
@[simp] theorem State.setLaunch_nextId (s : State) (l : Launch) : (s.setLaunch l).nextId = s.nextId := rfl
@[simp] theorem State.setLaunch_units (s : State) (l : Launch) : (s.setLaunch l).units = s.units := rfl
@[simp] theorem State.setLaunch_basalt (s : State) (l : Launch) : (s.setLaunch l).basalt = s.basalt := rfl
@[simp] theorem State.setLaunch_porter (s : State) (l : Launch) : (s.setLaunch l).porter = s.porter := rfl
@[simp] theorem State.setLaunch_tokens (s : State) (l : Launch) : (s.setLaunch l).tokens = s.tokens := rfl
@[simp] theorem State.setLaunch_waits (s : State) (l : Launch) : (s.setLaunch l).waits = s.waits := rfl
@[simp] theorem State.setLaunch_heldRecs (s : State) (l : Launch) : (s.setLaunch l).heldRecs = s.heldRecs := rfl
@[simp] theorem State.setLaunch_waitRecs (s : State) (l : Launch) : (s.setLaunch l).waitRecs = s.waitRecs := rfl
@[simp] theorem State.setLaunch_recNum (s : State) (l : Launch) : (s.setLaunch l).recNum = s.recNum := rfl
@[simp] theorem State.setLaunch_worlds (s : State) (l : Launch) : (s.setLaunch l).worlds = s.worlds := rfl
@[simp] theorem State.setLaunch_readySeq (s : State) (l : Launch) : (s.setLaunch l).readySeq = s.readySeq := rfl
@[simp] theorem State.setLaunch_guideLast (s : State) (l : Launch) : (s.setLaunch l).guideLast = s.guideLast := rfl
@[simp] theorem State.setLaunch_heads (s : State) (l : Launch) : (s.setLaunch l).heads = s.heads := rfl
@[simp] theorem State.setLaunch_port0 (s : State) (l : Launch) : (s.setLaunch l).port0 = s.port0 := rfl
@[simp] theorem State.setLaunch_port1 (s : State) (l : Launch) : (s.setLaunch l).port1 = s.port1 := rfl
@[simp] theorem State.setLaunch_owner (s : State) (l : Launch) : (s.setLaunch l).owner = s.owner := rfl
@[simp] theorem State.setLaunch_islands (s : State) (l : Launch) : (s.setLaunch l).islands = s.islands := rfl
@[simp] theorem State.setLaunch_volts (s : State) (l : Launch) : (s.setLaunch l).volts = s.volts := rfl
@[simp] theorem State.setLaunch_throt (s : State) (l : Launch) : (s.setLaunch l).throt = s.throt := rfl
@[simp] theorem State.setLaunch_plimit (s : State) (l : Launch) : (s.setLaunch l).plimit = s.plimit := rfl
@[simp] theorem State.setLaunch_pnow (s : State) (l : Launch) : (s.setLaunch l).pnow = s.pnow := rfl
@[simp] theorem State.setLaunch_tmax (s : State) (l : Launch) : (s.setLaunch l).tmax = s.tmax := rfl
@[simp] theorem State.setLaunch_stopped (s : State) (l : Launch) : (s.setLaunch l).stopped = s.stopped := rfl
@[simp] theorem State.setLaunch_mode (s : State) (l : Launch) : (s.setLaunch l).mode = s.mode := rfl
@[simp] theorem State.setLaunch_booting (s : State) (l : Launch) : (s.setLaunch l).booting = s.booting := rfl
@[simp] theorem State.setLaunch_fwSlot (s : State) (l : Launch) : (s.setLaunch l).fwSlot = s.fwSlot := rfl
@[simp] theorem State.setLaunch_fails (s : State) (l : Launch) : (s.setLaunch l).fails = s.fails := rfl
@[simp] theorem State.setLaunch_bootReason (s : State) (l : Launch) : (s.setLaunch l).bootReason = s.bootReason := rfl
@[simp] theorem State.setLaunch_fwA (s : State) (l : Launch) : (s.setLaunch l).fwA = s.fwA := rfl
@[simp] theorem State.setLaunch_fwB (s : State) (l : Launch) : (s.setLaunch l).fwB = s.fwB := rfl
@[simp] theorem State.setLaunch_fwMin (s : State) (l : Launch) : (s.setLaunch l).fwMin = s.fwMin := rfl
@[simp] theorem State.setLaunch_fwver (s : State) (l : Launch) : (s.setLaunch l).fwver = s.fwver := rfl
@[simp] theorem State.setLaunch_mr (s : State) (l : Launch) : (s.setLaunch l).mr = s.mr := rfl
@[simp] theorem State.setLaunch_lcs (s : State) (l : Launch) : (s.setLaunch l).lcs = s.lcs := rfl
@[simp] theorem State.setLaunch_ownerKey (s : State) (l : Launch) : (s.setLaunch l).ownerKey = s.ownerKey := rfl
@[simp] theorem State.setLaunch_lcNonce (s : State) (l : Launch) : (s.setLaunch l).lcNonce = s.lcNonce := rfl
@[simp] theorem State.setLaunch_hasIdentity (s : State) (l : Launch) : (s.setLaunch l).hasIdentity = s.hasIdentity := rfl
@[simp] theorem State.setLaunch_cxlUp (s : State) (l : Launch) : (s.setLaunch l).cxlUp = s.cxlUp := rfl
@[simp] theorem State.setLaunch_jexUp (s : State) (l : Launch) : (s.setLaunch l).jexUp = s.jexUp := rfl
@[simp] theorem State.setLaunch_routes (s : State) (l : Launch) : (s.setLaunch l).routes = s.routes := rfl
@[simp] theorem State.setLaunch_exports (s : State) (l : Launch) : (s.setLaunch l).exports = s.exports := rfl
@[simp] theorem State.setLaunch_imports (s : State) (l : Launch) : (s.setLaunch l).imports = s.imports := rfl
@[simp] theorem State.setLaunch_domAnswer (s : State) (l : Launch) : (s.setLaunch l).domAnswer = s.domAnswer := rfl
@[simp] theorem State.setLaunch_cur (s : State) (l : Launch) : (s.setLaunch l).cur = s.cur := rfl
@[simp] theorem State.setLaunch_agenda (s : State) (l : Launch) : (s.setLaunch l).agenda = s.agenda := rfl
@[simp] theorem State.setLaunch_tick (s : State) (l : Launch) : (s.setLaunch l).tick = s.tick := rfl
@[simp] theorem State.setLaunch_turn (s : State) (l : Launch) : (s.setLaunch l).turn = s.turn := rfl

/-! ## setWorld -/

@[simp] theorem State.setWorld_mem (s : State) (w : World) : (s.setWorld w).mem = s.mem := rfl
@[simp] theorem State.setWorld_poison (s : State) (w : World) : (s.setWorld w).poison = s.poison := rfl
@[simp] theorem State.setWorld_errs (s : State) (w : World) : (s.setWorld w).errs = s.errs := rfl
@[simp] theorem State.setWorld_olds (s : State) (w : World) : (s.setWorld w).olds = s.olds := rfl
@[simp] theorem State.setWorld_leaves (s : State) (w : World) : (s.setWorld w).leaves = s.leaves := rfl
@[simp] theorem State.setWorld_busy (s : State) (w : World) : (s.setWorld w).busy = s.busy := rfl
@[simp] theorem State.setWorld_busyBy (s : State) (w : World) : (s.setWorld w).busyBy = s.busyBy := rfl
@[simp] theorem State.setWorld_reserve (s : State) (w : World) : (s.setWorld w).reserve = s.reserve := rfl
@[simp] theorem State.setWorld_tlb (s : State) (w : World) : (s.setWorld w).tlb = s.tlb := rfl
@[simp] theorem State.setWorld_walks (s : State) (w : World) : (s.setWorld w).walks = s.walks := rfl
@[simp] theorem State.setWorld_shootSeq (s : State) (w : World) : (s.setWorld w).shootSeq = s.shootSeq := rfl
@[simp] theorem State.setWorld_shoots (s : State) (w : World) : (s.setWorld w).shoots = s.shoots := rfl
@[simp] theorem State.setWorld_parts (s : State) (w : World) : (s.setWorld w).parts = s.parts := rfl
@[simp] theorem State.setWorld_waves (s : State) (w : World) : (s.setWorld w).waves = s.waves := rfl
@[simp] theorem State.setWorld_cores (s : State) (w : World) : (s.setWorld w).cores = s.cores := rfl
@[simp] theorem State.setWorld_launches (s : State) (w : World) : (s.setWorld w).launches = s.launches := rfl
@[simp] theorem State.setWorld_nextId (s : State) (w : World) : (s.setWorld w).nextId = s.nextId := rfl
@[simp] theorem State.setWorld_units (s : State) (w : World) : (s.setWorld w).units = s.units := rfl
@[simp] theorem State.setWorld_basalt (s : State) (w : World) : (s.setWorld w).basalt = s.basalt := rfl
@[simp] theorem State.setWorld_porter (s : State) (w : World) : (s.setWorld w).porter = s.porter := rfl
@[simp] theorem State.setWorld_tokens (s : State) (w : World) : (s.setWorld w).tokens = s.tokens := rfl
@[simp] theorem State.setWorld_waits (s : State) (w : World) : (s.setWorld w).waits = s.waits := rfl
@[simp] theorem State.setWorld_heldRecs (s : State) (w : World) : (s.setWorld w).heldRecs = s.heldRecs := rfl
@[simp] theorem State.setWorld_waitRecs (s : State) (w : World) : (s.setWorld w).waitRecs = s.waitRecs := rfl
@[simp] theorem State.setWorld_recNum (s : State) (w : World) : (s.setWorld w).recNum = s.recNum := rfl
@[simp] theorem State.setWorld_readySeq (s : State) (w : World) : (s.setWorld w).readySeq = s.readySeq := rfl
@[simp] theorem State.setWorld_guideLast (s : State) (w : World) : (s.setWorld w).guideLast = s.guideLast := rfl
@[simp] theorem State.setWorld_heads (s : State) (w : World) : (s.setWorld w).heads = s.heads := rfl
@[simp] theorem State.setWorld_port0 (s : State) (w : World) : (s.setWorld w).port0 = s.port0 := rfl
@[simp] theorem State.setWorld_port1 (s : State) (w : World) : (s.setWorld w).port1 = s.port1 := rfl
@[simp] theorem State.setWorld_owner (s : State) (w : World) : (s.setWorld w).owner = s.owner := rfl
@[simp] theorem State.setWorld_islands (s : State) (w : World) : (s.setWorld w).islands = s.islands := rfl
@[simp] theorem State.setWorld_volts (s : State) (w : World) : (s.setWorld w).volts = s.volts := rfl
@[simp] theorem State.setWorld_throt (s : State) (w : World) : (s.setWorld w).throt = s.throt := rfl
@[simp] theorem State.setWorld_plimit (s : State) (w : World) : (s.setWorld w).plimit = s.plimit := rfl
@[simp] theorem State.setWorld_pnow (s : State) (w : World) : (s.setWorld w).pnow = s.pnow := rfl
@[simp] theorem State.setWorld_tmax (s : State) (w : World) : (s.setWorld w).tmax = s.tmax := rfl
@[simp] theorem State.setWorld_stopped (s : State) (w : World) : (s.setWorld w).stopped = s.stopped := rfl
@[simp] theorem State.setWorld_mode (s : State) (w : World) : (s.setWorld w).mode = s.mode := rfl
@[simp] theorem State.setWorld_booting (s : State) (w : World) : (s.setWorld w).booting = s.booting := rfl
@[simp] theorem State.setWorld_fwSlot (s : State) (w : World) : (s.setWorld w).fwSlot = s.fwSlot := rfl
@[simp] theorem State.setWorld_fails (s : State) (w : World) : (s.setWorld w).fails = s.fails := rfl
@[simp] theorem State.setWorld_bootReason (s : State) (w : World) : (s.setWorld w).bootReason = s.bootReason := rfl
@[simp] theorem State.setWorld_fwA (s : State) (w : World) : (s.setWorld w).fwA = s.fwA := rfl
@[simp] theorem State.setWorld_fwB (s : State) (w : World) : (s.setWorld w).fwB = s.fwB := rfl
@[simp] theorem State.setWorld_fwMin (s : State) (w : World) : (s.setWorld w).fwMin = s.fwMin := rfl
@[simp] theorem State.setWorld_fwver (s : State) (w : World) : (s.setWorld w).fwver = s.fwver := rfl
@[simp] theorem State.setWorld_mr (s : State) (w : World) : (s.setWorld w).mr = s.mr := rfl
@[simp] theorem State.setWorld_lcs (s : State) (w : World) : (s.setWorld w).lcs = s.lcs := rfl
@[simp] theorem State.setWorld_ownerKey (s : State) (w : World) : (s.setWorld w).ownerKey = s.ownerKey := rfl
@[simp] theorem State.setWorld_lcNonce (s : State) (w : World) : (s.setWorld w).lcNonce = s.lcNonce := rfl
@[simp] theorem State.setWorld_hasIdentity (s : State) (w : World) : (s.setWorld w).hasIdentity = s.hasIdentity := rfl
@[simp] theorem State.setWorld_cxlUp (s : State) (w : World) : (s.setWorld w).cxlUp = s.cxlUp := rfl
@[simp] theorem State.setWorld_jexUp (s : State) (w : World) : (s.setWorld w).jexUp = s.jexUp := rfl
@[simp] theorem State.setWorld_routes (s : State) (w : World) : (s.setWorld w).routes = s.routes := rfl
@[simp] theorem State.setWorld_exports (s : State) (w : World) : (s.setWorld w).exports = s.exports := rfl
@[simp] theorem State.setWorld_imports (s : State) (w : World) : (s.setWorld w).imports = s.imports := rfl
@[simp] theorem State.setWorld_domAnswer (s : State) (w : World) : (s.setWorld w).domAnswer = s.domAnswer := rfl
@[simp] theorem State.setWorld_cur (s : State) (w : World) : (s.setWorld w).cur = s.cur := rfl
@[simp] theorem State.setWorld_agenda (s : State) (w : World) : (s.setWorld w).agenda = s.agenda := rfl
@[simp] theorem State.setWorld_tick (s : State) (w : World) : (s.setWorld w).tick = s.tick := rfl
@[simp] theorem State.setWorld_turn (s : State) (w : World) : (s.setWorld w).turn = s.turn := rfl

/-! ## setHead -/

@[simp] theorem State.setHead_mem (s : State) (h : Head) : (s.setHead h).mem = s.mem := rfl
@[simp] theorem State.setHead_poison (s : State) (h : Head) : (s.setHead h).poison = s.poison := rfl
@[simp] theorem State.setHead_errs (s : State) (h : Head) : (s.setHead h).errs = s.errs := rfl
@[simp] theorem State.setHead_olds (s : State) (h : Head) : (s.setHead h).olds = s.olds := rfl
@[simp] theorem State.setHead_leaves (s : State) (h : Head) : (s.setHead h).leaves = s.leaves := rfl
@[simp] theorem State.setHead_busy (s : State) (h : Head) : (s.setHead h).busy = s.busy := rfl
@[simp] theorem State.setHead_busyBy (s : State) (h : Head) : (s.setHead h).busyBy = s.busyBy := rfl
@[simp] theorem State.setHead_reserve (s : State) (h : Head) : (s.setHead h).reserve = s.reserve := rfl
@[simp] theorem State.setHead_tlb (s : State) (h : Head) : (s.setHead h).tlb = s.tlb := rfl
@[simp] theorem State.setHead_walks (s : State) (h : Head) : (s.setHead h).walks = s.walks := rfl
@[simp] theorem State.setHead_shootSeq (s : State) (h : Head) : (s.setHead h).shootSeq = s.shootSeq := rfl
@[simp] theorem State.setHead_shoots (s : State) (h : Head) : (s.setHead h).shoots = s.shoots := rfl
@[simp] theorem State.setHead_parts (s : State) (h : Head) : (s.setHead h).parts = s.parts := rfl
@[simp] theorem State.setHead_waves (s : State) (h : Head) : (s.setHead h).waves = s.waves := rfl
@[simp] theorem State.setHead_cores (s : State) (h : Head) : (s.setHead h).cores = s.cores := rfl
@[simp] theorem State.setHead_launches (s : State) (h : Head) : (s.setHead h).launches = s.launches := rfl
@[simp] theorem State.setHead_nextId (s : State) (h : Head) : (s.setHead h).nextId = s.nextId := rfl
@[simp] theorem State.setHead_units (s : State) (h : Head) : (s.setHead h).units = s.units := rfl
@[simp] theorem State.setHead_basalt (s : State) (h : Head) : (s.setHead h).basalt = s.basalt := rfl
@[simp] theorem State.setHead_porter (s : State) (h : Head) : (s.setHead h).porter = s.porter := rfl
@[simp] theorem State.setHead_tokens (s : State) (h : Head) : (s.setHead h).tokens = s.tokens := rfl
@[simp] theorem State.setHead_waits (s : State) (h : Head) : (s.setHead h).waits = s.waits := rfl
@[simp] theorem State.setHead_heldRecs (s : State) (h : Head) : (s.setHead h).heldRecs = s.heldRecs := rfl
@[simp] theorem State.setHead_waitRecs (s : State) (h : Head) : (s.setHead h).waitRecs = s.waitRecs := rfl
@[simp] theorem State.setHead_recNum (s : State) (h : Head) : (s.setHead h).recNum = s.recNum := rfl
@[simp] theorem State.setHead_worlds (s : State) (h : Head) : (s.setHead h).worlds = s.worlds := rfl
@[simp] theorem State.setHead_readySeq (s : State) (h : Head) : (s.setHead h).readySeq = s.readySeq := rfl
@[simp] theorem State.setHead_guideLast (s : State) (h : Head) : (s.setHead h).guideLast = s.guideLast := rfl
@[simp] theorem State.setHead_port0 (s : State) (h : Head) : (s.setHead h).port0 = s.port0 := rfl
@[simp] theorem State.setHead_port1 (s : State) (h : Head) : (s.setHead h).port1 = s.port1 := rfl
@[simp] theorem State.setHead_owner (s : State) (h : Head) : (s.setHead h).owner = s.owner := rfl
@[simp] theorem State.setHead_islands (s : State) (h : Head) : (s.setHead h).islands = s.islands := rfl
@[simp] theorem State.setHead_volts (s : State) (h : Head) : (s.setHead h).volts = s.volts := rfl
@[simp] theorem State.setHead_throt (s : State) (h : Head) : (s.setHead h).throt = s.throt := rfl
@[simp] theorem State.setHead_plimit (s : State) (h : Head) : (s.setHead h).plimit = s.plimit := rfl
@[simp] theorem State.setHead_pnow (s : State) (h : Head) : (s.setHead h).pnow = s.pnow := rfl
@[simp] theorem State.setHead_tmax (s : State) (h : Head) : (s.setHead h).tmax = s.tmax := rfl
@[simp] theorem State.setHead_stopped (s : State) (h : Head) : (s.setHead h).stopped = s.stopped := rfl
@[simp] theorem State.setHead_mode (s : State) (h : Head) : (s.setHead h).mode = s.mode := rfl
@[simp] theorem State.setHead_booting (s : State) (h : Head) : (s.setHead h).booting = s.booting := rfl
@[simp] theorem State.setHead_fwSlot (s : State) (h : Head) : (s.setHead h).fwSlot = s.fwSlot := rfl
@[simp] theorem State.setHead_fails (s : State) (h : Head) : (s.setHead h).fails = s.fails := rfl
@[simp] theorem State.setHead_bootReason (s : State) (h : Head) : (s.setHead h).bootReason = s.bootReason := rfl
@[simp] theorem State.setHead_fwA (s : State) (h : Head) : (s.setHead h).fwA = s.fwA := rfl
@[simp] theorem State.setHead_fwB (s : State) (h : Head) : (s.setHead h).fwB = s.fwB := rfl
@[simp] theorem State.setHead_fwMin (s : State) (h : Head) : (s.setHead h).fwMin = s.fwMin := rfl
@[simp] theorem State.setHead_fwver (s : State) (h : Head) : (s.setHead h).fwver = s.fwver := rfl
@[simp] theorem State.setHead_mr (s : State) (h : Head) : (s.setHead h).mr = s.mr := rfl
@[simp] theorem State.setHead_lcs (s : State) (h : Head) : (s.setHead h).lcs = s.lcs := rfl
@[simp] theorem State.setHead_ownerKey (s : State) (h : Head) : (s.setHead h).ownerKey = s.ownerKey := rfl
@[simp] theorem State.setHead_lcNonce (s : State) (h : Head) : (s.setHead h).lcNonce = s.lcNonce := rfl
@[simp] theorem State.setHead_hasIdentity (s : State) (h : Head) : (s.setHead h).hasIdentity = s.hasIdentity := rfl
@[simp] theorem State.setHead_cxlUp (s : State) (h : Head) : (s.setHead h).cxlUp = s.cxlUp := rfl
@[simp] theorem State.setHead_jexUp (s : State) (h : Head) : (s.setHead h).jexUp = s.jexUp := rfl
@[simp] theorem State.setHead_routes (s : State) (h : Head) : (s.setHead h).routes = s.routes := rfl
@[simp] theorem State.setHead_exports (s : State) (h : Head) : (s.setHead h).exports = s.exports := rfl
@[simp] theorem State.setHead_imports (s : State) (h : Head) : (s.setHead h).imports = s.imports := rfl
@[simp] theorem State.setHead_domAnswer (s : State) (h : Head) : (s.setHead h).domAnswer = s.domAnswer := rfl
@[simp] theorem State.setHead_cur (s : State) (h : Head) : (s.setHead h).cur = s.cur := rfl
@[simp] theorem State.setHead_agenda (s : State) (h : Head) : (s.setHead h).agenda = s.agenda := rfl
@[simp] theorem State.setHead_tick (s : State) (h : Head) : (s.setHead h).tick = s.tick := rfl
@[simp] theorem State.setHead_turn (s : State) (h : Head) : (s.setHead h).turn = s.turn := rfl

/-! ## setPort -/

@[simp] theorem State.setPort_mem (s : State) (k : PortId) (p : Port) : (s.setPort k p).mem = s.mem := by cases k <;> rfl
@[simp] theorem State.setPort_poison (s : State) (k : PortId) (p : Port) : (s.setPort k p).poison = s.poison := by cases k <;> rfl
@[simp] theorem State.setPort_errs (s : State) (k : PortId) (p : Port) : (s.setPort k p).errs = s.errs := by cases k <;> rfl
@[simp] theorem State.setPort_olds (s : State) (k : PortId) (p : Port) : (s.setPort k p).olds = s.olds := by cases k <;> rfl
@[simp] theorem State.setPort_leaves (s : State) (k : PortId) (p : Port) : (s.setPort k p).leaves = s.leaves := by cases k <;> rfl
@[simp] theorem State.setPort_busy (s : State) (k : PortId) (p : Port) : (s.setPort k p).busy = s.busy := by cases k <;> rfl
@[simp] theorem State.setPort_busyBy (s : State) (k : PortId) (p : Port) : (s.setPort k p).busyBy = s.busyBy := by cases k <;> rfl
@[simp] theorem State.setPort_reserve (s : State) (k : PortId) (p : Port) : (s.setPort k p).reserve = s.reserve := by cases k <;> rfl
@[simp] theorem State.setPort_tlb (s : State) (k : PortId) (p : Port) : (s.setPort k p).tlb = s.tlb := by cases k <;> rfl
@[simp] theorem State.setPort_walks (s : State) (k : PortId) (p : Port) : (s.setPort k p).walks = s.walks := by cases k <;> rfl
@[simp] theorem State.setPort_shootSeq (s : State) (k : PortId) (p : Port) : (s.setPort k p).shootSeq = s.shootSeq := by cases k <;> rfl
@[simp] theorem State.setPort_shoots (s : State) (k : PortId) (p : Port) : (s.setPort k p).shoots = s.shoots := by cases k <;> rfl
@[simp] theorem State.setPort_parts (s : State) (k : PortId) (p : Port) : (s.setPort k p).parts = s.parts := by cases k <;> rfl
@[simp] theorem State.setPort_waves (s : State) (k : PortId) (p : Port) : (s.setPort k p).waves = s.waves := by cases k <;> rfl
@[simp] theorem State.setPort_cores (s : State) (k : PortId) (p : Port) : (s.setPort k p).cores = s.cores := by cases k <;> rfl
@[simp] theorem State.setPort_launches (s : State) (k : PortId) (p : Port) : (s.setPort k p).launches = s.launches := by cases k <;> rfl
@[simp] theorem State.setPort_nextId (s : State) (k : PortId) (p : Port) : (s.setPort k p).nextId = s.nextId := by cases k <;> rfl
@[simp] theorem State.setPort_units (s : State) (k : PortId) (p : Port) : (s.setPort k p).units = s.units := by cases k <;> rfl
@[simp] theorem State.setPort_basalt (s : State) (k : PortId) (p : Port) : (s.setPort k p).basalt = s.basalt := by cases k <;> rfl
@[simp] theorem State.setPort_porter (s : State) (k : PortId) (p : Port) : (s.setPort k p).porter = s.porter := by cases k <;> rfl
@[simp] theorem State.setPort_tokens (s : State) (k : PortId) (p : Port) : (s.setPort k p).tokens = s.tokens := by cases k <;> rfl
@[simp] theorem State.setPort_waits (s : State) (k : PortId) (p : Port) : (s.setPort k p).waits = s.waits := by cases k <;> rfl
@[simp] theorem State.setPort_heldRecs (s : State) (k : PortId) (p : Port) : (s.setPort k p).heldRecs = s.heldRecs := by cases k <;> rfl
@[simp] theorem State.setPort_waitRecs (s : State) (k : PortId) (p : Port) : (s.setPort k p).waitRecs = s.waitRecs := by cases k <;> rfl
@[simp] theorem State.setPort_recNum (s : State) (k : PortId) (p : Port) : (s.setPort k p).recNum = s.recNum := by cases k <;> rfl
@[simp] theorem State.setPort_worlds (s : State) (k : PortId) (p : Port) : (s.setPort k p).worlds = s.worlds := by cases k <;> rfl
@[simp] theorem State.setPort_readySeq (s : State) (k : PortId) (p : Port) : (s.setPort k p).readySeq = s.readySeq := by cases k <;> rfl
@[simp] theorem State.setPort_guideLast (s : State) (k : PortId) (p : Port) : (s.setPort k p).guideLast = s.guideLast := by cases k <;> rfl
@[simp] theorem State.setPort_heads (s : State) (k : PortId) (p : Port) : (s.setPort k p).heads = s.heads := by cases k <;> rfl
@[simp] theorem State.setPort_owner (s : State) (k : PortId) (p : Port) : (s.setPort k p).owner = s.owner := by cases k <;> rfl
@[simp] theorem State.setPort_islands (s : State) (k : PortId) (p : Port) : (s.setPort k p).islands = s.islands := by cases k <;> rfl
@[simp] theorem State.setPort_volts (s : State) (k : PortId) (p : Port) : (s.setPort k p).volts = s.volts := by cases k <;> rfl
@[simp] theorem State.setPort_throt (s : State) (k : PortId) (p : Port) : (s.setPort k p).throt = s.throt := by cases k <;> rfl
@[simp] theorem State.setPort_plimit (s : State) (k : PortId) (p : Port) : (s.setPort k p).plimit = s.plimit := by cases k <;> rfl
@[simp] theorem State.setPort_pnow (s : State) (k : PortId) (p : Port) : (s.setPort k p).pnow = s.pnow := by cases k <;> rfl
@[simp] theorem State.setPort_tmax (s : State) (k : PortId) (p : Port) : (s.setPort k p).tmax = s.tmax := by cases k <;> rfl
@[simp] theorem State.setPort_stopped (s : State) (k : PortId) (p : Port) : (s.setPort k p).stopped = s.stopped := by cases k <;> rfl
@[simp] theorem State.setPort_mode (s : State) (k : PortId) (p : Port) : (s.setPort k p).mode = s.mode := by cases k <;> rfl
@[simp] theorem State.setPort_booting (s : State) (k : PortId) (p : Port) : (s.setPort k p).booting = s.booting := by cases k <;> rfl
@[simp] theorem State.setPort_fwSlot (s : State) (k : PortId) (p : Port) : (s.setPort k p).fwSlot = s.fwSlot := by cases k <;> rfl
@[simp] theorem State.setPort_fails (s : State) (k : PortId) (p : Port) : (s.setPort k p).fails = s.fails := by cases k <;> rfl
@[simp] theorem State.setPort_bootReason (s : State) (k : PortId) (p : Port) : (s.setPort k p).bootReason = s.bootReason := by cases k <;> rfl
@[simp] theorem State.setPort_fwA (s : State) (k : PortId) (p : Port) : (s.setPort k p).fwA = s.fwA := by cases k <;> rfl
@[simp] theorem State.setPort_fwB (s : State) (k : PortId) (p : Port) : (s.setPort k p).fwB = s.fwB := by cases k <;> rfl
@[simp] theorem State.setPort_fwMin (s : State) (k : PortId) (p : Port) : (s.setPort k p).fwMin = s.fwMin := by cases k <;> rfl
@[simp] theorem State.setPort_fwver (s : State) (k : PortId) (p : Port) : (s.setPort k p).fwver = s.fwver := by cases k <;> rfl
@[simp] theorem State.setPort_mr (s : State) (k : PortId) (p : Port) : (s.setPort k p).mr = s.mr := by cases k <;> rfl
@[simp] theorem State.setPort_lcs (s : State) (k : PortId) (p : Port) : (s.setPort k p).lcs = s.lcs := by cases k <;> rfl
@[simp] theorem State.setPort_ownerKey (s : State) (k : PortId) (p : Port) : (s.setPort k p).ownerKey = s.ownerKey := by cases k <;> rfl
@[simp] theorem State.setPort_lcNonce (s : State) (k : PortId) (p : Port) : (s.setPort k p).lcNonce = s.lcNonce := by cases k <;> rfl
@[simp] theorem State.setPort_hasIdentity (s : State) (k : PortId) (p : Port) : (s.setPort k p).hasIdentity = s.hasIdentity := by cases k <;> rfl
@[simp] theorem State.setPort_cxlUp (s : State) (k : PortId) (p : Port) : (s.setPort k p).cxlUp = s.cxlUp := by cases k <;> rfl
@[simp] theorem State.setPort_jexUp (s : State) (k : PortId) (p : Port) : (s.setPort k p).jexUp = s.jexUp := by cases k <;> rfl
@[simp] theorem State.setPort_routes (s : State) (k : PortId) (p : Port) : (s.setPort k p).routes = s.routes := by cases k <;> rfl
@[simp] theorem State.setPort_exports (s : State) (k : PortId) (p : Port) : (s.setPort k p).exports = s.exports := by cases k <;> rfl
@[simp] theorem State.setPort_imports (s : State) (k : PortId) (p : Port) : (s.setPort k p).imports = s.imports := by cases k <;> rfl
@[simp] theorem State.setPort_domAnswer (s : State) (k : PortId) (p : Port) : (s.setPort k p).domAnswer = s.domAnswer := by cases k <;> rfl
@[simp] theorem State.setPort_cur (s : State) (k : PortId) (p : Port) : (s.setPort k p).cur = s.cur := by cases k <;> rfl
@[simp] theorem State.setPort_agenda (s : State) (k : PortId) (p : Port) : (s.setPort k p).agenda = s.agenda := by cases k <;> rfl
@[simp] theorem State.setPort_tick (s : State) (k : PortId) (p : Port) : (s.setPort k p).tick = s.tick := by cases k <;> rfl
@[simp] theorem State.setPort_turn (s : State) (k : PortId) (p : Port) : (s.setPort k p).turn = s.turn := by cases k <;> rfl

/-! ## Reading back -/

@[simp] theorem State.port_setPort_same (s : State) (k : PortId) (p : Port) : (s.setPort k p).port k = p := by
  cases k <;> rfl

@[simp] theorem State.port_setPort_other (s : State) (k : PortId) (p : Port) :
    (s.setPort k p).port k.other = s.port k.other := by cases k <;> rfl

@[simp] theorem State.core_setCore_same (s : State) (c : Core) : (s.setCore c).core c.num = c := by
  simp [State.core, State.setCore]

/-- Waves under a number, after one is put back. -/
theorem State.find_map_wave (ws : List Wave) (w : Wave) (id : Nat) :
    (ws.map fun x => if x.id == w.id then w else x).find? (·.id == id) =
      if id = w.id then (ws.find? (·.id == id)).map fun _ => w else ws.find? (·.id == id) := by
  induction ws with
  | nil => simp
  | cons y r ih =>
    rw [List.map_cons, List.find?_cons, List.find?_cons, ih]
    by_cases hy : y.id = w.id <;> by_cases hi : id = w.id
    · simp [hy, hi]
    · have h1 : (w.id == id) = false := beq_eq_false_iff_ne.mpr fun h => hi h.symm
      simp [hy, hi, h1]
    · subst hi
      simp [beq_eq_false_iff_ne.mpr hy]
    · by_cases hyi : y.id = id <;> simp [hy, hi, hyi]

/-- A wave that is put back is the one found under its number. -/
theorem State.wave?_setWave_same {s : State} {w x : Wave} (h : s.wave? w.id = some x) : (s.setWave w).wave? w.id = some w := by
  rw [State.wave?] at h
  rw [State.wave?, State.setWave, State.find_map_wave, if_pos rfl, h]
  rfl

/-- Other waves stay. -/
theorem State.wave?_setWave_other {s : State} {w : Wave} {id : Nat} (h : id ≠ w.id) :
    (s.setWave w).wave? id = s.wave? id := by
  rw [State.wave?, State.setWave, State.find_map_wave, if_neg h, State.wave?]

/-- A wave found under a number has that number. -/
theorem State.wave?_id {s : State} {id : Nat} {w : Wave} (h : s.wave? id = some w) : w.id = id := by
  have := List.find?_some h
  simpa using this

/-! ## Slots -/

@[simp] theorem SlotId.other_ne (k : SlotId) : k.other ≠ k := by cases k <;> simp [SlotId.other]

@[simp] theorem SlotId.other_other (k : SlotId) : k.other.other = k := by cases k <;> rfl

@[simp] theorem Wave.slot_setSlot_same (w : Wave) (k : SlotId) (x : Slot) : (w.setSlot k x).slot k = x := by
  cases k <;> rfl

@[simp] theorem Wave.slot_setSlot_other (w : Wave) (k : SlotId) (x : Slot) :
    (w.setSlot k x).slot k.other = w.slot k.other := by cases k <;> rfl

@[simp] theorem Wave.setSlot_id (w : Wave) (k : SlotId) (x : Slot) : (w.setSlot k x).id = w.id := by cases k <;> rfl
@[simp] theorem Wave.setSlot_launch (w : Wave) (k : SlotId) (x : Slot) : (w.setSlot k x).launch = w.launch := by cases k <;> rfl
@[simp] theorem Wave.setSlot_wid (w : Wave) (k : SlotId) (x : Slot) : (w.setSlot k x).wid = w.wid := by cases k <;> rfl
@[simp] theorem Wave.setSlot_core (w : Wave) (k : SlotId) (x : Slot) : (w.setSlot k x).core = w.core := by cases k <;> rfl
@[simp] theorem Wave.setSlot_quad (w : Wave) (k : SlotId) (x : Slot) : (w.setSlot k x).quad = w.quad := by cases k <;> rfl
@[simp] theorem Wave.setSlot_entry (w : Wave) (k : SlotId) (x : Slot) : (w.setSlot k x).entry = w.entry := by cases k <;> rfl
@[simp] theorem Wave.setSlot_state (w : Wave) (k : SlotId) (x : Slot) : (w.setSlot k x).state = w.state := by cases k <;> rfl
@[simp] theorem Wave.setSlot_ww (w : Wave) (k : SlotId) (x : Slot) : (w.setSlot k x).ww = w.ww := by cases k <;> rfl
@[simp] theorem Wave.setSlot_rb (w : Wave) (k : SlotId) (x : Slot) : (w.setSlot k x).rb = w.rb := by cases k <;> rfl
@[simp] theorem Wave.setSlot_spb (w : Wave) (k : SlotId) (x : Slot) : (w.setSlot k x).spb = w.spb := by cases k <;> rfl
@[simp] theorem Wave.setSlot_spl (w : Wave) (k : SlotId) (x : Slot) : (w.setSlot k x).spl = w.spl := by cases k <;> rfl
@[simp] theorem Wave.setSlot_pvb (w : Wave) (k : SlotId) (x : Slot) : (w.setSlot k x).pvb = w.pvb := by cases k <;> rfl
@[simp] theorem Wave.setSlot_asid (w : Wave) (k : SlotId) (x : Slot) : (w.setSlot k x).asid = w.asid := by cases k <;> rfl
@[simp] theorem Wave.setSlot_part (w : Wave) (k : SlotId) (x : Slot) : (w.setSlot k x).part = w.part := by cases k <;> rfl
@[simp] theorem Wave.setSlot_regs (w : Wave) (k : SlotId) (x : Slot) : (w.setSlot k x).regs = w.regs := by cases k <;> rfl
@[simp] theorem Wave.setSlot_stack (w : Wave) (k : SlotId) (x : Slot) : (w.setSlot k x).stack = w.stack := by cases k <;> rfl
@[simp] theorem Wave.setSlot_brkSeq (w : Wave) (k : SlotId) (x : Slot) : (w.setSlot k x).brkSeq = w.brkSeq := by cases k <;> rfl
@[simp] theorem Wave.setSlot_hamper (w : Wave) (k : SlotId) (x : Slot) : (w.setSlot k x).hamper = w.hamper := by cases k <;> rfl
@[simp] theorem Wave.setSlot_rows (w : Wave) (k : SlotId) (x : Slot) : (w.setSlot k x).rows = w.rows := by cases k <;> rfl
@[simp] theorem Wave.setSlot_batch (w : Wave) (k : SlotId) (x : Slot) : (w.setSlot k x).batch = w.batch := by cases k <;> rfl
@[simp] theorem Wave.setSlot_gbars (w : Wave) (k : SlotId) (x : Slot) : (w.setSlot k x).gbars = w.gbars := by cases k <;> rfl
@[simp] theorem Wave.setSlot_gbarAt (w : Wave) (k : SlotId) (x : Slot) : (w.setSlot k x).gbarAt = w.gbarAt := by cases k <;> rfl
@[simp] theorem Wave.setSlot_kept (w : Wave) (k : SlotId) (x : Slot) : (w.setSlot k x).kept = w.kept := by cases k <;> rfl
@[simp] theorem Wave.setSlot_started (w : Wave) (k : SlotId) (x : Slot) : (w.setSlot k x).started = w.started := by cases k <;> rfl
@[simp] theorem Wave.setSlot_fences (w : Wave) (k : SlotId) (x : Slot) : (w.setSlot k x).fences = w.fences := by cases k <;> rfl
@[simp] theorem Wave.setSlot_refusedFit (w : Wave) (k : SlotId) (x : Slot) : (w.setSlot k x).refusedFit = w.refusedFit := by cases k <;> rfl
@[simp] theorem Wave.setSlot_unread (w : Wave) (k : SlotId) (x : Slot) : (w.setSlot k x).unread = w.unread := by cases k <;> rfl

end Sys2Proof.Machine
end

