-- ==== Sys2Proof/Laws/Issue.lean ====
section
/-! SUPPORT. Laws of the issue of an instruction: everything the shared operation `issueVia` can answer. -/

namespace Sys2Proof.Machine

theorem State.issueVia_stop {s : State} (h : s.begin = .stop) (x : Shape) (m : Bool) (g : Ctx → Except State Ctx)
    (b : Ctx → Except Trap Ctx) : s.issueVia x m g b = .fault .noSlot := by
  simp [State.issueVia, h]

theorem State.issueVia_hold {s s' : State} (h : s.begin = .hold s') (x : Shape) (m : Bool) (g : Ctx → Except State Ctx)
    (b : Ctx → Except Trap Ctx) : s.issueVia x m g b = .next s' := by
  simp [State.issueVia, h]

/-- Everything an instruction that issues can do. -/
theorem State.issueVia_leg {s : State} {c : Ctx} (h : s.begin = .leg c) (x : Shape) (m : Bool)
    (g : Ctx → Except State Ctx) (b : Ctx → Except Trap Ctx) :
    s.issueVia x m g b = .next (c.holdFor (.fence x.cls)) ∨ s.issueVia x m g b = .next (c.fail (c.trapHere 0x0104))
      ∨ (∃ s', g c = .error s' ∧ s.issueVia x m g b = .next s')
      ∨ (∃ c' t, g c = .ok c' ∧ b c' = .error t ∧ s.issueVia x m g b = .next (c'.fail t))
      ∨ ∃ c' c'', g c = .ok c' ∧ b c' = .ok c'' ∧ s.issueVia x m g b = .next (c''.advance x m) := by
  simp only [State.issueVia, h]
  by_cases h1 : c.fenced x.cls
  · simp [h1]
  · by_cases h2 : c.overLimit x m
    · simp [h1, h2]
    · simp only [h1, h2, Bool.false_eq_true, if_false]
      cases hg : g c with
      | error s' => simp
      | ok c' =>
        cases hb : b c' with
        | error t => simp [hb]
        | ok c'' => simp [hb]

/-- An instruction never stops once its slot issues. -/
theorem State.issueVia_next {s : State} {c : Ctx} (h : s.begin = .leg c) (x : Shape) (m : Bool)
    (g : Ctx → Except State Ctx) (b : Ctx → Except Trap Ctx) : ∃ t, s.issueVia x m g b = .next t := by
  rcases State.issueVia_leg h x m g b with h | h | ⟨_, _, h⟩ | ⟨_, _, _, _, h⟩ | ⟨_, _, _, _, h⟩ <;> exact ⟨_, h⟩

/-- The issue of a ready instruction whose gate and body answer. -/
theorem State.issueVia_ready {s : State} {c c' c'' : Ctx} {x : Shape} {m : Bool} (h : Issues s c x m)
    {g : Ctx → Except State Ctx} {b : Ctx → Except Trap Ctx} (hg : g c = .ok c') (hb : b c' = .ok c'') :
    s.issueVia x m g b = .next (c''.advance x m) := by
  simp [State.issueVia, h.leg, h.free, h.within, hg, hb]

/-- The issue of a ready instruction whose body answers. -/
theorem State.issue_ready {s : State} {c c' : Ctx} {x : Shape} {m : Bool} (h : Issues s c x m)
    {b : Ctx → Except Trap Ctx} (hb : b c = .ok c') : s.issue x m b = .next (c'.advance x m) :=
  State.issueVia_ready h rfl hb

/-- The issue of a ready instruction whose body faults. -/
theorem State.issue_trap {s : State} {c : Ctx} {t : Trap} {x : Shape} {m : Bool} (h : Issues s c x m)
    {b : Ctx → Except Trap Ctx} (hb : b c = .error t) : s.issue x m b = .next (c.fail t) := by
  simp [State.issue, State.issueVia, h.leg, h.free, h.within, hb]

/-- Without the marker an instruction changes the wave alone, and of it the open leg (R38). -/
theorem Ctx.advance_open (c : Ctx) (x : Shape) (h : c.leg.short = false) :
    c.advance x false = c.s.setWave ({ c.w with state := .running }.setSlot c.k { c.w.slot c.k with
      leg := some { c.leg with count := c.leg.count + 1, memCount := c.leg.memCount + (if x.mem then 1 else 0),
                               next := c.pc + BitVec.ofNat 64 (4 * x.words), cls := c.leg.cls ||| x.cls, parked := false,
                               cwait := none },
      wait := none }) := by
  simp [Ctx.advance, h]

end Sys2Proof.Machine
end

