-- ==== Sys2Proof/Laws/Commit.lean ====
section
/-! SUPPORT. Laws of the commit: what performing stores leaves, and what the commit of a leg without a closing instruction
does. -/

namespace Sys2Proof.Machine

/-! ## Stores leave everything but memory, errors and the ports -/

theorem State.waves_post (s : State) (k : PortId) (a : DWord) (b : List Byte) (more : List (DWord × List Byte))
    (fq : Option (BitVec 3)) : (s.post k a b more fq).waves = s.waves := by
  simp only [State.post]; split <;> simp

theorem State.waves_postParts (s : State) (k : PortId) (l : List (DWord × List Byte)) : (s.postParts k l).waves = s.waves := by
  cases l with
  | nil => rfl
  | cons x r => exact State.waves_post _ _ _ _ _ _

theorem State.waves_store (s : State) (ps : List Piece) (b : List Byte) : (s.store ps b).waves = s.waves := by
  simp only [State.store, State.waves_postParts]

theorem State.waves_performStores (s : State) (st : List HeldStore) : (s.performStores st).waves = s.waves := by
  have h : (st.foldl (fun s h => s.store h.pieces h.bytes) s).waves = s.waves := by
    induction st generalizing s with
    | nil => rfl
    | cons x r ih => rw [List.foldl_cons, ih, State.waves_store]
  simp only [State.performStores]
  split <;> exact h

theorem State.wave?_performStores (s : State) (st : List HeldStore) (id : Nat) :
    (s.performStores st).wave? id = s.wave? id := by
  rw [State.wave?, State.wave?, State.waves_performStores]

/-- A leg without stores changes no memory. -/
theorem State.performStores_nil (s : State) : s.performStores [] = s := by
  have h : ∀ (l : List Nat), l.filter (fun l => !([] : List Nat).contains l) = l := by
    intro l; induction l <;> simp_all
  simp only [State.performStores, List.foldl_nil, List.flatMap_nil]
  split
  · rfl
  · have hc : coveredLines [] (s.poison ++ s.errs) = [] := by
      simp only [coveredLines, List.any_nil]
      refine List.filter_eq_nil_iff.mpr fun a _ => ?_
      simp only [List.all_eq_true, List.mem_range, Bool.false_eq_true, imp_false]
      exact fun hall => hall 0 (by decide)
    rw [hc, h, h]

/-- The old words that a leg's stores leave change nothing but the record of them. -/
theorem State.waves_commitStores (s : State) (w : Wave) (ci : List (DWord × Word × Nat)) (st : List HeldStore) :
    (s.commitStores w ci st).waves = s.waves := by
  simp only [State.commitStores]
  split
  · exact State.waves_performStores _ _
  · exact State.waves_performStores _ _

theorem State.mem_commitStores (s : State) (w : Wave) (ci : List (DWord × Word × Nat)) (st : List HeldStore) :
    (s.commitStores w ci st).mem = (s.performStores st).mem := by
  simp only [State.commitStores]
  split <;> rfl

theorem State.wave?_commitStores (s : State) (w : Wave) (ci : List (DWord × Word × Nat)) (st : List HeldStore) (id : Nat) :
    (s.commitStores w ci st).wave? id = s.wave? id := by
  rw [State.wave?, State.wave?, State.waves_commitStores]

@[simp] theorem State.commitStores_nil (s : State) (w : Wave) : s.commitStores w [] [] = s := by
  simp [State.commitStores, State.storeOlds, State.performStores_nil]

/-- What the commands that wait behind a fence keep of overwritten bytes is theirs alone. -/
@[simp] theorem State.waves_keepFor (s : State) (w : Nat) (m : List Host.Cell) (ps : List Piece) :
    (s.keepFor w m ps).waves = s.waves := by
  simp only [State.keepFor]; split <;> rfl

@[simp] theorem State.mem_keepFor (s : State) (w : Nat) (m : List Host.Cell) (ps : List Piece) :
    (s.keepFor w m ps).mem = s.mem := by
  simp only [State.keepFor]; split <;> rfl

theorem State.wave?_keepFor (s : State) (w : Nat) (m : List Host.Cell) (ps : List Piece) (id : Nat) :
    (s.keepFor w m ps).wave? id = s.wave? id := by
  rw [State.wave?, State.wave?, State.waves_keepFor]

/-- Where nothing is written, nothing is kept. -/
@[simp] theorem State.keepFor_nil (s : State) (w : Nat) (m : List Host.Cell) : s.keepFor w m [] = s := by
  have h : ∀ c : BasaltCmd, (if c.reads w then c.keep [] else c) = c := by
    intro c; split <;> simp [BasaltCmd.keep]
  simp only [State.keepFor, List.flatMap_nil, h, List.map_id']
  split <;> rfl

/-- Nothing is spilled at a commit where no register's lanes of both slots have met. -/
@[simp] theorem State.roomForCross_nil (s : State) (w : Wave) (k : SlotId) {leg : Leg} (h : leg.crossed = []) :
    s.roomForCross w k leg = (s, w) := by
  simp [State.roomForCross, h]

/-- Nor does such a commit wait for run slots. -/
@[simp] theorem State.crossWaits_nil (s : State) (w : Wave) (k : SlotId) {leg : Leg} (h : leg.crossed = []) :
    s.crossWaits w k leg = false := by
  simp [State.crossWaits, h]

/-- What holds of the legs of both slots holds of each. -/
theorem Wave.slot_unsent {w : Wave} (h : ∀ o ∈ w.s0.leg.toList ++ w.s1.leg.toList, o.sent = false) (k : SlotId) (o : Leg)
    (ho : (w.slot k).leg = some o) : o.sent = false := by
  refine h o ?_
  cases k <;> simp_all [Wave.slot]

/-- A leg waits for the other slot's only where that has been sent (R208). -/
theorem State.heldBySent_unsent {s : State} {w : Wave} {k : SlotId} {leg : Leg}
    (h : ∀ o, (w.slot k.other).leg = some o → o.sent = false) : s.heldBySent w k leg = false := by
  simp only [State.heldBySent]
  split
  · rename_i o ho; simp [h o ho]
  · rfl

/-! ## Commit -/

theorem State.setWave_setWave (s : State) (w x : Wave) (h : x.id = w.id) : (s.setWave w).setWave x = s.setWave x := by
  simp only [State.setWave, List.map_map, h]
  congr 1
  refine List.map_congr_left fun y _ => ?_
  by_cases hy : y.id == w.id <;> simp [hy, Function.comp]

theorem State.parkedLeg_eq {s : State} {id : Nat} {k : SlotId} {w : Wave} {p : Path} {leg : Leg} (h1 : s.wave? id = some w)
    (h2 : (w.slot k).path = some p) (h3 : (w.slot k).leg = some leg) (h4 : leg.parked = true) :
    s.parkedLeg id k = some (w, p, leg) := by
  simp [State.parkedLeg, h1, h2, h3, h4]

/-- What a parked leg is. -/
theorem State.parkedLeg_inv {s : State} {id : Nat} {k : SlotId} {w : Wave} {p : Path} {leg : Leg}
    (h : s.parkedLeg id k = some (w, p, leg)) :
    s.wave? id = some w ∧ (w.slot k).path = some p ∧ (w.slot k).leg = some leg ∧ leg.parked = true := by
  simp only [State.parkedLeg] at h
  split at h
  · simp at h
  · rename_i w' hw
    split at h
    · rename_i p' leg' hp hl
      split at h
      · rename_i hk
        simp only [Option.some.injEq, Prod.mk.injEq] at h
        obtain ⟨rfl, rfl, rfl⟩ := h
        exact ⟨hw, hp, hl, hk⟩
      · simp at h
    · simp at h

@[simp] theorem Wave.commit_id (w : Wave) (k : SlotId) (p : Path) (leg : Leg) (t : Word × Word × Word) :
    (w.commit k p leg t).id = w.id := by simp [Wave.commit]

@[simp] theorem Wave.commit_stack (w : Wave) (k : SlotId) (p : Path) (leg : Leg) (t : Word × Word × Word) :
    (w.commit k p leg t).stack = w.stack := by simp [Wave.commit]

@[simp] theorem Wave.commit_regs (w : Wave) (k : SlotId) (p : Path) (leg : Leg) (t : Word × Word × Word) :
    (w.commit k p leg t).regs = w.regs.commit leg w.ww := by simp [Wave.commit]

/-- The slot after a commit. -/
theorem Wave.commit_slot (w : Wave) (k : SlotId) (p : Path) (leg : Leg) (t : Word × Word × Word) :
    ∃ e, (w.commit k p leg t).slot k = (w.slot k).committed p leg e := by
  refine ⟨excessDefer t (w.regs.counters leg) ((w.regs.commit leg w.ww).csat, (w.regs.commit leg w.ww).cftz,
    (w.regs.commit leg w.ww).cnan), ?_⟩
  cases k <;> rfl

@[simp] theorem State.addFences_id (s : State) (w : Wave) (leg : Leg) : (s.addFences w leg).id = w.id := rfl
@[simp] theorem State.addFences_stack (s : State) (w : Wave) (leg : Leg) : (s.addFences w leg).stack = w.stack := rfl
@[simp] theorem State.addFences_regs (s : State) (w : Wave) (leg : Leg) : (s.addFences w leg).regs = w.regs := rfl
@[simp] theorem State.addFences_slot (s : State) (w : Wave) (leg : Leg) (k : SlotId) :
    (s.addFences w leg).slot k = w.slot k := by cases k <;> rfl

/-- After a commit that leaves the stack as it was, with a path in the slot and no rotation due, nothing more happens. -/
theorem State.settle_still {s : State} {id : Nat} {k : SlotId} {w : Wave} (h : s.wave? id = some w)
    (hp : (w.slot k).path.isSome = true) (hr : (w.slot k).legs < 4096 ∨ w.stack = [])
    (ht : w.s0.took = none ∧ w.s1.took = none) : s.settle id k w.stack = s.setWave w := by
  have hrot : (decide (4096 ≤ (w.slot k).legs) && w.hasRunning && !(w.slot k).inHandler) = false := by
    rcases hr with hr | hr
    · have : decide (4096 ≤ (w.slot k).legs) = false := by simpa using hr
      simp [this]
    · simp [Wave.hasRunning, hr]
  have hs : w.stuckJoin = none := by
    simp only [Wave.stuckJoin]
    cases k <;> simp only [Wave.slot] at hp <;> cases h0 : w.s0.path <;> cases h1 : w.s1.path <;> simp_all
  have hu : w.unstick = (w, none) := by simp only [Wave.unstick, hs]
  simp only [State.settle, h, hrot, Bool.false_eq_true, if_false, hu, beq_self_eq_true, ht.1, ht.2, Option.isNone_none,
    Bool.and_self, if_true]

/-- A commit leaves what the Hamper has still to read of the stack. -/
theorem Wave.commit_took (w : Wave) (k : SlotId) (p : Path) (leg : Leg) (t : Word × Word × Word) :
    (w.commit k p leg t).s0.took = w.s0.took ∧ (w.commit k p leg t).s1.took = w.s1.took := by
  have hn : ∀ (x : Slot) ks, (x.noteCross ks).took = x.took := by
    intro x ks; simp only [Slot.noteCross]; split <;> rfl
  cases k <;> simp [Wave.commit, Wave.setSlot, Wave.slot, SlotId.other, hn, Slot.committed]

/-- The memory and the other state after the stores of a leg that commits. -/
def State.stored (s : State) (w : Wave) (leg : Leg) : State :=
  (s.commitStores w leg.cinvs leg.stores).keepFor w.id s.mem (leg.stores.flatMap (·.pieces))

theorem State.wave?_stored (s : State) (w : Wave) (leg : Leg) (id : Nat) : (s.stored w leg).wave? id = s.wave? id := by
  rw [State.stored, State.wave?_keepFor, State.wave?_commitStores]

/-- A leg without stores and CINVs leaves the state as it is. -/
@[simp] theorem State.stored_nil (s : State) (w : Wave) {leg : Leg} (h1 : leg.stores = []) (h2 : leg.cinvs = []) :
    s.stored w leg = s := by
  simp [State.stored, h1, h2]

/-- The commit of a leg without a closing instruction (R38, R39): its stores are performed, its registers written, and
the path goes on. -/
theorem State.commitLeg_plain {s : State} {id : Nat} {k : SlotId} {w : Wave} {p : Path} {leg : Leg}
    (h : s.parkedLeg id k = some (w, p, leg)) (hc : leg.closing = none)
    (hr : (w.slot k).legs + 1 < 4096 ∨ w.stack = []) (hx : leg.crossed = []) (ht : w.s0.took = none ∧ w.s1.took = none) :
    s.commitLeg id k = (s.stored w leg).setWave
      ((s.stored w leg).addFences (w.commit k p leg ((s.stored w leg).thresholds w)) leg) := by
  obtain ⟨hw, hp, hl, _⟩ := State.parkedLeg_inv h
  have hst : s.legStores w leg = leg.stores := by simp [State.legStores, hc]
  have hid := State.wave?_id hw
  have hs : (s.commitStores w leg.cinvs leg.stores).keepFor w.id s.mem
      (leg.stores.flatMap (·.pieces) ++ (Option.map Closing.written none).getD []) = s.stored w leg := by
    simp [State.stored]
  simp only [State.commitLeg, h, hst, hc, hs, State.wave?_stored, hw, State.roomForCross_nil _ _ _ hx]
  generalize hs1 : s.stored w leg = s1
  have hw1 : s1.wave? id = some w := by rw [← hs1, State.wave?_stored, hw]
  have htk := Wave.commit_took w k p leg (s1.thresholds w)
  generalize hy : s1.addFences (w.commit k p leg (s1.thresholds w)) leg = x
  have hxid : x.id = id := by rw [← hy]; simpa using hid
  have hxs : x.stack = w.stack := by rw [← hy]; simp
  have hfind : (s1.setWave x).wave? id = some x := by
    have := State.wave?_setWave_same (s := s1) (w := x) (x := w) (by rw [hxid]; exact hw1)
    rwa [hxid] at this
  obtain ⟨e, he⟩ := Wave.commit_slot w k p leg (s1.thresholds w)
  have hslot : x.slot k = (w.slot k).committed p leg e := by rw [← hy, State.addFences_slot, he]
  rw [← hxs, State.settle_still hfind (by rw [hslot]; rfl)
    (by rw [hslot, hxs]; exact hr) (by rw [← hy]; exact ⟨htk.1.trans ht.1, htk.2.trans ht.2⟩),
    State.setWave_setWave _ _ _ rfl]

/-- LEG_COMMIT of such a leg, whatever it still waited for. -/
theorem State.tryCommit_plain {s : State} {id : Nat} {k : SlotId} {w : Wave} {p : Path} {leg : Leg}
    (h : s.parkedLeg id k = some (w, p, leg)) (hc : leg.closing = none) (ho : leg.out = [])
    (hv : s.overtaken w leg = false) (hx : leg.crossed = []) (hu : ∀ o ∈ w.s0.leg.toList ++ w.s1.leg.toList, o.sent = false) :
    s.tryCommit id k = s.commitLeg id k := by
  simp [State.tryCommit, h, hc, ho, hv, State.heldBySent_unsent (Wave.slot_unsent hu k.other), State.crossWaits_nil _ _ _ hx]

end Sys2Proof.Machine
end

