-- ==== Sys2Proof/Laws/Close.lean ====
section
/-! SUPPORT. Laws of a closing instruction that may close its leg: the state with the leg parked at its marker, and what
the commit leaves. -/

namespace Sys2Proof.Machine

@[simp] theorem Ctx.markedWave_id (c : Ctx) (cl : Closing) (x : Shape) : (c.markedWave cl x).id = c.w.id := by
  simp [Ctx.markedWave]

@[simp] theorem Ctx.markedWave_stack (c : Ctx) (cl : Closing) (x : Shape) : (c.markedWave cl x).stack = c.w.stack := by
  simp [Ctx.markedWave]

@[simp] theorem Ctx.markedWave_regs (c : Ctx) (cl : Closing) (x : Shape) : (c.markedWave cl x).regs = c.w.regs := by
  simp [Ctx.markedWave]

theorem Ctx.markedWave_took (c : Ctx) (cl : Closing) (x : Shape) :
    (c.markedWave cl x).s0.took = c.w.s0.took ∧ (c.markedWave cl x).s1.took = c.w.s1.took := by
  cases hk : c.k <;> simp [Ctx.markedWave, Wave.setSlot, Wave.slot, hk]

theorem Ctx.close_advance (c : Ctx) (cl : Closing) (x : Shape) (h : c.leg.short = false) :
    (c.close cl).advance x true = (c.marked cl x).tryCommit c.w.id c.k := by
  simp [Ctx.advance, Ctx.close, Ctx.marked, Ctx.markedWave, Ctx.markedLeg, h]

/-- At its marker the leg has been overtaken if it had been before. -/
theorem MayClose.overtaken {s : State} {c : Ctx} (h : MayClose s c) (cl : Closing) (x : Shape) :
    (c.marked cl x).overtaken (c.markedWave cl x) (c.markedLeg cl x) = false := by
  have hf : (c.markedWave cl x).fences = c.w.fences := by simp [Ctx.markedWave]
  have := h.free.current
  simp only [State.overtaken, hf, h.fences] at this ⊢
  exact this

/-- At its marker the leg waits for nothing of the other slot. -/
theorem MayClose.unheld {s : State} {c : Ctx} (h : MayClose s c) (cl : Closing) (x : Shape) :
    (c.marked cl x).heldBySent (c.markedWave cl x) c.k (c.markedLeg cl x) = false := by
  refine State.heldBySent_unsent fun o ho => Wave.slot_unsent h.free.unsent c.k.other o ?_
  cases hk : c.k <;> simpa [Ctx.markedWave, Wave.slot, Wave.setSlot, SlotId.other, hk] using ho

theorem MayClose.uncrossed {s : State} {c : Ctx} (h : MayClose s c) (cl : Closing) (x : Shape) :
    (c.marked cl x).crossWaits (c.markedWave cl x) c.k (c.markedLeg cl x) = false :=
  State.crossWaits_nil _ _ _ h.free.uncrossed

/-- No limit of R36 stops the instruction, nor does a fence. -/
theorem MayClose.issues {s : State} {c : Ctx} (h : MayClose s c) (x : Shape) : Issues s c x true :=
  ⟨h.leg, by simp [Ctx.fenced, h.fences], by
    have h1 := h.count
    have h2 := h.memCount
    simp [Ctx.overLimit]
    omega⟩

/-- The marked wave stands in the marked state. -/
theorem Ctx.wave?_marked {c : Ctx} (h : c.s.wave? c.w.id = some c.w) (cl : Closing) (x : Shape) :
    (c.marked cl x).wave? c.w.id = some (c.markedWave cl x) := by
  have := State.wave?_setWave_same (s := c.s) (w := c.markedWave cl x) (x := c.w) (by simpa using h)
  simpa [Ctx.marked] using this

theorem MayClose.parked {s : State} {c : Ctx} (h : MayClose s c) (cl : Closing) (x : Shape) :
    (c.marked cl x).parkedLeg c.w.id c.k = some (c.markedWave cl x, c.path, c.markedLeg cl x) := by
  refine State.parkedLeg_eq (Ctx.wave?_marked h.listed cl x) ?_ ?_ rfl
  · have := h.holds
    cases hk : c.k <;> simp_all [Ctx.markedWave, Wave.slot, Wave.setSlot]
  · cases hk : c.k <;> simp [Ctx.markedWave, Wave.slot, Wave.setSlot, hk]

/-- What a closing instruction does when its leg finds at the marker that it may commit. -/
theorem MayClose.next {s s' : State} {c c' : Ctx} (h : MayClose s c) {x : Shape} {b : Ctx → Except Trap Ctx} {cl : Closing}
    (hb : b c = .ok c') (hc : c' = c.close cl) (ho : c.leg.out = [])
    (hr : (c.marked cl x).closingReady (c.markedWave cl x) c.k c.path (c.markedLeg cl x) cl = (s', .go)) :
    s.issue x true b = .next (s'.commitLeg c.w.id c.k) := by
  rw [State.issue_ready (h.issues x) hb, hc, Ctx.close_advance _ _ _ h.roomy]
  have hp := h.parked cl x
  have hout : (c.markedLeg cl x).out = [] := ho
  have hcl : (c.markedLeg cl x).closing = some cl := rfl
  simp only [State.tryCommit, hp, hout, hcl, hr, h.overtaken, h.unheld, h.uncrossed, List.isEmpty_nil, Bool.not_true, Bool.false_eq_true, if_false,
    State.closeLeg, Ctx.markedWave_id]

/-- The commit of a leg whose closing instruction leaves the paths alone. -/
theorem State.commitLeg_keeps {s s2 : State} {id : Nat} {k : SlotId} {w w2 : Wave} {p : Path} {leg leg2 : Leg} {cl : Closing}
    (h : s.parkedLeg id k = some (w, p, leg)) (hc : leg.closing = some cl) (hst : s.legStores w leg = []) (hci : leg.cinvs = [])
    (hrun : (s.keepFor w.id s.mem cl.written).closingRun w k p leg cl = (s2, leg2)) (hc2 : leg2.closing = some cl)
    (hcr : leg2.crossed = []) (hw2 : s2.wave? id = some w2) (hk : w2.stack = [])
    (ht : w2.s0.took = none ∧ w2.s1.took = none)
    (hpath : ∀ (t : State) (v : Wave) (q : Path), t.closingPath v k q leg2 cl = t) :
    s.commitLeg id k = s2.setWave (s2.addFences (w2.commit k p leg2 (s2.thresholds w2)) leg2) := by
  simp only [State.commitLeg, h, hst, hci, hc, State.commitStores_nil, List.flatMap_nil, List.nil_append, Option.map_some,
    Option.getD_some, hrun, hw2, hc2, State.roomForCross_nil _ _ _ hcr]
  have htk := Wave.commit_took w2 k p leg2 (s2.thresholds w2)
  generalize hx : s2.addFences (w2.commit k p leg2 (s2.thresholds w2)) leg2 = x
  have hid := State.wave?_id hw2
  have hxid : x.id = id := by rw [← hx]; simpa using hid
  have hxs : x.stack = [] := by rw [← hx]; simp [hk]
  obtain ⟨e, he⟩ := Wave.commit_slot w2 k p leg2 (s2.thresholds w2)
  have hslot : x.slot k = (w2.slot k).committed p leg2 e := by rw [← hx, State.addFences_slot, he]
  have hxp : (x.slot k).path = some (((w2.slot k).committed p leg2 e).path.get rfl) := by rw [hslot]; rfl
  have hfind : (s2.setWave x).wave? id = some x := by
    have := State.wave?_setWave_same (s := s2) (w := x) (x := w2) (by rw [hxid]; exact hw2)
    rwa [hxid] at this
  simp only [hxp, hpath]
  rw [hk, ← hxs, State.settle_still hfind (by rw [hslot]; rfl) (Or.inr hxs)
    (by rw [← hx]; exact ⟨htk.1.trans ht.1, htk.2.trans ht.2⟩), State.setWave_setWave _ _ _ rfl]

/-- The commit of a leg whose closing instruction leaves its wave's registers and paths alone: its scalar results are
written, the path goes on, and what the instruction did to the rest of the state stands. -/
theorem MayClose.committed {s : State} {c : Ctx} (h : MayClose s c) {cl : Closing} {x : Shape} {s2 : State} {leg2 : Leg}
    {new : List (SReg × Word)} {w2 : Wave}
    (hst : (c.marked cl x).legStores (c.markedWave cl x) (c.markedLeg cl x) = [])
    (hrun : ((c.marked cl x).keepFor c.w.id c.s.mem cl.written).closingRun (c.markedWave cl x) c.k c.path
      (c.markedLeg cl x) cl = (s2, leg2))
    (hleg : leg2 = { c.markedLeg cl x with sw := new ++ c.leg.sw })
    (hw2 : s2.wave? c.w.id = some w2) (hregs : w2.regs = c.w.regs) (hww : w2.ww = c.w.ww) (hstack : w2.stack = [])
    (ht : w2.s0.took = none ∧ w2.s1.took = none)
    (hb : ∀ v q, cl ≠ .csrw v q)
    (hpath : ∀ (t : State) (v : Wave) (q : Path), t.closingPath v c.k q leg2 cl = t) :
    Committed c new (c.pathAt (c.pc + BitVec.ofNat 64 (4 * x.words)) new) ((c.marked cl x).commitLeg c.w.id c.k)
      ∧ ((c.marked cl x).commitLeg c.w.id c.k) = { s2 with waves := ((c.marked cl x).commitLeg c.w.id c.k).waves }
      ∧ ∀ id, id ≠ c.w.id → ((c.marked cl x).commitLeg c.w.id c.k).wave? id = s2.wave? id := by
  have hp := h.parked cl x
  have hc2 : leg2.closing = some cl := by rw [hleg]; rfl
  have hid := State.wave?_id hw2
  have hcr : leg2.crossed = [] := by rw [hleg]; exact h.free.uncrossed
  rw [State.commitLeg_keeps hp rfl hst h.cinvs (by simpa [Ctx.marked] using hrun) hc2 hcr hw2 hstack ht hpath]
  generalize hx : s2.addFences (w2.commit c.k c.path leg2 (s2.thresholds w2)) leg2 = y
  have hyid : y.id = c.w.id := by rw [← hx]; simpa using hid
  obtain ⟨e, he⟩ := Wave.commit_slot w2 c.k c.path leg2 (s2.thresholds w2)
  have hslot : y.slot c.k = (w2.slot c.k).committed c.path leg2 e := by
    rw [← hx, State.addFences_slot, he]
  have hf := State.wave?_setWave_same (s := s2) (w := y) (x := w2) (by rw [hyid]; exact hw2)
  rw [hyid] at hf
  refine ⟨⟨y, hf, ?_, ?_, ?_, ?_⟩, ?_, ?_⟩
  · rw [hslot]; simp [Slot.committed, Ctx.pathAt, hleg, Ctx.markedLeg]
  · rw [hslot]; rfl
  · rw [← hx]; simp [hstack]
  · rw [← hx]
    simp only [State.addFences_regs, Wave.commit_regs, hregs, hww, hleg]
    cases hcl : cl <;> first
      | (exact absurd hcl (hb _ _))
      | (simp [Regs.commit, Ctx.written, Ctx.markedLeg, h.opened, Regs.commitWrites, Leg.clears, Regs.commitLane]; done)
  · simp [State.setWave]
  · intro id hid
    rw [State.wave?_setWave_other (by rw [hyid]; exact hid)]

/-- A leg without stores whose closing instruction is no TST stores nothing. -/
theorem MayClose.noStores {s : State} {c : Ctx} (h : MayClose s c) {cl : Closing} (x : Shape)
    (hn : ∀ t a b, cl ≠ .tile (.store t a b)) (s' : State) (w : Wave) : s'.legStores w (c.markedLeg cl x) = [] := by
  have h1 : (c.markedLeg cl x).closing = some cl := rfl
  have h2 : (c.markedLeg cl x).stores = [] := h.stores
  simp only [State.legStores, h1, h2]
  split
  · rename_i heq; simp at heq; exact absurd heq (hn _ _ _)
  · rfl

end Sys2Proof.Machine
end

