-- ==== Sys2Proof/Laws/Memory.lean ====
section
/-! SUPPORT. Laws of the one memory: what a write changes and what it leaves, and that every operation keeps the canonical
form. -/

namespace Sys2Proof.Machine

/-! ## The canonical form -/

/-- A list of cells all of whose addresses lie above a bound. -/
def Memory.above (k : Nat) (m : List Host.Cell) : Prop := ∀ c ∈ m, k < c.1

theorem Memory.wf_cons (a : Nat) (b : Byte) (r : List Host.Cell) :
    Memory.wf ((a, b) :: r) = true ↔ b ≠ 0 ∧ Memory.above a r ∧ Memory.wf r = true := by
  induction r generalizing a b with
  | nil => simp [Memory.wf, Memory.above]
  | cons c r ih =>
    obtain ⟨a', b'⟩ := c
    have h := ih a' b'
    simp only [Memory.wf, Bool.and_eq_true, decide_eq_true_eq, bne_iff_ne, ne_eq, Memory.above, List.mem_cons,
      forall_eq_or_imp] at h ⊢
    constructor
    · rintro ⟨⟨hlt, hb⟩, hw⟩
      refine ⟨hb, ⟨hlt, fun c hc => ?_⟩, hw⟩
      exact Nat.lt_trans hlt ((h.mp hw).2.1 c hc)
    · rintro ⟨hb, ⟨hlt, _⟩, hw⟩
      exact ⟨⟨hlt, hb⟩, hw⟩

theorem Memory.wf_nil : Memory.wf [] = true := rfl

theorem Memory.above_set {k j : Nat} {m : List Host.Cell} (h : Memory.above k m) (hj : k < j) (v : Byte) :
    Memory.above k (Memory.set m j v) := by
  induction m with
  | nil =>
    simp only [Memory.set]; split
    · simp [Memory.above]
    · simpa [Memory.above] using hj
  | cons c r ih =>
    obtain ⟨a, b⟩ := c
    have hr : Memory.above k r := fun c hc => h c (List.mem_cons_of_mem _ hc)
    have ha : k < a := h (a, b) List.mem_cons_self
    simp only [Memory.set]
    split
    · split
      · exact h
      · intro c hc
        rcases List.mem_cons.mp hc with rfl | hc
        · exact hj
        · exact h c hc
    · split
      · split
        · exact hr
        · intro c hc
          rcases List.mem_cons.mp hc with rfl | hc
          · exact ha
          · exact hr c hc
      · intro c hc
        rcases List.mem_cons.mp hc with rfl | hc
        · exact ha
        · exact ih hr c hc

theorem Memory.above_mono {j k : Nat} {m : List Host.Cell} (h : Memory.above k m) (hj : j ≤ k) : Memory.above j m :=
  fun c hc => Nat.lt_of_le_of_lt hj (h c hc)

/-- Putting a byte keeps the canonical form. -/
theorem Memory.wf_set {m : List Host.Cell} (h : Memory.wf m = true) (k : Nat) (v : Byte) :
    Memory.wf (Memory.set m k v) = true := by
  induction m with
  | nil =>
    simp only [Memory.set]; split
    · rfl
    · rename_i hv; simpa [Memory.wf] using hv
  | cons c r ih =>
    obtain ⟨a, b⟩ := c
    obtain ⟨hb, ha, hr⟩ := (Memory.wf_cons a b r).mp h
    simp only [Memory.set]
    split
    · rename_i hk
      split
      · exact h
      · rename_i hv
        refine (Memory.wf_cons k v _).mpr ⟨hv, ?_, h⟩
        intro c hc
        rcases List.mem_cons.mp hc with rfl | hc
        · exact hk
        · exact Nat.lt_trans hk (ha c hc)
    · rename_i hk
      split
      · split
        · exact hr
        · rename_i hv
          exact (Memory.wf_cons a v r).mpr ⟨hv, ha, hr⟩
      · rename_i hne
        exact (Memory.wf_cons a b _).mpr ⟨hb, Memory.above_set ha (by omega) v, ih hr⟩

/-- Writing bytes keeps the canonical form. -/
theorem Memory.wf_write {m : List Host.Cell} (h : Memory.wf m = true) (k : Nat) (bs : List Byte) :
    Memory.wf (Memory.write m k bs) = true := by
  induction bs generalizing m k with
  | nil => exact h
  | cons b r ih => exact ih (Memory.wf_set h k b) (k + 1)

theorem Memory.wf_filter {m : List Host.Cell} (h : Memory.wf m = true) (p : Host.Cell → Bool) :
    Memory.wf (m.filter p) = true := by
  induction m with
  | nil => rfl
  | cons c r ih =>
    obtain ⟨a, b⟩ := c
    obtain ⟨hb, ha, hr⟩ := (Memory.wf_cons a b r).mp h
    simp only [List.filter_cons]
    split
    · refine (Memory.wf_cons a b _).mpr ⟨hb, fun c hc => ha c (List.mem_filter.mp hc).1, ih hr⟩
    · exact ih hr

/-- Wiping a range keeps the canonical form. -/
theorem Memory.wf_wipe {m : List Host.Cell} (h : Memory.wf m = true) (k n : Nat) :
    Memory.wf (Memory.wipe m k n) = true := Memory.wf_filter h _

/-- Writing into pieces keeps the canonical form. -/
theorem Memory.wf_writePieces {m : List Host.Cell} (h : Memory.wf m = true) (ps : List Piece) (bs : List Byte) :
    Memory.wf (writePieces m ps bs) = true := by
  induction ps generalizing m bs with
  | nil => exact h
  | cons p r ih => exact ih (Memory.wf_write h p.key _) _

/-! ## Reading what has been written -/

theorem Memory.get_above {k j : Nat} {m : List Host.Cell} (h : Memory.above k m) (hj : j ≤ k) : Memory.get m j = 0 := by
  cases m with
  | nil => rfl
  | cons c r =>
    obtain ⟨a, b⟩ := c
    have : k < a := h (a, b) List.mem_cons_self
    simp only [Memory.get]
    rw [if_neg (by omega), if_pos (by omega)]

theorem Memory.get_cons (a : Nat) (b : Byte) (r : List Host.Cell) (k : Nat) :
    Memory.get ((a, b) :: r) k = if a = k then b else if k < a then 0 else Memory.get r k := rfl

/-- A byte reads as it was put. -/
theorem Memory.get_set_same {m : List Host.Cell} (h : Memory.wf m = true) (k : Nat) (v : Byte) :
    Memory.get (Memory.set m k v) k = v := by
  induction m with
  | nil =>
    simp only [Memory.set]; split
    · rename_i hv; simp [Memory.get, hv]
    · simp [Memory.get]
  | cons c r ih =>
    obtain ⟨a, b⟩ := c
    obtain ⟨hb, ha, hr⟩ := (Memory.wf_cons a b r).mp h
    simp only [Memory.set]
    split
    · rename_i hk
      split
      · rename_i hv
        simp only [Memory.get]
        rw [if_neg (by omega), if_pos hk, hv]
      · simp [Memory.get]
    · rename_i hk
      split
      · rename_i he
        split
        · rename_i hv
          rw [Memory.get_above ha (by omega), hv]
        · simp [Memory.get, he]
      · rename_i hne
        simp only [Memory.get]
        rw [if_neg (fun hh => hne hh.symm), if_neg hk]
        exact ih hr

/-- Every other byte reads as before. -/
theorem Memory.get_set_other {m : List Host.Cell} (h : Memory.wf m = true) (k j : Nat) (v : Byte) (hj : j ≠ k) :
    Memory.get (Memory.set m k v) j = Memory.get m j := by
  induction m with
  | nil =>
    simp only [Memory.set]; split
    · rfl
    · simp only [Memory.get]
      rw [if_neg (fun hh => hj hh.symm)]
      split <;> rfl
  | cons c r ih =>
    obtain ⟨a, b⟩ := c
    obtain ⟨hb, ha, hr⟩ := (Memory.wf_cons a b r).mp h
    simp only [Memory.set]
    split
    · rename_i hk
      split
      · rfl
      · rw [Memory.get_cons k v, if_neg (fun hh => hj hh.symm)]
        split
        · rename_i hlt
          simp only [Memory.get]
          rw [if_neg (by omega), if_pos (by omega)]
        · simp only [Memory.get]
    · rename_i hk
      split
      · rename_i he
        split
        · simp only [Memory.get]
          rw [if_neg (by omega)]
          split
          · rename_i hlt
            exact Memory.get_above ha (by omega)
          · rfl
        · have hne : ¬ a = j := by omega
          simp only [Memory.get_cons, hne, if_false]
      · simp only [Memory.get]
        split
        · rfl
        · split
          · rfl
          · exact ih hr

/-- A byte outside the bytes written reads as before. -/
theorem Memory.get_write_outside {m : List Host.Cell} (h : Memory.wf m = true) (k j : Nat) (bs : List Byte)
    (hj : j < k ∨ k + bs.length ≤ j) : Memory.get (Memory.write m k bs) j = Memory.get m j := by
  induction bs generalizing m k with
  | nil => rfl
  | cons b r ih =>
    simp only [List.length_cons] at hj
    rw [Memory.write, ih (Memory.wf_set h k b) (k + 1) (by omega), Memory.get_set_other h k j b (by omega)]

/-- The bytes written are the bytes read. -/
theorem Memory.get_write_inside {m : List Host.Cell} (h : Memory.wf m = true) (k i : Nat) (bs : List Byte)
    (hi : i < bs.length) : Memory.get (Memory.write m k bs) (k + i) = bs[i] := by
  induction bs generalizing m k i with
  | nil => simp at hi
  | cons b r ih =>
    cases i with
    | zero =>
      rw [Memory.write, Memory.get_write_outside (Memory.wf_set h k b) _ _ _ (by omega)]
      simpa using Memory.get_set_same h k b
    | succ i =>
      have := ih (Memory.wf_set h k b) (k + 1) i (by simpa using hi)
      rw [Memory.write, show k + (i + 1) = k + 1 + i by omega, this]
      rfl

/-- Reading back what was written. -/
theorem Memory.read_write_same {m : List Host.Cell} (h : Memory.wf m = true) (k : Nat) (bs : List Byte) :
    Memory.read (Memory.write m k bs) k bs.length = bs := by
  have aux : ∀ (n : Nat) (m : List Host.Cell) (k : Nat), Memory.read m k n = (List.range n).map fun i => Memory.get m (k + i) := by
    intro n
    induction n with
    | zero => intro m k; rfl
    | succ n ih =>
      intro m k
      rw [Memory.read, ih, List.range_succ_eq_map, List.map_cons, List.map_map]
      congr 1
      refine List.map_congr_left fun i _ => ?_
      show Memory.get m (k + 1 + i) = Memory.get m (k + (i + 1))
      rw [show k + 1 + i = k + (i + 1) by omega]
  rw [aux]
  refine List.ext_getElem (by simp) fun i h1 h2 => ?_
  simp only [List.getElem_map, List.getElem_range]
  exact Memory.get_write_inside h k i bs h2

end Sys2Proof.Machine
end

