-- ==== Sys2Proof/Laws/Operands.lean ====
section
/-! SUPPORT. Laws of the operand operations: what putting a result into the leg leaves as it was, field by field. -/

namespace Sys2Proof.Machine

/-! ## Ctx.setS -/

@[simp] theorem Ctx.setS_s (c : Ctx) (r : SReg) (v : Word) : (c.setS r v).s = c.s := rfl
@[simp] theorem Ctx.setS_w (c : Ctx) (r : SReg) (v : Word) : (c.setS r v).w = c.w := rfl
@[simp] theorem Ctx.setS_k (c : Ctx) (r : SReg) (v : Word) : (c.setS r v).k = c.k := rfl
@[simp] theorem Ctx.setS_path (c : Ctx) (r : SReg) (v : Word) : (c.setS r v).path = c.path := rfl
@[simp] theorem Ctx.setS_pc (c : Ctx) (r : SReg) (v : Word) : (c.setS r v).pc = c.pc := rfl
@[simp] theorem Ctx.setS_leg_start (c : Ctx) (r : SReg) (v : Word) : (c.setS r v).leg.start = c.leg.start := rfl
@[simp] theorem Ctx.setS_leg_next (c : Ctx) (r : SReg) (v : Word) : (c.setS r v).leg.next = c.leg.next := rfl
@[simp] theorem Ctx.setS_leg_count (c : Ctx) (r : SReg) (v : Word) : (c.setS r v).leg.count = c.leg.count := rfl
@[simp] theorem Ctx.setS_leg_memCount (c : Ctx) (r : SReg) (v : Word) : (c.setS r v).leg.memCount = c.leg.memCount := rfl
@[simp] theorem Ctx.setS_leg_e0 (c : Ctx) (r : SReg) (v : Word) : (c.setS r v).leg.e0 = c.leg.e0 := rfl
@[simp] theorem Ctx.setS_leg_snap (c : Ctx) (r : SReg) (v : Word) : (c.setS r v).leg.snap = c.leg.snap := rfl
@[simp] theorem Ctx.setS_leg_temps (c : Ctx) (r : SReg) (v : Word) : (c.setS r v).leg.temps = c.leg.temps := rfl
@[simp] theorem Ctx.setS_leg_aw (c : Ctx) (r : SReg) (v : Word) : (c.setS r v).leg.aw = c.leg.aw := rfl
@[simp] theorem Ctx.setS_leg_vw (c : Ctx) (r : SReg) (v : Word) : (c.setS r v).leg.vw = c.leg.vw := rfl
@[simp] theorem Ctx.setS_leg_resv (c : Ctx) (r : SReg) (v : Word) : (c.setS r v).leg.resv = c.leg.resv := rfl
@[simp] theorem Ctx.setS_leg_stores (c : Ctx) (r : SReg) (v : Word) : (c.setS r v).leg.stores = c.leg.stores := rfl
@[simp] theorem Ctx.setS_leg_csat (c : Ctx) (r : SReg) (v : Word) : (c.setS r v).leg.csat = c.leg.csat := rfl
@[simp] theorem Ctx.setS_leg_cftz (c : Ctx) (r : SReg) (v : Word) : (c.setS r v).leg.cftz = c.leg.cftz := rfl
@[simp] theorem Ctx.setS_leg_cnan (c : Ctx) (r : SReg) (v : Word) : (c.setS r v).leg.cnan = c.leg.cnan := rfl
@[simp] theorem Ctx.setS_leg_pwb (c : Ctx) (r : SReg) (v : Word) : (c.setS r v).leg.pwb = c.leg.pwb := rfl
@[simp] theorem Ctx.setS_leg_poisoned (c : Ctx) (r : SReg) (v : Word) : (c.setS r v).leg.poisoned = c.leg.poisoned := rfl
@[simp] theorem Ctx.setS_leg_poisonAddr (c : Ctx) (r : SReg) (v : Word) : (c.setS r v).leg.poisonAddr = c.leg.poisonAddr := rfl
@[simp] theorem Ctx.setS_leg_out (c : Ctx) (r : SReg) (v : Word) : (c.setS r v).leg.out = c.leg.out := rfl
@[simp] theorem Ctx.setS_leg_crossed (c : Ctx) (r : SReg) (v : Word) : (c.setS r v).leg.crossed = c.leg.crossed := rfl
@[simp] theorem Ctx.setS_leg_closing (c : Ctx) (r : SReg) (v : Word) : (c.setS r v).leg.closing = c.leg.closing := rfl
@[simp] theorem Ctx.setS_leg_closingAt (c : Ctx) (r : SReg) (v : Word) : (c.setS r v).leg.closingAt = c.leg.closingAt := rfl
@[simp] theorem Ctx.setS_leg_parked (c : Ctx) (r : SReg) (v : Word) : (c.setS r v).leg.parked = c.leg.parked := rfl
@[simp] theorem Ctx.setS_leg_sent (c : Ctx) (r : SReg) (v : Word) : (c.setS r v).leg.sent = c.leg.sent := rfl
@[simp] theorem Ctx.setS_leg_reply (c : Ctx) (r : SReg) (v : Word) : (c.setS r v).leg.reply = c.leg.reply := rfl
@[simp] theorem Ctx.setS_leg_failed (c : Ctx) (r : SReg) (v : Word) : (c.setS r v).leg.failed = c.leg.failed := rfl
@[simp] theorem Ctx.setS_leg_failBit (c : Ctx) (r : SReg) (v : Word) : (c.setS r v).leg.failBit = c.leg.failBit := rfl
@[simp] theorem Ctx.setS_leg_failDone (c : Ctx) (r : SReg) (v : Word) : (c.setS r v).leg.failDone = c.leg.failDone := rfl
@[simp] theorem Ctx.setS_leg_fences (c : Ctx) (r : SReg) (v : Word) : (c.setS r v).leg.fences = c.leg.fences := rfl
@[simp] theorem Ctx.setS_leg_cinvs (c : Ctx) (r : SReg) (v : Word) : (c.setS r v).leg.cinvs = c.leg.cinvs := rfl
@[simp] theorem Ctx.setS_leg_cwait (c : Ctx) (r : SReg) (v : Word) : (c.setS r v).leg.cwait = c.leg.cwait := rfl
@[simp] theorem Ctx.setS_leg_cstage (c : Ctx) (r : SReg) (v : Word) : (c.setS r v).leg.cstage = c.leg.cstage := rfl
@[simp] theorem Ctx.setS_leg_loads (c : Ctx) (r : SReg) (v : Word) : (c.setS r v).leg.loads = c.leg.loads := rfl
@[simp] theorem Ctx.setS_leg_cls (c : Ctx) (r : SReg) (v : Word) : (c.setS r v).leg.cls = c.leg.cls := rfl
@[simp] theorem Ctx.setS_leg_passed (c : Ctx) (r : SReg) (v : Word) : (c.setS r v).leg.passed = c.leg.passed := rfl
@[simp] theorem Ctx.setS_leg_tprog (c : Ctx) (r : SReg) (v : Word) : (c.setS r v).leg.tprog = c.leg.tprog := rfl
@[simp] theorem Ctx.setS_leg_short (c : Ctx) (r : SReg) (v : Word) : (c.setS r v).leg.short = c.leg.short := rfl

/-! ## Ctx.setA -/

@[simp] theorem Ctx.setA_s (c : Ctx) (r : AReg) (v : DWord) : (c.setA r v).s = c.s := rfl
@[simp] theorem Ctx.setA_w (c : Ctx) (r : AReg) (v : DWord) : (c.setA r v).w = c.w := rfl
@[simp] theorem Ctx.setA_k (c : Ctx) (r : AReg) (v : DWord) : (c.setA r v).k = c.k := rfl
@[simp] theorem Ctx.setA_path (c : Ctx) (r : AReg) (v : DWord) : (c.setA r v).path = c.path := rfl
@[simp] theorem Ctx.setA_pc (c : Ctx) (r : AReg) (v : DWord) : (c.setA r v).pc = c.pc := rfl
@[simp] theorem Ctx.setA_leg_start (c : Ctx) (r : AReg) (v : DWord) : (c.setA r v).leg.start = c.leg.start := rfl
@[simp] theorem Ctx.setA_leg_next (c : Ctx) (r : AReg) (v : DWord) : (c.setA r v).leg.next = c.leg.next := rfl
@[simp] theorem Ctx.setA_leg_count (c : Ctx) (r : AReg) (v : DWord) : (c.setA r v).leg.count = c.leg.count := rfl
@[simp] theorem Ctx.setA_leg_memCount (c : Ctx) (r : AReg) (v : DWord) : (c.setA r v).leg.memCount = c.leg.memCount := rfl
@[simp] theorem Ctx.setA_leg_e0 (c : Ctx) (r : AReg) (v : DWord) : (c.setA r v).leg.e0 = c.leg.e0 := rfl
@[simp] theorem Ctx.setA_leg_snap (c : Ctx) (r : AReg) (v : DWord) : (c.setA r v).leg.snap = c.leg.snap := rfl
@[simp] theorem Ctx.setA_leg_temps (c : Ctx) (r : AReg) (v : DWord) : (c.setA r v).leg.temps = c.leg.temps := rfl
@[simp] theorem Ctx.setA_leg_sw (c : Ctx) (r : AReg) (v : DWord) : (c.setA r v).leg.sw = c.leg.sw := rfl
@[simp] theorem Ctx.setA_leg_vw (c : Ctx) (r : AReg) (v : DWord) : (c.setA r v).leg.vw = c.leg.vw := rfl
@[simp] theorem Ctx.setA_leg_resv (c : Ctx) (r : AReg) (v : DWord) : (c.setA r v).leg.resv = c.leg.resv := rfl
@[simp] theorem Ctx.setA_leg_stores (c : Ctx) (r : AReg) (v : DWord) : (c.setA r v).leg.stores = c.leg.stores := rfl
@[simp] theorem Ctx.setA_leg_csat (c : Ctx) (r : AReg) (v : DWord) : (c.setA r v).leg.csat = c.leg.csat := rfl
@[simp] theorem Ctx.setA_leg_cftz (c : Ctx) (r : AReg) (v : DWord) : (c.setA r v).leg.cftz = c.leg.cftz := rfl
@[simp] theorem Ctx.setA_leg_cnan (c : Ctx) (r : AReg) (v : DWord) : (c.setA r v).leg.cnan = c.leg.cnan := rfl
@[simp] theorem Ctx.setA_leg_pwb (c : Ctx) (r : AReg) (v : DWord) : (c.setA r v).leg.pwb = c.leg.pwb := rfl
@[simp] theorem Ctx.setA_leg_poisoned (c : Ctx) (r : AReg) (v : DWord) : (c.setA r v).leg.poisoned = c.leg.poisoned := rfl
@[simp] theorem Ctx.setA_leg_poisonAddr (c : Ctx) (r : AReg) (v : DWord) : (c.setA r v).leg.poisonAddr = c.leg.poisonAddr := rfl
@[simp] theorem Ctx.setA_leg_out (c : Ctx) (r : AReg) (v : DWord) : (c.setA r v).leg.out = c.leg.out := rfl
@[simp] theorem Ctx.setA_leg_crossed (c : Ctx) (r : AReg) (v : DWord) : (c.setA r v).leg.crossed = c.leg.crossed := rfl
@[simp] theorem Ctx.setA_leg_closing (c : Ctx) (r : AReg) (v : DWord) : (c.setA r v).leg.closing = c.leg.closing := rfl
@[simp] theorem Ctx.setA_leg_closingAt (c : Ctx) (r : AReg) (v : DWord) : (c.setA r v).leg.closingAt = c.leg.closingAt := rfl
@[simp] theorem Ctx.setA_leg_parked (c : Ctx) (r : AReg) (v : DWord) : (c.setA r v).leg.parked = c.leg.parked := rfl
@[simp] theorem Ctx.setA_leg_sent (c : Ctx) (r : AReg) (v : DWord) : (c.setA r v).leg.sent = c.leg.sent := rfl
@[simp] theorem Ctx.setA_leg_reply (c : Ctx) (r : AReg) (v : DWord) : (c.setA r v).leg.reply = c.leg.reply := rfl
@[simp] theorem Ctx.setA_leg_failed (c : Ctx) (r : AReg) (v : DWord) : (c.setA r v).leg.failed = c.leg.failed := rfl
@[simp] theorem Ctx.setA_leg_failBit (c : Ctx) (r : AReg) (v : DWord) : (c.setA r v).leg.failBit = c.leg.failBit := rfl
@[simp] theorem Ctx.setA_leg_failDone (c : Ctx) (r : AReg) (v : DWord) : (c.setA r v).leg.failDone = c.leg.failDone := rfl
@[simp] theorem Ctx.setA_leg_fences (c : Ctx) (r : AReg) (v : DWord) : (c.setA r v).leg.fences = c.leg.fences := rfl
@[simp] theorem Ctx.setA_leg_cinvs (c : Ctx) (r : AReg) (v : DWord) : (c.setA r v).leg.cinvs = c.leg.cinvs := rfl
@[simp] theorem Ctx.setA_leg_cwait (c : Ctx) (r : AReg) (v : DWord) : (c.setA r v).leg.cwait = c.leg.cwait := rfl
@[simp] theorem Ctx.setA_leg_cstage (c : Ctx) (r : AReg) (v : DWord) : (c.setA r v).leg.cstage = c.leg.cstage := rfl
@[simp] theorem Ctx.setA_leg_loads (c : Ctx) (r : AReg) (v : DWord) : (c.setA r v).leg.loads = c.leg.loads := rfl
@[simp] theorem Ctx.setA_leg_cls (c : Ctx) (r : AReg) (v : DWord) : (c.setA r v).leg.cls = c.leg.cls := rfl
@[simp] theorem Ctx.setA_leg_passed (c : Ctx) (r : AReg) (v : DWord) : (c.setA r v).leg.passed = c.leg.passed := rfl
@[simp] theorem Ctx.setA_leg_tprog (c : Ctx) (r : AReg) (v : DWord) : (c.setA r v).leg.tprog = c.leg.tprog := rfl
@[simp] theorem Ctx.setA_leg_short (c : Ctx) (r : AReg) (v : DWord) : (c.setA r v).leg.short = c.leg.short := rfl

/-! ## Ctx.countEvents -/

@[simp] theorem Ctx.countEvents_s (c : Ctx) (e : List Ev) : (c.countEvents e).s = c.s := rfl
@[simp] theorem Ctx.countEvents_w (c : Ctx) (e : List Ev) : (c.countEvents e).w = c.w := rfl
@[simp] theorem Ctx.countEvents_k (c : Ctx) (e : List Ev) : (c.countEvents e).k = c.k := rfl
@[simp] theorem Ctx.countEvents_path (c : Ctx) (e : List Ev) : (c.countEvents e).path = c.path := rfl
@[simp] theorem Ctx.countEvents_pc (c : Ctx) (e : List Ev) : (c.countEvents e).pc = c.pc := rfl
@[simp] theorem Ctx.countEvents_leg_start (c : Ctx) (e : List Ev) : (c.countEvents e).leg.start = c.leg.start := rfl
@[simp] theorem Ctx.countEvents_leg_next (c : Ctx) (e : List Ev) : (c.countEvents e).leg.next = c.leg.next := rfl
@[simp] theorem Ctx.countEvents_leg_count (c : Ctx) (e : List Ev) : (c.countEvents e).leg.count = c.leg.count := rfl
@[simp] theorem Ctx.countEvents_leg_memCount (c : Ctx) (e : List Ev) : (c.countEvents e).leg.memCount = c.leg.memCount := rfl
@[simp] theorem Ctx.countEvents_leg_e0 (c : Ctx) (e : List Ev) : (c.countEvents e).leg.e0 = c.leg.e0 := rfl
@[simp] theorem Ctx.countEvents_leg_snap (c : Ctx) (e : List Ev) : (c.countEvents e).leg.snap = c.leg.snap := rfl
@[simp] theorem Ctx.countEvents_leg_temps (c : Ctx) (e : List Ev) : (c.countEvents e).leg.temps = c.leg.temps := rfl
@[simp] theorem Ctx.countEvents_leg_sw (c : Ctx) (e : List Ev) : (c.countEvents e).leg.sw = c.leg.sw := rfl
@[simp] theorem Ctx.countEvents_leg_aw (c : Ctx) (e : List Ev) : (c.countEvents e).leg.aw = c.leg.aw := rfl
@[simp] theorem Ctx.countEvents_leg_vw (c : Ctx) (e : List Ev) : (c.countEvents e).leg.vw = c.leg.vw := rfl
@[simp] theorem Ctx.countEvents_leg_resv (c : Ctx) (e : List Ev) : (c.countEvents e).leg.resv = c.leg.resv := rfl
@[simp] theorem Ctx.countEvents_leg_stores (c : Ctx) (e : List Ev) : (c.countEvents e).leg.stores = c.leg.stores := rfl
@[simp] theorem Ctx.countEvents_leg_pwb (c : Ctx) (e : List Ev) : (c.countEvents e).leg.pwb = c.leg.pwb := rfl
@[simp] theorem Ctx.countEvents_leg_poisoned (c : Ctx) (e : List Ev) : (c.countEvents e).leg.poisoned = c.leg.poisoned := rfl
@[simp] theorem Ctx.countEvents_leg_poisonAddr (c : Ctx) (e : List Ev) : (c.countEvents e).leg.poisonAddr = c.leg.poisonAddr := rfl
@[simp] theorem Ctx.countEvents_leg_out (c : Ctx) (e : List Ev) : (c.countEvents e).leg.out = c.leg.out := rfl
@[simp] theorem Ctx.countEvents_leg_crossed (c : Ctx) (e : List Ev) : (c.countEvents e).leg.crossed = c.leg.crossed := rfl
@[simp] theorem Ctx.countEvents_leg_closing (c : Ctx) (e : List Ev) : (c.countEvents e).leg.closing = c.leg.closing := rfl
@[simp] theorem Ctx.countEvents_leg_closingAt (c : Ctx) (e : List Ev) : (c.countEvents e).leg.closingAt = c.leg.closingAt := rfl
@[simp] theorem Ctx.countEvents_leg_parked (c : Ctx) (e : List Ev) : (c.countEvents e).leg.parked = c.leg.parked := rfl
@[simp] theorem Ctx.countEvents_leg_sent (c : Ctx) (e : List Ev) : (c.countEvents e).leg.sent = c.leg.sent := rfl
@[simp] theorem Ctx.countEvents_leg_reply (c : Ctx) (e : List Ev) : (c.countEvents e).leg.reply = c.leg.reply := rfl
@[simp] theorem Ctx.countEvents_leg_failed (c : Ctx) (e : List Ev) : (c.countEvents e).leg.failed = c.leg.failed := rfl
@[simp] theorem Ctx.countEvents_leg_failBit (c : Ctx) (e : List Ev) : (c.countEvents e).leg.failBit = c.leg.failBit := rfl
@[simp] theorem Ctx.countEvents_leg_failDone (c : Ctx) (e : List Ev) : (c.countEvents e).leg.failDone = c.leg.failDone := rfl
@[simp] theorem Ctx.countEvents_leg_fences (c : Ctx) (e : List Ev) : (c.countEvents e).leg.fences = c.leg.fences := rfl
@[simp] theorem Ctx.countEvents_leg_cinvs (c : Ctx) (e : List Ev) : (c.countEvents e).leg.cinvs = c.leg.cinvs := rfl
@[simp] theorem Ctx.countEvents_leg_cwait (c : Ctx) (e : List Ev) : (c.countEvents e).leg.cwait = c.leg.cwait := rfl
@[simp] theorem Ctx.countEvents_leg_cstage (c : Ctx) (e : List Ev) : (c.countEvents e).leg.cstage = c.leg.cstage := rfl
@[simp] theorem Ctx.countEvents_leg_loads (c : Ctx) (e : List Ev) : (c.countEvents e).leg.loads = c.leg.loads := rfl
@[simp] theorem Ctx.countEvents_leg_cls (c : Ctx) (e : List Ev) : (c.countEvents e).leg.cls = c.leg.cls := rfl
@[simp] theorem Ctx.countEvents_leg_passed (c : Ctx) (e : List Ev) : (c.countEvents e).leg.passed = c.leg.passed := rfl
@[simp] theorem Ctx.countEvents_leg_tprog (c : Ctx) (e : List Ev) : (c.countEvents e).leg.tprog = c.leg.tprog := rfl
@[simp] theorem Ctx.countEvents_leg_short (c : Ctx) (e : List Ev) : (c.countEvents e).leg.short = c.leg.short := rfl

/-! ## Ctx.close -/

@[simp] theorem Ctx.close_s (c : Ctx) (x : Closing) : (c.close x).s = c.s := rfl
@[simp] theorem Ctx.close_w (c : Ctx) (x : Closing) : (c.close x).w = c.w := rfl
@[simp] theorem Ctx.close_k (c : Ctx) (x : Closing) : (c.close x).k = c.k := rfl
@[simp] theorem Ctx.close_path (c : Ctx) (x : Closing) : (c.close x).path = c.path := rfl
@[simp] theorem Ctx.close_pc (c : Ctx) (x : Closing) : (c.close x).pc = c.pc := rfl
@[simp] theorem Ctx.close_leg_start (c : Ctx) (x : Closing) : (c.close x).leg.start = c.leg.start := rfl
@[simp] theorem Ctx.close_leg_next (c : Ctx) (x : Closing) : (c.close x).leg.next = c.leg.next := rfl
@[simp] theorem Ctx.close_leg_count (c : Ctx) (x : Closing) : (c.close x).leg.count = c.leg.count := rfl
@[simp] theorem Ctx.close_leg_memCount (c : Ctx) (x : Closing) : (c.close x).leg.memCount = c.leg.memCount := rfl
@[simp] theorem Ctx.close_leg_e0 (c : Ctx) (x : Closing) : (c.close x).leg.e0 = c.leg.e0 := rfl
@[simp] theorem Ctx.close_leg_snap (c : Ctx) (x : Closing) : (c.close x).leg.snap = c.leg.snap := rfl
@[simp] theorem Ctx.close_leg_temps (c : Ctx) (x : Closing) : (c.close x).leg.temps = c.leg.temps := rfl
@[simp] theorem Ctx.close_leg_sw (c : Ctx) (x : Closing) : (c.close x).leg.sw = c.leg.sw := rfl
@[simp] theorem Ctx.close_leg_aw (c : Ctx) (x : Closing) : (c.close x).leg.aw = c.leg.aw := rfl
@[simp] theorem Ctx.close_leg_vw (c : Ctx) (x : Closing) : (c.close x).leg.vw = c.leg.vw := rfl
@[simp] theorem Ctx.close_leg_resv (c : Ctx) (x : Closing) : (c.close x).leg.resv = c.leg.resv := rfl
@[simp] theorem Ctx.close_leg_stores (c : Ctx) (x : Closing) : (c.close x).leg.stores = c.leg.stores := rfl
@[simp] theorem Ctx.close_leg_csat (c : Ctx) (x : Closing) : (c.close x).leg.csat = c.leg.csat := rfl
@[simp] theorem Ctx.close_leg_cftz (c : Ctx) (x : Closing) : (c.close x).leg.cftz = c.leg.cftz := rfl
@[simp] theorem Ctx.close_leg_cnan (c : Ctx) (x : Closing) : (c.close x).leg.cnan = c.leg.cnan := rfl
@[simp] theorem Ctx.close_leg_pwb (c : Ctx) (x : Closing) : (c.close x).leg.pwb = c.leg.pwb := rfl
@[simp] theorem Ctx.close_leg_poisoned (c : Ctx) (x : Closing) : (c.close x).leg.poisoned = c.leg.poisoned := rfl
@[simp] theorem Ctx.close_leg_poisonAddr (c : Ctx) (x : Closing) : (c.close x).leg.poisonAddr = c.leg.poisonAddr := rfl
@[simp] theorem Ctx.close_leg_out (c : Ctx) (x : Closing) : (c.close x).leg.out = c.leg.out := rfl
@[simp] theorem Ctx.close_leg_crossed (c : Ctx) (x : Closing) : (c.close x).leg.crossed = c.leg.crossed := rfl
@[simp] theorem Ctx.close_leg_parked (c : Ctx) (x : Closing) : (c.close x).leg.parked = c.leg.parked := rfl
@[simp] theorem Ctx.close_leg_sent (c : Ctx) (x : Closing) : (c.close x).leg.sent = c.leg.sent := rfl
@[simp] theorem Ctx.close_leg_reply (c : Ctx) (x : Closing) : (c.close x).leg.reply = c.leg.reply := rfl
@[simp] theorem Ctx.close_leg_failed (c : Ctx) (x : Closing) : (c.close x).leg.failed = c.leg.failed := rfl
@[simp] theorem Ctx.close_leg_failBit (c : Ctx) (x : Closing) : (c.close x).leg.failBit = c.leg.failBit := rfl
@[simp] theorem Ctx.close_leg_failDone (c : Ctx) (x : Closing) : (c.close x).leg.failDone = c.leg.failDone := rfl
@[simp] theorem Ctx.close_leg_fences (c : Ctx) (x : Closing) : (c.close x).leg.fences = c.leg.fences := rfl
@[simp] theorem Ctx.close_leg_cinvs (c : Ctx) (x : Closing) : (c.close x).leg.cinvs = c.leg.cinvs := rfl
@[simp] theorem Ctx.close_leg_cwait (c : Ctx) (x : Closing) : (c.close x).leg.cwait = c.leg.cwait := rfl
@[simp] theorem Ctx.close_leg_cstage (c : Ctx) (x : Closing) : (c.close x).leg.cstage = c.leg.cstage := rfl
@[simp] theorem Ctx.close_leg_loads (c : Ctx) (x : Closing) : (c.close x).leg.loads = c.leg.loads := rfl
@[simp] theorem Ctx.close_leg_cls (c : Ctx) (x : Closing) : (c.close x).leg.cls = c.leg.cls := rfl
@[simp] theorem Ctx.close_leg_passed (c : Ctx) (x : Closing) : (c.close x).leg.passed = c.leg.passed := rfl
@[simp] theorem Ctx.close_leg_tprog (c : Ctx) (x : Closing) : (c.close x).leg.tprog = c.leg.tprog := rfl
@[simp] theorem Ctx.close_leg_short (c : Ctx) (x : Closing) : (c.close x).leg.short = c.leg.short := rfl

@[simp] theorem Ctx.setS_leg_sw (c : Ctx) (r : SReg) (v : Word) : (c.setS r v).leg.sw = (r, v) :: c.leg.sw := rfl
@[simp] theorem Ctx.setA_leg_aw (c : Ctx) (r : AReg) (v : DWord) : (c.setA r v).leg.aw = (r, v) :: c.leg.aw := rfl
@[simp] theorem Ctx.close_leg_closing (c : Ctx) (x : Closing) : (c.close x).leg.closing = some x := rfl
@[simp] theorem Ctx.close_leg_closingAt (c : Ctx) (x : Closing) : (c.close x).leg.closingAt = c.pc := rfl

end Sys2Proof.Machine
end

