-- ==== Sys2Proof/Laws/Sound.lean ====
section
/-! SUPPORT. Laws of the canonical form of memory: the shared operations that write memory keep it, and the others leave
memory as it was. -/

namespace Sys2Proof.Machine

theorem State.sound_of_mem {s t : State} (h : s.sound) (hm : t.mem = s.mem) : t.sound := by
  simpa [State.sound, hm] using h

theorem State.mem_post (s : State) (k : PortId) (a : DWord) (b : List Byte) (more : List (DWord × List Byte))
    (fq : Option (BitVec 3)) : (s.post k a b more fq).mem = s.mem := by
  simp only [State.post]; split <;> simp

theorem State.mem_postParts (s : State) (k : PortId) (l : List (DWord × List Byte)) : (s.postParts k l).mem = s.mem := by
  cases l with
  | nil => rfl
  | cons x r => exact State.mem_post _ _ _ _ _ _

/-- A posted write that reaches its host keeps the form. -/
theorem Posted.wf_perform {m : List Host.Cell} (h : Memory.wf m = true) (x : Posted) (k : PortId) :
    Memory.wf (x.perform k m) = true := by
  simp only [Posted.perform]
  have h0 := Memory.wf_write h (hostKey k x.addr) x.bytes
  generalize Memory.write m (hostKey k x.addr) x.bytes = m0 at h0 ⊢
  generalize x.more = l
  induction l generalizing m0 with
  | nil => exact h0
  | cons y r ih => exact ih _ (Memory.wf_write h0 _ _)

theorem State.sound_drainPort {s : State} (h : s.sound) (k : PortId) : (s.drainPort k).sound := by
  simp only [State.sound, State.drainPort, State.setPort_mem] at *
  generalize (s.port k).posted = l
  generalize s.mem = m at h
  induction l generalizing m with
  | nil => exact h
  | cons x r ih => exact ih _ (x.wf_perform h k)

theorem State.sound_drain {s : State} (h : s.sound) : s.drain.sound := State.sound_drainPort (State.sound_drainPort h _) _

theorem storeHere_wf {m : List Host.Cell} (h : Memory.wf m = true) (ps : List Piece) (b : List Byte) :
    Memory.wf (storeHere m ps b) = true := by
  induction ps generalizing m b with
  | nil => exact h
  | cons p r ih =>
    rw [storeHere]
    refine ih ?_ _
    split
    · exact h
    · exact Memory.wf_write h _ _

/-- What a write leaves in memory: what of it stays in the package, the domain and CXL memory. -/
theorem State.mem_store (s : State) (ps : List Piece) (b : List Byte) : (s.store ps b).mem = storeHere s.mem ps b := by
  simp only [State.store, State.mem_postParts]

theorem State.sound_store {s : State} (h : s.sound) (ps : List Piece) (b : List Byte) : (s.store ps b).sound := by
  simp only [State.sound, State.mem_store]
  exact storeHere_wf h _ _

theorem State.sound_performStores {s : State} (h : s.sound) (st : List HeldStore) : (s.performStores st).sound := by
  have hf : ∀ (l : List HeldStore) (s : State), s.sound → (l.foldl (fun s h => s.store h.pieces h.bytes) s).sound := by
    intro l
    induction l with
    | nil => exact fun _ h => h
    | cons x r ih => exact fun s h => ih _ (State.sound_store h _ _)
  have := hf st s h
  simp only [State.performStores]
  split
  · exact this
  · exact this

theorem State.sound_commitStores {s : State} (h : s.sound) (w : Wave) (ci : List (DWord × Word × Nat)) (st : List HeldStore) :
    (s.commitStores w ci st).sound :=
  State.sound_of_mem (State.sound_performStores h st) (State.mem_commitStores _ _ _ _)

theorem State.sound_stored {s : State} (h : s.sound) (w : Wave) (leg : Leg) : (s.stored w leg).sound :=
  State.sound_of_mem (State.sound_commitStores h w leg.cinvs leg.stores) (State.mem_keepFor _ _ _ _)

theorem State.sound_wipe {s : State} (h : s.sound) (key n : Nat) : (s.wipe key n).sound := Memory.wf_wipe h _ _

theorem atomRun_wf {m : List Host.Cell} (h : Memory.wf m = true) (op : AtomOp) (t : LTy) (n : Nat) (failed done : Mask)
    (ls : List AtomLane) : Memory.wf (atomRun op t n failed done ls m).2 = true := by
  induction ls generalizing m with
  | nil => exact h
  | cons l r ih =>
    simp only [atomRun]
    refine ih ?_
    split
    · exact h
    · exact Memory.wf_writePieces h _ _

@[simp] theorem State.mem_markPoison (s : State) (ls : List Nat) : (s.markPoison ls).mem = s.mem := rfl
@[simp] theorem State.mem_shootDown (s : State) (asid : BitVec 16) (lo len : Nat) : (s.shootDown asid lo len).mem = s.mem := rfl
@[simp] theorem State.mem_freshToken (s : State) (core : Nat) : (s.freshToken core).1.mem = s.mem := rfl

end Sys2Proof.Machine
end

