-- ==== Sys2Proof/Tests/Slice0.lean ====
section
/-! SUPPORT. Tests of the model: expected values worked out from the spec by hand or taken from its worked examples, each on
one step of a small state; ill-formed terms that the check refuses; and, for every statement with hypotheses, a state and
operands that meet them. -/

open Sys2Proof Sys2Proof.Machine

namespace Sys2Proof.Tests

/-! ## A small machine: one wave of four lanes, a page of code and a page of data -/

/-- A page of 64 KiB mapped to its own address. -/
def demoLeaf (va : DWord) (x w : Bool) : Leaf :=
  { asid := 1, size := 0, va := va, p := true, w := w, x := x, cw := false, hau := false, loc := 0, dev := 0, fmt := 0,
    blk := false, scl := 0, pa := va }

/-- s1 = 7, s2 = 3, s3 = -2^31, s4 = -1, s5 = 1.5, s8 = 5, s12 = 3 and s16 = 32, a1 and a2 in the data page, a3 private, a4 the
start of the code page, v1 = 1, 2, 3, 4, v2 = 5, 5, 9, 9. -/
def demoRegs : Regs :=
  let r := Regs.start 4
  { r with s := (((((((r.s.set 1 7).set 2 3).set 3 0x8000_0000).set 4 0xFFFF_FFFF).set 5 0x3FC0_0000).set 8 5).set 12 3).set 16 32,
           a := (((r.a.set 1 0x20000).set 2 0x20010).set 3 0xF000_0000_0000_0010).set 4 0x10000,
           low := (r.low.set 1 [⟨1, 1⟩, ⟨2, 1⟩, ⟨3, 1⟩, ⟨4, 1⟩]).set 2 [⟨5, 2⟩, ⟨9, 2⟩] }

def demoPath : Path := ⟨0x10000, Mask.below 4, Mask.below 4, 0, none, none⟩
def demoLeg : Leg := Leg.fresh 0x10000 (Mask.below 4) demoRegs 0
def demoWave : Wave :=
  { wordWave 0 1 0 with
      ww := 4, asid := 1, regs := demoRegs, state := .running, started := true,
      s0 := { Slot.empty with path := some demoPath, leg := some demoLeg } }

/-- Partition 0: ASIDs 1 to 16, both ports, cluster pair 0. -/
def demoPart : Sys2Proof.Machine.Part := { Sys2Proof.Machine.Part.none with cpmask := 1, heads := 1, asidCnt := 16, ports := 3, ways := 4 }

/-- The 16 bytes of R249's work record: NEXT 0, END 100, CMIN 4, P 4; then the word 42 at 0x20010. -/
def demoMem : List Host.Cell := [⟨0x20004, 100⟩, ⟨0x20008, 4⟩, ⟨0x2000C, 4⟩, ⟨0x20010, 42⟩]

def demo : State :=
  { State.reset with mode := 1, booting := false, waves := [demoWave], nextId := 2, cur := some (0, .s0), mem := demoMem,
                     parts := State.reset.parts.set 0 (some demoPart),
                     leaves := [demoLeaf 0x10000 true false, demoLeaf 0x20000 false true, demoLeaf 0x000F_FFFF_FFFF_0000 true false] }

def demoCtx : Ctx := ⟨demo, demoWave, .s0, demoPath, demoLeg, 0x10000⟩

/-- The state after one instruction. -/
def afterOf (s : State) (i : Instr) : Option State := match exec i s with
  | .next t => some t
  | _ => none

/-- The wave after one instruction. -/
def after (i : Instr) : Option Wave := (afterOf demo i).bind (·.wave? 0)

/-- What the open leg will write to a scalar, address, mask or lane register. -/
def pendS (i : Instr) (r : SReg) : Option Word :=
  (after i).bind fun w => w.s0.leg.bind fun l => (l.sw.find? (·.1 == r)).map (·.2)
def pendA (i : Instr) (r : AReg) : Option DWord :=
  (after i).bind fun w => w.s0.leg.bind fun l => (l.aw.find? (·.1 == r)).map (·.2)
def pendV (i : Instr) (r : VReg) : Option (List Nat) :=
  (after i).bind fun w => w.s0.leg.bind fun l =>
    (l.vw.find? (·.1 == demoCtx.key r)).map fun x => x.2.expand.map BitVec.toNat

/-- A committed scalar register, FCODE, and the path's place. -/
def regS (i : Instr) (r : Nat) : Option Word := (after i).map fun w => (w.regs.s[r]?).getD 0
def codeOf (i : Instr) : Option Word := (after i).map (·.regs.fcode)
def placeOf (i : Instr) : Option DWord := (after i).bind fun w => w.s0.path.map (·.pc)

/-- A byte of memory after one instruction. -/
def byteAfter (i : Instr) (k : Nat) : Option Byte := (afterOf demo i).map fun t => Memory.get t.mem k

/-- A word of the data page as the leg's stores leave it. -/
def la (d a b : Sel) (ty : LTy) : LA := ⟨d, 0, a, b, .v 0, ty, .rne, false, 0⟩
def lm (d : Sel) (a : AReg) (ty : LTy) : LM := ⟨d, .v 0, a, .off 0, .x, .none, .none, 0, ty⟩

/-! ## Scalars (R123 to R134) -/

theorem test_sadd_wraps : pendS (.sadd false 6 1 4) 6 = some 6 := by decide
theorem test_ssub : pendS (.ssub false 6 2 1) 6 = some 0xFFFF_FFFC := by decide
theorem test_smul : pendS (.smul false 6 3 2) 6 = some 0x8000_0000 := by decide
theorem test_smulh : pendS (.smulh false 6 3 4) 6 = some 0 := by decide
theorem test_smulhn : pendS (.smulhn false 6 3 4) 6 = some 0x7FFF_FFFF := by decide
theorem test_sdiv_least_by_minus_one : pendS (.sdiv false 6 3 4) 6 = some 0x8000_0000 := by decide
theorem test_sdiv_truncates : pendS (.sdiv false 6 1 2) 6 = some 2 := by decide
theorem test_sdivn_by_zero : pendS (.sdivn false 6 1 0) 6 = some 0xFFFF_FFFF := by decide
theorem test_srem_by_zero : pendS (.srem false 6 3 0) 6 = some 0x8000_0000 := by decide
theorem test_sremn : pendS (.sremn false 6 4 1) 6 = some 3 := by decide
theorem test_sand : pendS (.sand false 6 1 2) 6 = some 3 := by decide
theorem test_sor : pendS (.sor false 6 3 2) 6 = some 0x8000_0003 := by decide
theorem test_sxor : pendS (.sxor false 6 1 2) 6 = some 4 := by decide
theorem test_sshl : pendS (.sshl false 6 1 2) 6 = some 56 := by decide
theorem test_sshr_large_count : pendS (.sshr false 6 3 4) 6 = some 0 := by decide
theorem test_ssra_large_count : pendS (.ssra false 6 3 4) 6 = some 0xFFFF_FFFF := by decide
theorem test_smin_signed : pendS (.smin false 6 1 4) 6 = some 0xFFFF_FFFF := by decide
theorem test_smax_signed : pendS (.smax false 6 3 1) 6 = some 7 := by decide
theorem test_sminn : pendS (.sminn false 6 1 4) 6 = some 7 := by decide
theorem test_smaxn : pendS (.smaxn false 6 3 1) 6 = some 0x8000_0000 := by decide
theorem test_sclz : pendS (.sclz false 6 2) 6 = some 30 := by decide
theorem test_sclz_zero : pendS (.sclz false 6 0) 6 = some 32 := by decide
theorem test_scnt : pendS (.scnt false 6 4) 6 = some 32 := by decide
theorem test_smov_same_register : pendS (.smov false 4 4) 4 = some 0xFFFF_FFFF := by decide
theorem test_ssel_by_destination : pendS (.ssel false 2 1 4) 2 = some 7 := by decide
theorem test_ssel_zero : pendS (.ssel false 6 1 4) 6 = some 0xFFFF_FFFF := by decide
theorem test_saddImm_negative : pendS (.saddImm false 6 1 0x7FF) 6 = some 6 := by decide
theorem test_smulImm : pendS (.smulImm false 6 1 0x7FE) 6 = some 0xFFFF_FFF2 := by decide
theorem test_sandImm_extends : pendS (.sandImm false 6 3 0x7FF) 6 = some 0x8000_0000 := by decide
theorem test_sorImm : pendS (.sorImm false 6 1 0x400) 6 = some 0xFFFF_FC07 := by decide
theorem test_sxorImm : pendS (.sxorImm false 6 4 0x7FF) 6 = some 0 := by decide
theorem test_sshlImm : pendS (.sshlImm false 6 1 31) 6 = some 0x8000_0000 := by decide
theorem test_sshrImm : pendS (.sshrImm false 6 3 31) 6 = some 1 := by decide
theorem test_ssraImm : pendS (.ssraImm false 6 3 31) 6 = some 0xFFFF_FFFF := by decide
theorem test_sbfx_exponent : pendS (.sbfx false 6 5 23 7) 6 = some 127 := by decide
theorem test_sbfi_keeps_rest : pendS (.sbfi false 4 1 8 3) 4 = some 0xFFFF_F7FF := by decide
theorem test_sli_extends : pendS (.sli false 6 0x8000) 6 = some 0xFFFF_8000 := by decide
theorem test_slih_keeps_low : pendS (.slih false 4 0x1234) 4 = some 0x1234_FFFF := by decide
theorem test_ssetEq : pendS (.ssetEq false 6 1 1) 6 = some 1 := by decide
theorem test_ssetNe : pendS (.ssetNe false 6 1 1) 6 = some 0 := by decide
theorem test_ssetLt_signed : pendS (.ssetLt false 6 3 1) 6 = some 1 := by decide
theorem test_ssetLe : pendS (.ssetLe false 6 1 1) 6 = some 1 := by decide
theorem test_ssetLtn_unsigned : pendS (.ssetLtn false 6 3 1) 6 = some 0 := by decide
theorem test_ssetLen : pendS (.ssetLen false 6 4 3) 6 = some 0 := by decide
theorem test_sfadd : pendS (.sfadd false 6 5 5) 6 = some 0x4040_0000 := by decide
theorem test_sfsub_zero_sign : pendS (.sfsub false 6 5 5) 6 = some 0 := by decide
theorem test_sfmul : pendS (.sfmul false 6 5 5) 6 = some 0x4010_0000 := by decide
theorem test_sffma_adds_destination : pendS (.sffma false 5 5 5) 5 = some 0x4070_0000 := by decide
theorem test_scvtI2f : pendS (.scvtI2f false 6 4) 6 = some 0xBF80_0000 := by decide
theorem test_scvtN2f : pendS (.scvtN2f false 6 3) 6 = some 0x4F00_0000 := by decide
theorem test_scvtF2i_truncates : pendS (.scvtF2i false 6 5) 6 = some 1 := by decide
theorem test_scvtF2n : pendS (.scvtF2n false 6 5) 6 = some 1 := by decide
theorem test_scvtF2ir_even : pendS (.scvtF2ir false 6 5) 6 = some 2 := by decide
theorem test_scvtF2nr_even : pendS (.scvtF2nr false 6 5) 6 = some 2 := by decide
theorem test_scvtF2b : pendS (.scvtF2b false 6 5) 6 = some 0x3FC0 := by decide
theorem test_scvtB2f_subnormal : pendS (.scvtB2f false 6 1) 6 = some 0x0007_0000 := by decide
theorem test_scvtF2h : pendS (.scvtF2h false 6 5) 6 = some 0x3E00 := by decide
theorem test_scvtH2f_subnormal : pendS (.scvtH2f false 6 1) 6 = some 0x34E0_0000 := by decide
theorem test_aadd_signed_offset : pendA (.aadd false 6 1 4) 6 = some 0x1FFFF := by decide
theorem test_asub : pendA (.asub false 6 1 2) 6 = some 0xFFFF_FFFF_FFFF_FFF0 := by decide
theorem test_amov : pendA (.amov false 6 1) 6 = some 0x20000 := by decide
theorem test_afrom_order : pendA (.afrom false 6 1 2) 6 = some 0x0000_0003_0000_0007 := by decide
theorem test_ato_high : pendS (.ato false 6 3 true) 6 = some 0xF000_0000 := by decide
theorem test_alea1 : pendA (.alea1 false 6 1 1) 6 = some 0x20007 := by decide
theorem test_alea2 : pendA (.alea2 false 6 1 1) 6 = some 0x2000E := by decide
theorem test_alea4 : pendA (.alea4 false 6 1 4) 6 = some 0x1FFFC := by decide
theorem test_alea8 : pendA (.alea8 false 6 1 1) 6 = some 0x20038 := by decide
theorem test_alea16 : pendA (.alea16 false 6 1 1) 6 = some 0x20070 := by decide
theorem test_aaddImm_negative : pendA (.aaddImm false 6 1 0x7FF) 6 = some 0x1FFFF := by decide
theorem test_ali_extends : pendA (.ali false 6 0x8000) 6 = some 0xFFFF_FFFF_FFFF_8000 := by decide
theorem test_aspc_private : pendS (.aspc false 6 3) 6 = some 1 := by decide
theorem test_aspc_bare_is_global : pendS (.aspc false 6 1) 6 = some 0 := by decide
theorem test_acastG : pendA (.acastG false 6 1) 6 = some 0x20000 := by decide
theorem test_acastP_of_global : codeOf (.acastP false 6 1) = some 0x1104 := by decide
theorem test_acastS_of_private : codeOf (.acastS false 6 3) = some 0x1104 := by decide
theorem test_acastC_of_private : codeOf (.acastC false 6 3) = some 0x1104 := by decide
theorem test_agenP_outside : codeOf (.agenP false 6 1) = some 0x104 := by decide
theorem test_agenS_without_allocation : codeOf (.agenS false 6 1) = some 0x104 := by decide
theorem test_agenC_without_allocation : codeOf (.agenC false 6 0) = some 0x104 := by decide
theorem test_mand : pendS (.mand false 16 8 12) 16 = some 1 := by decide
theorem test_mor : pendS (.mor false 16 8 12) 16 = some 7 := by decide
theorem test_mxor : pendS (.mxor false 16 8 12) 16 = some 6 := by decide
theorem test_mandn : pendS (.mandn false 16 8 12) 16 = some 4 := by decide
theorem test_mnot_high_group : pendS (.mnot false 16 8) 18 = some 0xFFFF_FFFF := by decide
theorem test_mcnt : pendS (.mcnt false 6 8) 6 = some 2 := by decide
theorem test_mfirst : pendS (.mfirst false 6 8) 6 = some 0 := by decide
theorem test_mfirst_none : pendS (.mfirst false 6 20) 6 = some 96 := by decide
theorem test_mset : pendS (.mset false 16 1) 16 = some 127 := by decide
theorem test_mget : pendS (.mget false 6 8 2) 6 = some 0 := by decide

/-! ## Lanes (R135 to R146) -/

theorem test_vadd : pendV (.vadd false (la (.v 6) (.v 1) (.v 2) .i32)) 6 = some [6, 7, 12, 13] := by decide
theorem test_vadd_saturates : pendV (.vadd false { la (.v 6) (.s 4) (.v 1) .n32 with sat := true }) 6
    = some [0xFFFF_FFFF, 0xFFFF_FFFF, 0xFFFF_FFFF, 0xFFFF_FFFF] := by decide
theorem test_vsub_wraps : pendV (.vsub false (la (.v 6) (.v 1) (.v 2) .n32)) 6
    = some [0xFFFF_FFFC, 0xFFFF_FFFD, 0xFFFF_FFFA, 0xFFFF_FFFB] := by decide
theorem test_vmul : pendV (.vmul false (la (.v 6) (.s 5) (.s 5) .f32)) 6 = some (List.replicate 4 0x4010_0000) := by decide
theorem test_vfma_one_rounding : pendV (.vfma false { la (.v 6) (.s 5) (.s 5) .f32 with sc := .s 5 }) 6
    = some (List.replicate 4 0x4070_0000) := by decide
theorem test_vmin_signed : pendV (.vmin false (la (.v 6) (.v 1) (.s 4) .i32)) 6 = some (List.replicate 4 0xFFFF_FFFF) := by decide
theorem test_vmax : pendV (.vmax false (la (.v 6) (.v 1) (.s 2) .i32)) 6 = some [3, 3, 3, 4] := by decide
theorem test_vabs_least : pendV (.vabs false (la (.v 6) (.s 3) (.v 0) .i32)) 6 = some (List.replicate 4 0x8000_0000) := by decide
theorem test_vneg_float_flips_sign : pendV (.vneg false (la (.v 6) (.s 5) (.v 0) .f32)) 6
    = some (List.replicate 4 0xBFC0_0000) := by decide
theorem test_vrcp_of_minus_zero : pendV (.vrcp false (la (.v 6) (.s 3) (.v 0) .f32)) 6
    = some (List.replicate 4 0xFF80_0000) := by decide +kernel
theorem test_vsqrt : pendV (.vsqrt false { la (.v 6) .imm (.v 0) .f32 with imm := 0x4080_0000 }) 6
    = some (List.replicate 4 0x4000_0000) := by decide +kernel
theorem test_vrsq : pendV (.vrsq false { la (.v 6) .imm (.v 0) .f32 with imm := 0x4080_0000 }) 6
    = some (List.replicate 4 0x3F00_0000) := by decide +kernel
theorem test_vexp2 : pendV (.vexp2 false { la (.v 6) .imm (.v 0) .f32 with imm := 0x4040_0000 }) 6
    = some (List.replicate 4 0x4100_0000) := by decide +kernel
/-- R140: VLOG2 of 8 is 3. -/
theorem test_vlog2 : pendV (.vlog2 false { la (.v 6) .imm (.v 0) .f32 with imm := 0x4100_0000 }) 6
    = some (List.replicate 4 0x4040_0000) := by decide +kernel
/-- R140: VSIN of a quarter turn is 1. -/
theorem test_vsin : pendV (.vsin false { la (.v 6) .imm (.v 0) .f32 with imm := 0x3E80_0000 }) 6
    = some (List.replicate 4 0x3F80_0000) := by decide +kernel
theorem test_vcos : pendV (.vcos false { la (.v 6) .imm (.v 0) .f32 with imm := 0 }) 6
    = some (List.replicate 4 0x3F80_0000) := by decide +kernel
theorem test_vimul : pendV (.vimul false (la (.v 6) (.v 1) (.v 2) .i32)) 6 = some [5, 10, 27, 36] := by decide
theorem test_vimulh : pendV (.vimulh false (la (.v 6) (.s 4) (.s 3) .n32)) 6 = some (List.replicate 4 0x7FFF_FFFF) := by decide
theorem test_vand : pendV (.vand false (la (.v 6) (.v 1) (.s 2) .i32)) 6 = some [1, 2, 3, 0] := by decide
theorem test_vor : pendV (.vor false (la (.v 6) (.v 1) (.s 2) .i32)) 6 = some [3, 3, 3, 7] := by decide
theorem test_vxor : pendV (.vxor false (la (.v 6) (.v 1) (.v 1) .i32)) 6 = some [0, 0, 0, 0] := by decide
theorem test_vshl_by_lane : pendV (.vshl false (la (.v 6) (.s 1) (.v 1) .i32)) 6 = some [14, 28, 56, 112] := by decide
theorem test_vshr_large_count : pendV (.vshr false (la (.v 6) (.s 3) (.s 4) .n32)) 6 = some [0, 0, 0, 0] := by decide
theorem test_vsra : pendV (.vsra false (la (.v 6) (.s 3) (.s 4) .i32)) 6 = some (List.replicate 4 0xFFFF_FFFF) := by decide
theorem test_vcmpLt_is_a_mask : pendS (.vcmpLt false { la (.v 0) (.v 1) (.s 2) .i32 with mb := 16 }) 16 = some 3 := by decide
theorem test_vcmpGt_high_groups : pendS (.vcmpGt false { la (.v 0) (.v 1) (.s 2) .i32 with mb := 16 }) 17 = some 0 := by decide
theorem test_vcmpUn : pendS (.vcmpUn false { la (.v 0) (.v 1) .imm .f32 with mb := 16, imm := 0x7FC0_0000 }) 16
    = some 15 := by decide
theorem test_vsel : pendV (.vsel false { la (.v 6) (.v 1) (.v 2) .i32 with mb := 8 }) 6 = some [1, 5, 3, 9] := by decide
theorem test_vmov : pendV (.vmov false (la (.v 6) (.v 1) (.v 0) .i32)) 6 = some [1, 2, 3, 4] := by decide
theorem test_vbcast : pendV (.vbcast false (la (.v 6) (.v 1) (.s 2) .i32)) 6 = some [4, 4, 4, 4] := by decide
theorem test_vbcast_inactive_keeps : pendV (.vbcast false (la (.v 6) (.v 1) (.s 1) .i32)) 6 = some [1, 2, 3, 4] := by decide
theorem test_viota : pendV (.viota false (la (.v 6) (.v 0) (.v 0) .i32)) 6 = some [0, 1, 2, 3] := by decide
theorem test_vcvtI2f : pendV (.vcvtI2f false (la (.v 6) (.s 4) (.v 0) .f32)) 6 = some (List.replicate 4 0xBF80_0000) := by decide
theorem test_vcvtF2n_negative : pendV (.vcvtF2n false { la (.v 6) .imm (.v 0) .f32 with imm := 0xBFC0_0000 }) 6
    = some [0, 0, 0, 0] := by decide
theorem test_vshfl : pendV (.vshfl false { la (.v 6) (.v 1) (.v 2) .i32 with mb := 16 }) 6 = some [1, 2, 3, 4] := by decide
theorem test_vshfl_validity : pendS (.vshfl false { la (.v 6) (.v 1) (.v 1) .i32 with mb := 16 }) 16 = some 7 := by decide
theorem test_vrot : pendV (.vrot false { la (.v 6) (.v 1) .imm .i32 with mb := 16, imm := 1 }) 6 = some [2, 3, 4, 1] := by decide
theorem test_vredAdd : pendS (.vredAdd false (la (.s 6) (.v 1) (.v 0) .i32)) 6 = some 10 := by decide
theorem test_vredMin : pendS (.vredMin false (la (.s 6) (.v 2) (.v 0) .i32)) 6 = some 5 := by decide
theorem test_vredOr : pendS (.vredOr false (la (.s 6) (.v 2) (.v 0) .i32)) 6 = some 13 := by decide
theorem test_vscanAdd : pendV (.vscanAdd false (la (.v 6) (.v 1) (.v 0) .i32)) 6 = some [1, 3, 6, 10] := by decide
theorem test_vscanMax : pendV (.vscanMax false (la (.v 6) (.v 2) (.v 0) .i32)) 6 = some [5, 5, 9, 9] := by decide
theorem test_vcoal : (after (.vcoal false (la (.v 6) (.v 2) (.v 0) .f32))).bind (fun w => w.s0.leg.map fun l =>
    l.vw.map (·.2.length)) = some [2] := by decide
theorem test_vruns : pendS (.vruns false (la (.s 6) (.v 2) (.v 0) .f32)) 6 = some 2 := by decide

/-! ## Formats and rounding (R84 to R91, R98) -/

/-- R98: 10.5 to E4M3: ties, toward zero, up. -/
theorem test_e4m3_tie : e4m3.convert .rne false (fp32.decode 0x4128_0000) = (0x52, .none)
    ∧ e4m3.convert .rz false (fp32.decode 0x4128_0000) = (0x52, .none)
    ∧ e4m3.convert .rup false (fp32.decode 0x4128_0000) = (0x53, .none) := by decide
theorem test_e4m3_overflow : e4m3.convert .rne false (ofInt 500 0) = (0x7F, .sat)
    ∧ e4m3.convert .rne true (ofInt 500 0) = (0x7E, .sat) ∧ e4m3.convert .rne false (ofInt 460 0) = (0x7E, .none) := by decide
/-- R131: i2f of 16,777,219, f2ir of 2.5; R90: f2n of -0.3 and of -1.5. -/
theorem test_conversions : cvtOf .i2f false 16777219 = (0x4B80_0001, .none) ∧ cvtOf .f2ir false 0x4020_0000 = (2, .none)
    ∧ cvtOf .f2n false 0xBE99_999A = (0, .none) ∧ cvtOf .f2n false 0xBFC0_0000 = (0, .sat) := by decide
theorem test_zero_sums : fp32.addBits .rne false 0x3F80_0000 0xBF80_0000 = 0
    ∧ fp32.addBits .rdn false 0x3F80_0000 0xBF80_0000 = 0x8000_0000
    ∧ fp32.addBits .rne false 0x7F80_0000 0xFF80_0000 = 0x7FC0_0000
    ∧ fp32.mulBits .rne false 0 0x7F80_0000 = 0x7FC0_0000 := by decide

/-! ## Memory (R235 to R252) -/

theorem test_sld_little_endian : pendS (.sld false { lm (.s 6) 2 .i32 with am := .off 0 }) 6 = some 42 := by decide
theorem test_sld_misaligned : codeOf (.sld false { lm (.s 6) 2 .i32 with am := .off 2 }) = some 0x0201 := by decide
theorem test_sld_unmapped : codeOf (.sld false (lm (.s 6) 0 .i32)) = some 0x1001 := by decide
theorem test_vld_consecutive : pendV (.vld false (lm (.v 6) 1 .i32)) 6 = some [0, 100, 4, 4] := by decide
theorem test_sst_at_commit : byteAfter (.sst true (lm (.s 1) 1 .i32)) 0x20000 = some 7 := by decide
theorem test_sst_open_leg_holds : byteAfter (.sst false (lm (.s 1) 1 .i32)) 0x20000 = some 0 := by decide
theorem test_sst_to_code_page : codeOf (.sst false (lm (.s 1) 4 .i32)) = some 0x1002 := by decide
theorem test_vst_lanes : byteAfter (.vst true (lm (.v 1) 2 .i32)) 0x2001C = some 4 := by decide
/-- The E4M3 byte 0x52 is 1.25 · 2^3 = 10 (R242's example without its scale). -/
theorem test_vldw_f32 : ((((afterOf { demo with mem := [⟨0x20000, 0x52⟩], leaves := [{ demoLeaf 0x20000 false false with fmt := 4 }] }
    (.vldW false (lm (.v 6) 1 .f32))).bind (·.wave? 0)).bind (·.s0.leg)).bind fun l => l.vw.head?.map fun x => lane x.2.expand 0)
      = some 0x41200000 := by decide +kernel
theorem test_vldp_without_window : codeOf (.vldp false { lm (.v 6) 0 .i32 with spc := .x }) = some 0x8001 := by decide
theorem test_sldp_without_window : codeOf (.sldp false (lm (.s 6) 0 .i32)) = some 0x8001 := by decide

/-- An atomic on the word 42 at 0x20010, scope `.dev`. -/
def atom (d v : Sel) (a : AReg) : LM := { lm d a .i32 with sv := v, scp := .dev }

theorem test_satomAdd_memory : byteAfter (.satomAdd true (atom (.s 6) (.s 1) 2)) 0x20010 = some 49 := by decide
theorem test_satomAdd_old : regS (.satomAdd true (atom (.s 6) (.s 1) 2)) 6 = some 42 := by decide
theorem test_satomAnd : byteAfter (.satomAnd true (atom (.s 6) (.s 1) 2)) 0x20010 = some 2 := by decide
theorem test_satomOr : byteAfter (.satomOr true (atom (.s 6) (.s 1) 2)) 0x20010 = some 47 := by decide
theorem test_satomXor : byteAfter (.satomXor true (atom (.s 6) (.s 1) 2)) 0x20010 = some 45 := by decide
theorem test_satomMin_signed : byteAfter (.satomMin true (atom (.s 6) (.s 4) 2)) 0x20010 = some 0xFF := by decide
theorem test_satomMax_signed : byteAfter (.satomMax true (atom (.s 6) (.s 4) 2)) 0x20010 = some 42 := by decide
theorem test_satomSwap : byteAfter (.satomSwap true (atom (.s 6) (.s 1) 2)) 0x20010 = some 7 := by decide
theorem test_satomCas_unequal : byteAfter (.satomCas true { atom (.s 6) (.s 1) 2 with cv := 2 }) 0x20010 = some 42 := by decide
/-- R245: the four lanes add 1, 2, 3, 4 to one word in increasing order. -/
theorem test_vatomAdd_one_word : byteAfter (.vatomAdd true { atom (.v 6) (.v 1) 2 with am := .v 0 }) 0x20010 = some 52
    := by decide
theorem test_vatomAdd_old_values : (after (.vatomAdd true { atom (.v 6) (.v 1) 2 with am := .v 0 })).map (fun w =>
    (w.regs.getV (demoCtx.key 6)).expand.map BitVec.toNat) = some [42, 43, 45, 48] := by decide

/-- R249: the first claim of the example's record takes 13 from 0. -/
def claimInstr : Instr := .claim true { lm (.s 6) 1 .f32 with sv := .s 0, scp := .dev }
theorem test_claim_start : regS claimInstr 6 = some 0 := by decide
theorem test_claim_count : regS claimInstr 7 = some 13 := by decide
theorem test_claim_next : byteAfter claimInstr 0x20000 = some 13 := by decide

theorem test_cinv_of_private : codeOf (.cinv false 3 0) = some 0x1104 := by decide
theorem test_cwb_of_global : codeOf (.cwb false 1 0) = some 0 := by decide
theorem test_fence_joins_leg : (after (.fence false 2 1 .dev)).bind (fun w => w.s0.leg.map (·.fences)) = some [(2, 1)] := by decide
theorem test_tlbinv_drops : ((afterOf { demo with tlb := [⟨0, 0, demoLeaf 0x20000 false true⟩] } (.tlbinv true 1 1)).map
    fun t => t.tlb) = some [] := by decide

/-! ## Control (R314 to R348) -/

theorem test_br : placeOf (.br true 4) = some 0x10010 := by decide
theorem test_br_backward : placeOf (.br true 0x1FFFF) = some 0xFFFC := by decide
theorem test_br_without_marker : codeOf (.br false 4) = some 0x104 := by decide
theorem test_brz_taken : placeOf (.brz true 0 4) = some 0x10010 := by decide
theorem test_brz_not_taken : placeOf (.brz true 1 4) = some 0x10004 := by decide
theorem test_jmp : placeOf (.jmp true 1) = some 0x20000 := by decide
theorem test_call_depth : (after (.call true 4)).bind (fun w => w.s0.path.map fun p => (p.pc, p.dep))
    = some (0x10010, 1) := by decide
theorem test_ret_at_depth_zero : codeOf (.ret true) = some 0x104 := by decide
/-- R314: on a tie the taken side is the minority, so the fall-through side keeps the slot. -/
theorem test_brv_tie : (after (.brv true 8 4)).map (fun w => (w.s0.path.map (·.p.toNat), w.s1.path.map (·.p.toNat)))
    = some (some 10, some 5) := by decide
/-- v0 and v1 name four targets; the slots hold the two first groups, the stack the others. -/
theorem test_jmpv_spreads : (after (.jmpv true 0)).map (fun w => w.stack.length) = some 2 := by decide
theorem test_callv_depth : (after (.callv true 2)).bind (fun w => w.s0.path.map (·.dep)) = some 1 := by decide
theorem test_join_alone : placeOf (.join true 8) = some 0x10004 := by decide
theorem test_land_first : codeOf (.land false) = some 0 := by decide
theorem test_yield : placeOf (.yield true) = some 0x10004 := by decide
theorem test_waitv_unequal : regS (.waitv true 6 2 0) 6 = some 42 := by decide
theorem test_exit_retires : after (.exit true) = none := by decide
theorem test_nop : codeOf (.nop true) = some 0 := by decide
theorem test_launch_of_private : codeOf (.launch true 6 3) = some 0x1104 := by decide
theorem test_launch_zero_record : regS (.launch true 6 1) 6 ≠ some 0 := by decide
theorem test_launchq_misaligned : codeOf (.launchq true 6 2) = some 0x0201 := by decide
theorem test_wsync : placeOf (.wsync true) = some 0x10004 := by decide
theorem test_wflush : (after (.wflush true)).isSome = true := by decide
theorem test_binit : ((afterOf demo (.binit true 8 2)).map fun t => (t.core 0).bar 5) = some ⟨some 1, false, 3, 3, 0⟩ := by decide
theorem test_barv_without_hold : codeOf (.barv true 6 8 0) = some 0x104 := by decide

/-- The barrier 5 of the wave's launch, one arrival due. -/
def barred (arr : BitVec 16) (byt : Word) : State :=
  { demo with cores := [{ Core.reset 0 with bars := [(5, ⟨some 1, false, 1, arr, byt⟩)] }] }
theorem test_barv_completes : ((afterOf (barred 1 0) (.barv true 6 8 0)).map fun t => (t.core 0).bar 5)
    = some ⟨some 1, true, 1, 1, 0⟩ := by decide
theorem test_bexp_adds_bytes : ((afterOf (barred 1 0) (.bexp true 6 8 1)).map fun t => (t.core 0).bar 5)
    = some ⟨some 1, false, 1, 0, 7⟩ := by decide
theorem test_btest : ((afterOf (barred 1 0) (.btest true 6 8 0)).bind (·.wave? 0)).map (·.regs.s[6]) = some 0 := by decide
theorem test_bwait_passes : ((afterOf (barred 1 0) (.bwait true 8 1)).bind (·.wave? 0)).bind (fun w => w.s0.path.map (·.pc))
    = some 0x10004 := by decide
theorem test_gbar_needs_co_residence : codeOf (.gbar true) = some 0x7001 := by decide
/-- R67: a store leaves the word as it was among those that a fetch may return; a CINV of a later leg takes it away. -/
theorem test_store_keeps_old_word : ((afterOf demo (.sst true (lm (.s 1) 2 .n32))).map (·.olds)) = some [⟨0x8004, 42, []⟩] := by decide
theorem test_cinv_drops_old_word : ((afterOf { demo with olds := [⟨0x8004, 42, []⟩] } (.cinv true 2 1)).map fun t =>
    (t.oldWords 0 1 0x20010 0x8004, t.oldWords 8 1 0x20010 0x8004)) = some ([], [42]) := by decide

/-! ## Engines, the Quarry, Lookout, system instructions -/

theorem test_pbatch_first_number : regS (.pbatch true 6) 6 = some 1 := by decide
theorem test_pwait_nothing_open : placeOf (.pwait true 1) = some 0x10004 := by decide
theorem test_pcopy_misaligned : codeOf (.pcopy true 2 .none .none) = some 0x0201 := by decide

/-- A Sieve instruction from v2 into v6. -/
def lx (param : Word) : LX := ⟨.v 6, .v 2, .v 1, .v 0, .rne, false, param⟩

/-- XCVT from FP32 (1) to FP32: the source's bits. -/
theorem test_sieve_occupies_pipe : ((afterOf demo (.xhad false { lx 1 with sb := .v 0 })).map
    fun t => (t.core 0).sieveBusy) = some true := by decide
theorem test_sieve_waits : ((afterOf { demo with cores := [{ Core.reset 0 with sieveBusy := true }] }
    (.xhad false { lx 1 with sb := .v 0 })).map fun t => (t.core 0).sieveQ) = some [⟨0, .s0, 0⟩] := by decide

def lt (td : BitVec 8) : LT := ⟨td, 0, 0, .v 0, 0, none, .none, .none, 0⟩
theorem test_tzero_foreign_tile : codeOf (.tzero true (lt 0)) = some 0x104 := by decide
theorem test_twaitAll_nothing_open : placeOf (.twaitAll true { lt 0 with off := 1 }) = some 0x1000C := by decide

theorem test_qgrp_unknown_world : codeOf (.qgrp true 1) = some 0x104 := by decide
theorem test_qcommit_without_bracket : codeOf (.qcommit true) = some 0x104 := by decide
theorem test_qdrop_unknown_view : codeOf (.qdrop true 1) = some 0x104 := by decide

/-- An empty world 3 of the demo partition. -/
def demoWorld : World := ⟨3, 0, 1, 0x4000_0000, 0x4000_0000, List.replicate 256 4, 0, 0, 0, [], [], [⟨0, [], [], 0⟩], [],
  0, 0, 0, 0, 0, [], []⟩
theorem test_qgrp_opens_bracket : (((afterOf { demo with worlds := [demoWorld] } (.qgrp true 2)).bind (·.wave? 0)).bind
    fun w => w.s0.path.map (·.brk)) = some (some ⟨3, 1⟩) := by decide
theorem test_worldDestroy_gone : ((match runWorldDestroy { demo with worlds := [demoWorld] } (leBytes 3 8) with
    | .done t _ => some t.worlds
    | _ => none)) = some [] := by decide

theorem test_lkstat_unconfigured : regS (.lkstat true 6 0 0) 6 = some 0 := by decide
theorem test_lksub_misaligned : codeOf (.lksub true 6 1 0) ≠ some 0 ∨ regS (.lksub true 6 1 0) 6 ≠ some 0 := by decide

theorem test_trap_is_due_after : (after (.trap true 6 1 2)).map (fun w => (w.s0.frame.defer, w.s0.frame.swcode)) = some (256, 3)
    := by decide
theorem test_svret_without_frame : codeOf (.svret true) = some 0x104 := by decide
theorem test_rplay_nobody : regS (.rplay true 6 1 0) 6 = some 0 := by decide
theorem test_mapft_present : regS (.mapft true 6 1) 6 = some 1 := by decide
theorem test_mapft_unmapped : regS (.mapft true 6 0) 6 = some 3 := by decide
theorem test_mapcw_writable : regS (.mapcw true 6 1) 6 = some 1 := by decide
theorem test_csrr_wavewidth : pendS (.csrr false 0x060 6) 6 = some 1 := by decide
theorem test_csrw_faddr : (after (.csrw true 0x021 1)).map (·.regs.faddr) = some 0x20000 := by decide
theorem test_csrw_fcode_low : (after (.csrw true 0x020 3)).map (·.regs.fcode) = some 0 := by decide

/-! ## Taking a fault (R391 to R396) -/

/-- SADD's 25th place: 0x0104 saves the leg's start and E, and enters the supervisor page one depth down. -/
def full : State := { demo with waves := [{ demoWave with s0 := { demoWave.s0 with leg := some { demoLeg with count := 24 } } }] }
theorem test_fault_entry : (((afterOf full (.nop false)).bind (·.wave? 0)).bind fun w => w.s0.path.map fun p =>
    (p.pc, p.e, p.dep)) = some (0x000F_FFFF_FFFF_0000, 15, 1) := by decide
theorem test_fault_frame : (((afterOf full (.nop false)).bind (·.wave? 0)).map fun w =>
    (w.s0.frame.rpc, w.s0.frame.se, w.regs.fcode)) = some (0x10000, 15, 0x104) := by decide

/-! ## Events -/

theorem test_semaphore_first_reader : (afterOf demo (.semaphoreAcquire .p1)).map (·.owner) = some 2 := by decide
theorem test_semaphore_second_reader : (afterOf { demo with owner := 1 } (.semaphoreAcquire .p1)).map (·.owner) = some 1 := by decide
theorem test_postedWriteError : (afterOf { demo with port0 := { Port.reset with posted := [⟨8, [1], [], none⟩] } }
    (.postedWriteError .p0 8)).map (fun t => (t.port0.pwaddr, t.port0.pwerr, t.port0.posted)) = some (8, 1, []) := by decide
theorem test_cxlLinkLoss : (afterOf demo (.cxlLinkLoss 2)).map (·.cxlUp) = some 0xB := by decide
theorem test_jexkinLinkLoss : (afterOf demo (.jexkinLinkLoss 0)).map (·.jexUp) = some 0xFFE := by decide
theorem test_domain_read_refused : (afterOf demo (.domainInboundAccess 1 (.read 0x20010 4))).map (·.domAnswer)
    = some (.refused 0x1002) := by decide
theorem test_domain_read : (afterOf { demo with exports := [⟨0x20000, 64⟩] } (.domainInboundAccess 1 (.read 0x20010 1))).map
    (·.domAnswer) = some (.data [42]) := by decide
theorem test_aperture_off : (afterOf demo (.apertureAccess .p0 (.read 0 4))).map (·.port0.answer) = some .unsupported := by decide
theorem test_startTimeout_counts : (afterOf { State.reset with booting := true } .startTimeout).map
    (fun t => (t.fails, t.bootReason, t.fwSlot)) = some (1, 4, true) := by decide
theorem test_third_failure_is_nuver : (afterOf { State.reset with fails := 2 } .powerRailFault).map (·.mode) = some 2 := by decide
theorem test_hot_reset_ends_ownership : (afterOf { demo with owner := 1, waves := [] } (.portHotReset .p0)).map (·.owner) = some 0 := by decide
/-- R422: the one partition's share is all of 2,400 W but the 480 W. -/
theorem test_powerThrottle : (afterOf demo (.powerThrottle 0 1920001)).map (fun t => (t.island 0, t.island 8, t.throt[0]))
    = some (23, 24, 1) := by decide +kernel
theorem test_thermalThrottle_cool : (afterOf demo (.thermalThrottle 1599)).map (fun t => t.tmax) = some 0 := by decide
theorem test_registerWrite_cto : (afterOf demo (.registerWrite .p0 0x300 1000)).map (·.port0.cto) = some 1000 := by decide
theorem test_unknownOp : (afterOf { demo with port0 := { Port.reset with mbgo := true, mbrec := leBytes 0x99 2 } } (.unknownOp .p0)).map
    (fun t => (t.port0.mbresult, t.port0.mbstate, t.port0.mbgo)) = some (0x0C01, 2, false) := by decide
theorem test_workRequest : (afterOf { demo with port0 := { Port.reset with mbgo := true, mbrec := leBytes 0x80 2 } } (.workRequest .p0)).map
    (fun t => t.port0.mbresult) = some 0x000B := by decide
theorem test_mailbox_nuver : (afterOf { demo with mode := 2, port0 := { Port.reset with mbgo := true, mbrec := leBytes 0x10 2 } }
    (.map .p0)).map (fun t => t.port0.mbresult) = some 0x0C09 := by decide
theorem test_sieveServe : (afterOf { demo with cores := [{ Core.reset 0 with sieveBusy := true, sieveQ := [⟨0, .s0, 2⟩, ⟨0, .s1, 0⟩] }] }
    (.sieveServe 0)).map (fun t => (t.core 0).sieveGrant) = some (some ⟨0, .s1, 0⟩) := by decide
theorem test_tlbWalk_fills : (afterOf { demo with walks := [⟨0, 0, 1, 0x20000, 0⟩] } (.tlbWalk 0)).map (fun t => (t.walks, t.tlb))
    = some ([], [⟨0, 0, demoLeaf 0x20000 false true⟩]) := by decide

/-- A head of 16 by 16 pixels without a frame set, in refresh 1. -/
def demoHead : Head := Head.start 0
  ⟨0, 1, 1, 16, 16, 24, 8, 0, 64, 0, 0x20000, 0x20000, 1, 0, 0, 0⟩
def headed (h : Head) : State := { demo with heads := [h] }
theorem test_latch_without_set : ((afterOf (headed demoHead) (.refreshLatch 0)).bind (·.head? 0)).map (·.latches)
    = some [⟨1, none, 256, none, 0, false⟩] := by decide
theorem test_band_of_empty_refresh : ((afterOf (headed { demoHead with latches := [⟨1, none, 256, none, 0, false⟩] }) (.bandStart 0)).bind
    (·.head? 0)).map (·.bands) = some [⟨1, 0, 2, false, 0, 0⟩] := by decide
theorem test_bandProjection_late : ((afterOf (headed { demoHead with bands := [⟨1, 0, 0, false, 0, 0⟩] }) (.bandProjection 0 true)).bind
    (·.head? 0)).map (·.bands) = some [⟨1, 0, 1, false, 0, 0⟩] := by decide
theorem test_tier1Cutoff : ((afterOf (headed { demoHead with line := 8, bands := [⟨1, 0, 1, false, 0, 0⟩] }) (.tier1Cutoff 0)).bind
    (·.head? 0)).map (·.bands) = some [⟨1, 0, 2, false, 0, 0⟩] := by decide
theorem test_lineScanout : ((afterOf (headed demoHead) (.lineScanout 0)).bind (·.head? 0)).map (·.line) = some 1 := by decide

/-! ## Decoding (R65 to R81) -/

theorem test_decode_nop : decodeWords 0x4800_0120 0 0 = some (.nop false) ∧ decodeWords 0x4800_0124 0 0 = some (.nop true) := by decide
theorem test_decode_scalars : decodeWords 0x1061_0808 0 0 = some (.smul false 4 2 3) ∧ decodeWords 0x0000_02A4 0 0 = some (.sli true 1 0)
    ∧ decodeWords 0x4120_82A4 0 0 = some (.slih true 1 0x4120) := by decide
theorem test_decode_mask : decodeWords 0x015E_86F0 0 0 = some (.mand false 3 61 10) := by decide
/-- VROT.n32 v2, v1, 1, s6.m ! -/
theorem test_decode_vrot : decodeWords 0x0408_603F 0x00C0_0180 1 = some (.vrot true
    ⟨.v 2, 6, .v 1, .imm, .v 0, .n32, .rne, false, 1⟩) := by decide
/-- VRED.add.f32 s20, v5 ! -/
theorem test_decode_vred : decodeWords 0x0250_0047 0x500 0 = some (.vredAdd true
    ⟨.s 20, 0, .v 5, .v 0, .v 0, .f32, .rne, false, 0⟩) := by decide
theorem test_decode_vmul : decodeWords 0x0900_000B 0x00C0_1100 0x3F00_0000
    = some (.vmul false ⟨.t 0, 0, .v 17, .imm, .v 0, .f32, .rne, false, 0x3F00_0000⟩) := by decide
theorem test_decode_vcmp : decodeWords 0x1000_A027 0x00C0_1000 0x4120_0000
    = some (.vcmpGt true ⟨.v 0, 10, .v 16, .imm, .v 0, .f32, .rne, false, 0x4120_0000⟩) := by decide
theorem test_decode_vfma : decodeWords 0x0C40_000B 0x10C0_1100 0x3F00_0000
    = some (.vfma false ⟨.v 16, 0, .v 17, .imm, .v 16, .f32, .rne, false, 0x3F00_0000⟩) := by decide
theorem test_decode_fence : decodeWords 0x8000_8584 0 0 = some (.fence true 2 1 .dev)
    ∧ decodeWords 0x8002_9580 0 0 = some (.fence false 10 5 .dev) := by decide
theorem test_decode_tlbinv : decodeWords 0x2840_81C4 0 0 = some (.tlbinv true 1 2) := by decide
theorem test_decode_spaces : decodeWords 0x0000_86E4 0 0 = some (.aspc true 3 1) ∧ decodeWords 0x1800_88E4 0 0 = some (.acastS true 4 1)
    ∧ decodeWords 0x3002_0AE4 0 0 = some (.agenS true 5 4) := by decide
theorem test_decode_csr : decodeWords 0x0200_07D4 0 0 = some (.csrr true 0x020 3) ∧ decodeWords 0x0200_81D4 0 0 = some (.csrw true 0x020 0) := by
  decide
theorem test_decode_porter : decodeWords 0x574 0 0 = some (.pcopy true 2 .none .none)
    ∧ decodeWords 0x9000_0574 0 0 = some (.pcopy true 2 .rel .dev) ∧ decodeWords 0x0020_0B74 0 0 = some (.pbatch true 5)
    ∧ decodeWords 0x0040_0B74 0 0 = some (.pwait true 5) := by decide
/-- CLAIM.g.dev s8, [a3], s0 ! -/
theorem test_decode_claim : decodeWords 0x4222_009F 0x3002_4000 0 = some (.claim true
    ⟨.s 8, .s 0, 3, .off 0, .g, .none, .dev, 0, .f32⟩) := by decide
theorem test_zero_word_is_none : decodeWords 0 0 0 = none := by decide
theorem test_ones_word_is_none : decodeWords 0xFFFF_FFFF 0xFFFF_FFFF 0xFFFF_FFFF = none := by decide

/-! ## Ill-formed terms, one for each check of WellFormed -/

theorem test_illformed_maskBase : Instr.wf (.mand true 62 0 0) = false ∧ Instr.wf (.mnot true 0 63) = false
    ∧ Instr.wf (.mand true 61 0 0) = true := by decide
theorem test_illformed_brv_base : Instr.wf (.brv true 62 0) = false ∧ Instr.wf (.join true 63) = false := by decide
theorem test_illformed_lane_target : Instr.wf (.jmpv true 3) = false ∧ Instr.wf (.callv true 63) = false := by decide
theorem test_illformed_fence : Instr.wf (.fence true 0 1 .wave) = false ∧ Instr.wf (.fence true 1 0 .wave) = false
    ∧ Instr.wf (.fence true 1 1 .none) = false := by decide
theorem test_illformed_csr : Instr.wf (.csrr true 0x008 0) = false ∧ Instr.wf (.csrr true 0x021 16) = false
    ∧ Instr.wf (.csrw true 0x062 0) = false := by decide
theorem test_illformed_pcopy : Instr.wf (.pcopy true 2 .rel .none) = false ∧ Instr.wf (.pcopy true 2 .none .dev) = false := by decide

theorem test_illformed_dst_kind : Instr.wf (.vadd true (la (.s 0) (.v 0) (.v 0) .f32)) = false
    ∧ Instr.wf (.vredAdd true (la (.v 0) (.v 0) (.v 0) .f32)) = false := by decide
theorem test_illformed_dst_imm : Instr.wf (.vadd true (la .imm (.v 0) (.v 0) .f32)) = false := by decide
theorem test_illformed_unused_selector : Instr.wf (.vmov true (la (.v 0) (.v 0) (.v 1) .f32)) = false
    ∧ Instr.wf (.vcoal true (la (.v 0) (.s 1) (.v 0) .f32)) = false := by decide
theorem test_illformed_unused_mask : Instr.wf (.vsub true { la (.v 0) (.v 0) (.v 0) .f32 with mb := 1 }) = false := by decide
theorem test_illformed_used_mask : Instr.wf (.vsel true { la (.v 0) (.v 0) (.v 0) .f32 with mb := 62 }) = false := by decide
theorem test_illformed_type : Instr.wf (.vrcp true (la (.v 0) (.v 0) (.v 0) .i32)) = false
    ∧ Instr.wf (.vimul true (la (.v 0) (.v 0) (.v 0) .f32)) = false := by decide
theorem test_illformed_rounding : Instr.wf (.vadd true { la (.v 0) (.v 0) (.v 0) .i32 with rm := .rz }) = false := by decide
theorem test_illformed_sat : Instr.wf (.vand true { la (.v 0) (.v 0) (.v 0) .i32 with sat := true }) = false := by decide
theorem test_illformed_pair : Instr.wf (.vimulh true (la (.v 1) (.v 0) (.v 0) .i64)) = false
    ∧ Instr.wf (.vimulh true (la (.v 0) (.v 0) (.s 1) .n64)) = false ∧ Instr.wf (.vshl true (la (.v 0) (.v 0) (.v 1) .i64)) = true := by
  decide
theorem test_illformed_immediate : Instr.wf (.vor true { la (.v 0) (.v 0) (.v 0) .i32 with imm := 1 }) = false := by decide

theorem test_illformed_load_kind : Instr.wf (.vld true (lm (.s 0) 1 .f32)) = false ∧ Instr.wf (.sld true (lm (.v 0) 1 .f32)) = false := by
  decide
theorem test_illformed_store_imm : Instr.wf (.vst true (lm .imm 1 .f32)) = false := by decide
theorem test_illformed_value_unused : Instr.wf (.vld true { lm (.v 0) 1 .f32 with sv := .v 1 }) = false := by decide
theorem test_illformed_scalar_lane_offset : Instr.wf (.sst true { lm (.s 0) 1 .f32 with am := .v 1 }) = false := by decide
theorem test_illformed_wide_format_load : Instr.wf (.vldW true (lm (.v 0) 1 .i32)) = false := by decide
theorem test_illformed_order : Instr.wf (.vld true { lm (.v 0) 1 .f32 with ord := .rel, scp := .dev }) = false
    ∧ Instr.wf (.sst true { lm (.s 0) 1 .f32 with ord := .acq, scp := .dev }) = false := by decide
theorem test_illformed_scope : Instr.wf (.sld true { lm (.s 0) 1 .f32 with ord := .acq }) = false
    ∧ Instr.wf (.vatomAdd true (lm (.v 0) 1 .f32)) = false := by decide
theorem test_illformed_window : Instr.wf (.sldp true (lm (.s 0) 4 .f32)) = false ∧ Instr.wf (.vldp true { lm (.v 0) 3 .f32 with spc := .g }) = false := by
  decide
theorem test_illformed_cas : Instr.wf (.vatomCas true { lm (.v 0) 1 .i64 with scp := .dev, cv := 2 }) = false
    ∧ Instr.wf (.vatomCas true { lm (.v 2) 1 .i64 with scp := .dev }) = false := by decide
theorem test_illformed_cv_unused : Instr.wf (.vatomSwap true { lm (.v 0) 1 .i32 with scp := .dev, cv := 1 }) = false := by decide
theorem test_illformed_load_pair : Instr.wf (.vldp true (lm (.v 1) 1 .i64)) = false := by decide
theorem test_illformed_claim : Instr.wf (.claim true { lm (.s 1) 1 .f32 with sv := .s 0, scp := .dev }) = false
    ∧ Instr.wf (.claim true { lm (.s 2) 1 .f32 with sv := .s 0 }) = false := by decide

theorem test_illformed_xcvt : Instr.wf (.xcvt true { lx 0 with sb := .v 0 }) = false ∧ Instr.wf (.xcvt true { lx 0x424 with dst := .s 0 }) = false
    ∧ Instr.wf (.xcvt true { lx 0x8424 with sb := .v 0 }) = false := by decide
theorem test_illformed_xqnt : Instr.wf (.xqnt true { lx 3 with dst := .v 0, sb := .s 1 }) = false
    ∧ Instr.wf (.xqnt true { lx 0 with dst := .v 0, sb := .s 1, sc := .s 54 }) = false := by decide
theorem test_illformed_xdqnt : Instr.wf (.xdqnt true (lx 1)) = false ∧ Instr.wf (.xdqnt true { lx 0x420 with sc := .imm }) = false := by decide
theorem test_illformed_xhad : Instr.wf (.xhad true { lx 3 with sb := .v 0 }) = false ∧ Instr.wf (.xhad true { lx 1 with sb := .v 0, rm := .rz }) = false := by
  decide
theorem test_illformed_xdec : Instr.wf (.xdec true { lx 0x10 with sa := .s 1, sb := .s 1 }) = false
    ∧ Instr.wf (.xdec true { lx 0x8010 with sa := .s 1, sb := .v 0 }) = false := by decide
theorem test_illformed_xtbl : Instr.wf (.xtbl true { lx 1 with dst := .s 54, sa := .s 0, sb := .v 0 }) = false
    ∧ Instr.wf (.xtbl true { lx 0x201 with dst := .s 8, sa := .s 0, sb := .v 0 }) = false := by decide
/-- R160: an entry format that is none is no ill-formed word: it raises 0x0104 as it runs. -/
theorem test_xtbl_entry_format : Instr.wf (.xtbl true { lx 6 with dst := .s 8, sa := .s 0, sb := .v 0 }) = true := by decide

theorem test_illformed_tile : Instr.wf (.tld true (lt 0x90)) = false ∧ Instr.wf (.tmma true (lt 0)) = false := by decide
/-- R183: any format code is encodable; the codes that are no format raise 0x0104. -/
theorem test_tldW_format : Instr.wf (.tldW true { lt 0 with ta := 13 }) = true ∧ codeOf (.tldW true { lt 0 with ta := 13 }) = some 0x104
    ∧ codeOf (.tldW true { lt 0 with ta := 32 }) = some 0x104 := by decide
theorem test_illformed_tile_offset : Instr.wf (.tld true { lt 0 with ox := some 1, off := 4 }) = false := by decide
theorem test_illformed_tile_order : Instr.wf (.tst true { lt 0 with ord := .acq, scp := .dev }) = false
    ∧ Instr.wf (.tld true { lt 0 with scp := .dev }) = false := by decide
theorem test_illformed_stride : Instr.wf (.tld true { lt 0 with sx := .t 0 }) = false ∧ Instr.wf (.tldg true { lt 0 with sx := .s 1 }) = false := by
  decide
theorem test_illformed_tzero : Instr.wf (.tzero true { lt 0 with areg := 1 }) = false := by decide
theorem test_illformed_tmma_range : Instr.wf (.tmma true { lt 0x80 with ta := 127, off := 0x1021 }) = false
    ∧ Instr.wf (.tmma true { lt 0x80 with off := 0x100021 }) = false := by decide
theorem test_illformed_tgrp_range : Instr.wf (.tgrp true { lt 0x80 with tb := 127, off := 0x100021 }) = false
    ∧ Instr.wf (.tgrp true { lt 0x80 with tb := 126, off := 0x100021 }) = true := by decide
theorem test_illformed_twait : Instr.wf (.twait true { lt 0 with off := 1 }) = false ∧ Instr.wf (.twaitAll true (lt 0)) = false := by decide

/-- A Quarry lane instruction with v2 as its first source. -/
def lq : LQ := ⟨.v 0, 0, 0, .v 2, .v 0, .v 0, 0, 0⟩
theorem test_illformed_qres : Instr.wf (.qres true lq) = true ∧ Instr.wf (.qres true { lq with dst := .v 1 }) = false
    ∧ Instr.wf (.qres true { lq with sa := .v 3 }) = false ∧ Instr.wf (.qres true { lq with sa := .imm }) = false := by decide
theorem test_illformed_quarry_fields : Instr.wf (.qres true { lq with ew := 1 }) = false ∧ Instr.wf (.qres true { lq with ct := 1 }) = false
    ∧ Instr.wf (.qres true { lq with mb := 62 }) = false ∧ Instr.wf (.qres true { lq with sc := .v 1 }) = false
    ∧ Instr.wf (.qres true { lq with imm := 1 }) = false := by decide

/-! ## Witnesses: states and operands that meet the hypotheses of the statements -/

theorem ok_of {ε α : Type} {e : Except ε α} (h : e.toOption.isSome = true) : ∃ x, e = .ok x := by
  cases e with
  | error _ => simp [Except.toOption] at h
  | ok x => exact ⟨x, rfl⟩

theorem error_of {ε α : Type} {e : Except ε α} (h : e.toOption.isSome = false) : ∃ x, e = .error x := by
  cases e with
  | error x => exact ⟨x, rfl⟩
  | ok _ => simp [Except.toOption] at h

theorem demo_plain (m : Bool) : Issues demo demoCtx plainShape m := ⟨rfl, by decide, by cases m <;> decide⟩
theorem demo_lane (m : Bool) : Issues demo demoCtx laneShape m := ⟨rfl, by decide, by cases m <;> decide⟩
theorem demo_load (m : Bool) : Issues demo demoCtx loadShape m := ⟨rfl, by decide, by cases m <;> decide⟩
theorem demo_store (m : Bool) : Issues demo demoCtx storeShape m := ⟨rfl, by decide, by cases m <;> decide⟩
theorem demo_atom : Issues demo demoCtx atomShape true := ⟨rfl, by decide, by decide⟩
theorem demo_closes : MayClose demo demoCtx :=
  ⟨rfl, by decide, by decide, by decide, by decide, by decide, by decide, by decide, by decide, by decide, by decide, by decide,
    by decide, by decide, ⟨by decide, by decide, by decide, by decide⟩, by decide, by decide⟩

/-- The demo machine about to issue from its slot, with words at the leg's next address. -/
def issuing (b : List Host.Cell) (p : Path) (leg : Leg) : State :=
  { demo with agenda := [.issue 0 .s0], mem := b, waves := [{ demoWave with s0 := { Slot.empty with path := some p, leg := some leg } }] }

/-- NOP with its marker at 0x10000. -/
def nopCode : List Host.Cell := [⟨0x10000, 0x24⟩, ⟨0x10001, 0x01⟩, ⟨0x10003, 0x48⟩]

theorem witness_StepRunsTheDecodedInstruction : ∃ (s u : State) (id : Nat) (k : SlotId) (c : Ctx) (w0 w1 w2 : Word) (i : Instr),
    Turn s id k u ∧ u.begin = .leg c ∧ c.targetFault = none ∧ c.fetchWord 0 = .ok w0
      ∧ (isLong w0 = true → c.fetchWord 1 = .ok w1 ∧ c.fetchWord 2 = .ok w2) ∧ decodeWords w0 w1 w2 = some i :=
  ⟨issuing nopCode demoPath demoLeg, _, _, _, _, 0x4800_0124, 0, 0, .nop true, ⟨_, rfl, by decide, by decide, rfl⟩, rfl, by decide, rfl,
    fun h => absurd h (by decide), by decide⟩
/-- A slot that holds no path is not picked; and a page is busy. -/
theorem witness_StepRunsTheDecodedInstruction_else : (∃ (s s1 : State), s.nextMove = some (.issue 0 .s1, s1) ∧ s1.busy = []
      ∧ (s1.drain.settled 0).picks 0 .s1 = false)
    ∧ ∃ (s s1 : State), s.nextMove = some (.issue 0 .s0, s1) ∧ s1.busy ≠ [] :=
  ⟨⟨{ demo with agenda := [.issue 0 .s1] }, _, rfl, by decide, by decide⟩,
    { issuing nopCode demoPath demoLeg with busy := [(1, 0x20000, 0)] }, _, rfl, by decide⟩

theorem witness_FetchFaults_undefined : ∃ (s u : State) (id : Nat) (k : SlotId) (c : Ctx) (w0 : Word),
    Turn s id k u ∧ u.begin = .leg c ∧ c.targetFault = none ∧ c.fetchWord 0 = .ok w0 ∧ isLong w0 = false ∧ decodeWords w0 0 0 = none :=
  ⟨issuing [] demoPath demoLeg, _, _, _, _, 0, ⟨_, rfl, by decide, by decide, rfl⟩, rfl, by decide, rfl, by decide, by decide⟩

theorem witness_FetchFaults_unmapped : ∃ (s u : State) (id : Nat) (k : SlotId) (c : Ctx) (code : BitVec 16),
    Turn s id k u ∧ u.begin = .leg c ∧ c.targetFault = none ∧ c.s.translate c.w.asid c.pc 4 .fetch = .error code :=
  ⟨issuing [] { demoPath with pc := 0x90000 } { demoLeg with next := 0x90000 }, _, _, _, _, 0x1001, ⟨_, rfl, by decide, by decide, rfl⟩,
    rfl, by decide, rfl⟩
/-- A long instruction whose word 1 stands on the data page. -/
theorem witness_FetchFaults_second : ∃ (s u : State) (id : Nat) (k : SlotId) (c : Ctx) (w0 : Word) (code : BitVec 16),
    Turn s id k u ∧ u.begin = .leg c ∧ c.targetFault = none ∧ c.fetchWord 0 = .ok w0 ∧ isLong w0 = true
      ∧ c.s.translate c.w.asid (c.pc + 4) 4 .fetch = .error code :=
  ⟨issuing [⟨0x1FFFC, 3⟩] { demoPath with pc := 0x1FFFC } { demoLeg with start := 0x1FFFC, next := 0x1FFFC }, _, _, _, _, 3, _,
    ⟨_, rfl, by decide, by decide, rfl⟩, rfl, by decide, rfl, by decide, rfl⟩

theorem witness_FetchFaults_target : ∃ (s u : State) (id : Nat) (k : SlotId) (c : Ctx) (w : Word),
    Turn s id k u ∧ u.begin = .leg c ∧ c.leg.count = 0 ∧ c.path.jumped = some c.leg.start ∧ c.fetchWord 0 = .ok w ∧ ∀ m : Bool, decodeWords w 0 0 ≠ some (.land m) :=
  ⟨issuing nopCode { demoPath with jumped := some 0x10000 } demoLeg, _, _, _, _, 0x4800_0124, ⟨_, rfl, by decide, by decide, rfl⟩,
    rfl, by decide, by decide, rfl, by intro m; cases m <;> decide⟩

theorem witness_DecodedInstructionIsWellFormed : ∃ bs rest i, decode bs = some (i, rest) :=
  ⟨[0x24, 0x01, 0, 0x48], [], .nop true, by decide⟩
theorem witness_DecodeReadsEveryEncoding : ∃ i : Instr, i.wf = true ∧ i.isEvent = false := ⟨.nop true, by decide⟩
theorem witness_NothingStopsTheDevice : ∃ (i : Instr) (s : State) (f : Fault), exec i s = .fault f := ⟨.nop true, State.reset, _, rfl⟩
theorem witness_EveryStepKeepsMemorySound : ∃ s t, s.sound ∧ step s = .next t :=
  ⟨issuing nopCode demoPath demoLeg, _, (by decide : Memory.wf _ = true), rfl⟩

theorem witness_LegLimitsFault : ∃ (s : State) (c : Ctx), s.begin = .leg c ∧ (∀ x, c.fenced x = false) ∧ 24 ≤ c.leg.count
    ∧ 8 ≤ c.leg.memCount :=
  ⟨issuing [] demoPath { demoLeg with count := 24, memCount := 8 } |> fun s => { s with cur := some (0, .s0) }, _, rfl,
    fun _ => rfl, by decide, by decide⟩
theorem witness_OpenLegChangesOnlyItself : ∀ b : Bool, ∃ (c : Ctx) (w : Wave), c.s.wave? c.w.id = some w ∧ c.leg.short = b ∧ c.k = .s0
    ∧ c.w.hamper = none := by
  intro b; exact ⟨{ demoCtx with leg := { demoLeg with short := b } }, demoWave, by cases b <;> decide, rfl, rfl, rfl⟩
theorem witness_OpenLegChangesOnlyItself_stopped : ∃ (c : Ctx), c.s.wave? c.w.id = some c.w ∧ c.leg.short = true ∧ c.w.hamper ≠ none
    ∧ (c.w.slot c.k).frame.waiting = false :=
  let w : Wave := { demoWave with hamper := some ⟨.entries, 0x1001, 0x90000, 5, false⟩ }
  ⟨{ demoCtx with s := { demo with waves := [w] }, w := w, leg := { demoLeg with short := true } }, by decide, rfl, by decide, by decide⟩

/-- The demo leg parked at its marker. -/
def parkedAt (leg : Leg) : State := issuing demoMem demoPath { leg with parked := true, next := 0x10004, count := 1 }
def parkedWave (leg : Leg) : Wave :=
  { demoWave with s0 := { Slot.empty with path := some demoPath, leg := some { leg with parked := true, next := 0x10004, count := 1 } } }

theorem witness_LegCommitsItsRegisters : ∃ (s : State) (id : Nat) (k : SlotId) (w : Wave) (p : Path) (leg : Leg),
    s.parkedLeg id k = some (w, p, leg) ∧ leg.closing = none ∧ w.state ≠ .suspended ∧ (w.slot k).legs + 1 < 4096
      ∧ Unhindered s w leg ∧ leg.vw = [] ∧ leg.stores = [] ∧ leg.cinvs = [] :=
  ⟨parkedAt { demoLeg with sw := [(1, 9)] }, 0, .s0, _, _, _, rfl, by decide, by decide, by decide, ⟨by decide, by decide, by decide, by decide⟩,
    by decide, by decide, by decide⟩
theorem witness_LegCommitsItsRegisters_mask : ∃ (s : State) (id : Nat) (k : SlotId) (w : Wave) (p : Path) (leg : Leg) (g : Fin 3)
    (v : Word), s.parkedLeg id k = some (w, p, leg) ∧ leg.closing = none ∧ w.state ≠ .suspended ∧ (w.slot k).legs + 1 < 4096
      ∧ Unhindered s w leg ∧ leg.sw = [(BitVec.ofNat 6 (61 + g.val), v)] ∧ leg.aw = [] ∧ leg.vw = [] ∧ leg.csat = 0 ∧ leg.cftz = 0 ∧ leg.cnan = 0
      ∧ leg.pwb = false :=
  ⟨parkedAt { demoLeg with sw := [(63, 3)] }, 0, .s0, _, _, _, 2, 3, rfl, by decide, by decide, by decide, ⟨by decide, by decide, by decide, by decide⟩, by decide, by decide,
    by decide, by decide, by decide, by decide, by decide⟩

theorem witness_OperandsReadTheLegsStart : ∀ x ∈ demoCtx.w.regs.bad, (∀ r, x.1 ≠ .s r) ∧ ∀ r, x.1 ≠ .a r := by intro x h; cases h
theorem witness_OperandsReadTheLegsStart_error : ∃ (s : State) (c : Ctx) (a : SReg) (found : Bool), Issues s c plainShape true
    ∧ c.w.regs.bad.find? (fun x => x.1 == .s a) = some (.s a, found) :=
  ⟨{ demo with waves := [{ demoWave with regs := { demoRegs with bad := [(.s 1, false)] } }] }, _, 1, false,
    ⟨rfl, by decide, by decide⟩, by decide⟩

/-- The registers that the scalar statements read: zero, the least integer, -1 and the count 32 among them. -/
theorem witness_scalar_sources : demoCtx.getS 0 = .ok 0 ∧ demoCtx.getS 1 = .ok 7 ∧ demoCtx.getS 3 = .ok 0x8000_0000
    ∧ demoCtx.getS 4 = .ok 0xFFFF_FFFF ∧ demoCtx.getS 16 = .ok 32 := ⟨rfl, rfl, rfl, rfl, rfl⟩
theorem witness_ScalarArithmetic : ∃ (s : State) (c : Ctx) (m : Bool) (a b : SReg) (x y : Word),
    Issues s c plainShape m ∧ c.getS a = .ok x ∧ c.getS b = .ok y :=
  ⟨demo, demoCtx, true, 1, 2, 7, 3, demo_plain _, rfl, rfl⟩
theorem witness_DivisionAndShiftCorners : ∀ (a b : SReg) (x y : Word),
    (a, b, x, y) ∈ [((1 : SReg), (0 : SReg), (7 : Word), (0 : Word)), (3, 4, 0x8000_0000, 0xFFFF_FFFF), (1, 16, 7, 32), (1, 2, 7, 3)] →
      Issues demo demoCtx plainShape true ∧ demoCtx.getS a = .ok x ∧ demoCtx.getS b = .ok y := by
  intro a b x y h
  refine ⟨demo_plain _, ?_⟩
  simp only [List.mem_cons, List.not_mem_nil, Prod.mk.injEq, or_false] at h
  rcases h with ⟨rfl, rfl, rfl, rfl⟩ | ⟨rfl, rfl, rfl, rfl⟩ | ⟨rfl, rfl, rfl, rfl⟩ | ⟨rfl, rfl, rfl, rfl⟩ <;> exact ⟨rfl, rfl⟩
theorem witness_ScalarOneSource : ∃ (a d : SReg) (x o : Word), Issues demo demoCtx plainShape true ∧ demoCtx.getS a = .ok x
    ∧ demoCtx.getS d = .ok o := ⟨1, 2, 7, 3, demo_plain _, rfl, rfl⟩
theorem witness_ScalarCompares : ∃ (a b : SReg) (x y : Word), Issues demo demoCtx plainShape true ∧ demoCtx.getS a = .ok x
    ∧ demoCtx.getS b = .ok y := ⟨3, 4, 0x8000_0000, 0xFFFF_FFFF, demo_plain _, rfl, rfl⟩
theorem witness_ScalarFloatAndConversion : ∃ (a b d : SReg) (x y o : Word), Issues demo demoCtx plainShape true
    ∧ demoCtx.getS a = .ok x ∧ demoCtx.getS b = .ok y ∧ demoCtx.getS d = .ok o :=
  ⟨5, 5, 1, 0x3FC0_0000, 0x3FC0_0000, 7, demo_plain _, rfl, rfl, rfl⟩
theorem witness_AddressArithmetic : ∃ (a b : AReg) (sa sb : SReg) (x y : DWord) (u v : Word), Issues demo demoCtx plainShape true
    ∧ demoCtx.getA a = .ok x ∧ demoCtx.getA b = .ok y ∧ demoCtx.getS sa = .ok u ∧ demoCtx.getS sb = .ok v :=
  ⟨1, 2, 1, 2, 0x20000, 0x20010, 7, 3, demo_plain _, rfl, rfl, rfl, rfl⟩

/-- The demo machine with another value in a1. -/
def withA (x : DWord) : State := { demo with waves := [{ demoWave with
  regs := { demoRegs with a := demoRegs.a.set 1 x },
  s0 := { Slot.empty with path := some demoPath, leg := some (Leg.fresh 0x10000 (Mask.below 4) { demoRegs with a := demoRegs.a.set 1 x } 0) } }] }
def ctxA (x : DWord) : Ctx := match (withA x).begin with
  | .leg c => c
  | _ => demoCtx

/-- A pointer of each kind, the ends of private memory and pointers of other cores among them. -/
theorem witness_SpaceInstructions : ∀ x ∈ [(0x20000 : DWord), 0xF000_0000_0000_0000, 0xF000_0000_00FF_FFFF, 0x0100_0000_0000_0000],
    Issues (withA x) (ctxA x) plainShape true ∧ (ctxA x).getA 1 = .ok x := by
  intro x h
  simp only [List.mem_cons, List.not_mem_nil, or_false] at h
  rcases h with rfl | rfl | rfl | rfl <;> exact ⟨⟨rfl, by decide, by decide⟩, rfl⟩
theorem witness_SpaceInstructions_windows : windowOf 0x20000 = some .glob ∧ windowOf 0xF000_0000_0000_0000 = some .priv
    ∧ windowOf 0x0100_0000_0000_0000 = none := by decide
theorem witness_MaskInstructions : ∃ (a b : MBase) (sa : SReg) (x y : Mask) (v : Word), Issues demo demoCtx plainShape true
    ∧ demoCtx.getM a = .ok x ∧ demoCtx.getM b = .ok y ∧ demoCtx.getS sa = .ok v :=
  ⟨8, 12, 1, 5, 3, 7, demo_plain _, rfl, rfl, rfl⟩

/-! ### Lanes -/

def fVV : LA := la (.v 6) (.v 1) (.v 2) .n32

theorem witness_LaneResultsMerge : ∃ c', demoCtx.setLanes (.v 6) [1, 2, 3, 4] perLane = .ok c' := ok_of (by decide)
theorem witness_LaneResultsMerge_length : (demoCtx.oldDst (.v 6)).expand.length = demoCtx.w.ww
    ∧ Roomy demoCtx (2 * demoCtx.w.ww) := ⟨by decide, by decide, by decide⟩
theorem witness_LaneResultsMerge_vcoal : Issues demo demoCtx laneShape true ∧ ∃ A, demoCtx.lanes (.v 1) 0 = .ok A :=
  ⟨demo_lane _, ok_of (by decide)⟩
theorem witness_LaneArithmetic : Issues demo demoCtx laneShape true ∧ (∃ A, demoCtx.src .n32 (.v 1) 0 = .ok A)
    ∧ (∃ B, demoCtx.src .n32 (.v 2) 0 = .ok B) ∧ ∃ c', demoCtx.dst .n32 (.v 6) [6, 7, 12, 13] perLane = .ok c' :=
  ⟨demo_lane _, ok_of (by decide), ok_of (by decide), ok_of (by decide)⟩
theorem witness_LaneArithmetic_room : Roomy demoCtx (2 * demoCtx.w.ww) ∧ (demoCtx.oldDst (.v 6)).expand.length ≤ demoCtx.w.ww
    ∧ (demoCtx.oldDst (selNext (.v 6))).expand.length ≤ demoCtx.w.ww := ⟨⟨by decide, by decide⟩, by decide, by decide⟩
theorem witness_LaneArithmetic_short : (let c : Ctx := { demoCtx with w := { demoWave with rb := 4 } }
    decide (c.w.rb < c.w.workingSlots + (c.leg.resv + (c.result (.v 6) [6, 7, 12, 13] perLane).length))) = true := by decide
/-- The least values of the integer types, whose VABS and VNEG wrap. -/
theorem witness_LaneArithmetic_integers : floatTy fVV.ty = false ∧ 0x8000_0000 < 2 ^ tyBits fVV.ty ∧ fVV.sat = false := by decide
theorem witness_LaneShiftsFunctionsConversions : Issues demo demoCtx laneShape true ∧ (∃ A, demoCtx.src .f32 (.s 5) 0 = .ok A)
    ∧ (∃ B, demoCtx.lanes (.s 16) 0 = .ok B) ∧ ∃ c', demoCtx.dst .f32 (.v 6) [1, 2, 3, 4] 0 = .ok c' :=
  ⟨demo_lane _, ok_of (by decide), ok_of (by decide), ok_of (by decide)⟩
theorem witness_LaneComparesSelectsMoves : Issues demo demoCtx laneShape true ∧ (∃ A, demoCtx.src .n32 (.v 1) 0 = .ok A)
    ∧ (∃ B, demoCtx.src .n32 (.v 2) 0 = .ok B) ∧ ∃ M, demoCtx.getM 8 = .ok M :=
  ⟨demo_lane _, ok_of (by decide), ok_of (by decide), ok_of (by decide)⟩
theorem witness_LaneComparesSelectsMoves_nan : (fp32.decode 0x7FC0_0000).isNan = true := by decide
theorem witness_CrossLaneResults : Issues demo demoCtx laneShape true ∧ (∃ A, demoCtx.src .n32 (.v 1) 0 = .ok A)
    ∧ (∃ L, demoCtx.lanes (.s 2) 0 = .ok L) ∧ ∃ c', demoCtx.dst .n32 (.v 6) [4, 2, 3, 4] perLane = .ok c' :=
  ⟨demo_lane _, ok_of (by decide), ok_of (by decide), ok_of (by decide)⟩

/-! ### Memory -/

theorem witness_StoresChangeOnlyTheirBytes : ∃ (s : State) (h : HeldStore) (p : Piece), Memory.wf s.mem = true ∧ h.pieces = [p]
    ∧ p.host? = none ∧ 0 < p.len ∧ 0 < h.bytes.length := ⟨demo, ⟨[⟨0x20000, 1, none⟩], [7], 1, 0x20000⟩, _, by decide, rfl, by decide⟩
/-- For each check, an address that fails it. -/
theorem witness_AccessChecksInOrder : windowOf 0x0100_0000_0000_0000 = none
    ∧ (demo.leaf? 1 0x20000).isSome = true ∧ demo.leaf? 1 0x90000 = none := by decide
theorem witness_Loads : (∃ as, demoCtx.laneAddrs (lm (.v 6) 1 .n32) 4 = .ok as) ∧ Issues demo demoCtx loadShape true
    ∧ (∃ a, demoCtx.base (lm (.s 6) 1 .n32) = .ok a) :=
  ⟨ok_of (by decide), demo_load _, ok_of (by decide)⟩
/-- The data page in a narrow format (R101). -/
def narrow : State := { demo with leaves := [demoLeaf 0x10000 true false, { demoLeaf 0x20000 false true with fmt := 4 }] }
def narrowCtx : Ctx := { demoCtx with s := narrow }
theorem witness_Loads_widened : ∃ as, narrowCtx.laneAddrs (lm (.v 6) 1 .f32) 0 = .ok as
    ∧ (∀ x ∈ as, (narrowCtx.widenLane .x x.2 ((widenElem .f32).2 * x.1) (widenElem .f32).2).toOption.isSome = true)
    ∧ Roomy narrowCtx narrowCtx.w.ww ∧ narrowCtx.s.errs = [] ∧ narrowCtx.s.poison = [] :=
  ⟨_, rfl, by decide, ⟨by decide, by decide⟩, by decide, by decide⟩
/-- A launch with a parameter window of 8 bytes on the data page. -/
def windowed : State := { demo with launches := [⟨1, 0x20000, 1, 0, { parseLaunch (List.replicate 256 0) with
  nwave := 1, ww := 4, rb := 16384, pw := #v[(0x20000, 8), (0, 0), (0, 0), (0, 0)] }, none, .accepted, 0, 0, 0, 1, false⟩] }
def windowCtx : Ctx := { demoCtx with s := windowed }
theorem witness_Loads_window : Issues windowed windowCtx loadShape true ∧ (windowCtx.window 0).2 = 8
    ∧ (∃ qs, windowCtx.windowOffs (lm (.v 6) 0 .i32) 4 = .ok qs ∧ qs.length = 4
      ∧ ∀ x ∈ qs, (windowCtx.windowAt (windowCtx.window 0) x.1 x.2 4).2.toOption.isSome = true) ∧ Roomy windowCtx windowCtx.w.ww :=
  ⟨⟨rfl, by decide, by decide⟩, by decide, ⟨_, rfl, by decide, by decide⟩, ⟨by decide, by decide⟩⟩
theorem witness_Loads_nowindow : (demoCtx.window 0).2 = 0 := by decide
theorem witness_Loads_place : ∃ p, demo.locate demoWave .x true 0 0x20010 4 4 .read = .ok p := ok_of (by decide)
theorem witness_Loads_fault : ∃ e, demo.locate demoWave .x true 0 0x90000 4 4 .read = .error e := error_of (by decide)
theorem witness_Stores : Issues demo demoCtx storeShape true ∧ (∃ v, demoCtx.laneNats (.v 1) 1 = .ok v)
    ∧ (∃ as, demoCtx.laneAddrs (lm (.v 1) 1 .n32) 4 = .ok as) ∧ MayClose demo demoCtx ∧ Memory.wf demo.mem = true :=
  ⟨demo_store _, ok_of (by decide), ok_of (by decide), demo_closes, by decide⟩
theorem witness_Stores_place : ∃ p, demo.locate demoWave .x true 0 0x20000 4 4 .write = .ok p ∧ ∀ q ∈ p.pieces, q.owner? = none :=
  ⟨_, rfl, by decide⟩
/-- A page in the CXL memory behind port 1. -/
def cxlLeaf : Leaf := { demoLeaf 0x20000 false true with loc := 1, dev := 1 }
theorem witness_Stores_cxl : ∃ p, ({ demo with leaves := [demoLeaf 0x10000 true false, cxlLeaf] } : State).locate demoWave .x true 0 0x20000 4 4 .write
    = .ok p ∧ p.pieces.map Piece.owner? = [some (true, 1)] := ⟨_, rfl, by decide⟩
theorem witness_Atomics : MayClose demo demoCtx ∧ Memory.wf demoCtx.s.mem = true ∧ ∃ c', demoCtx.satom .add
    { lm (.s 6) 1 .n32 with sv := .s 1, scp := .dev } = .ok c' := ⟨demo_closes, by decide, ok_of (by decide)⟩
theorem witness_Atomics_lanes : ∃ c', demoCtx.vatom .add { lm (.v 6) 1 .n32 with sv := .v 1, scp := .dev } = .ok c' := ok_of (by decide)
theorem witness_ClaimTakesItsChunk : Issues demo demoCtx atomShape true ∧ demoCtx.getS 0 = .ok 0
    ∧ demoCtx.base (lm (.s 6) 1 .f32) = .ok 0x20000 ∧ windowOf 0x20000 = some .glob
    ∧ ∃ p, demo.translate 1 0x20000 16 .atomic = .ok p := ⟨demo_atom, rfl, rfl, by decide, ok_of (by decide)⟩

/-! ### Control, launches, barriers -/

/-- What MayClose asks of a state and its context. -/
theorem closes_of {s : State} {c : Ctx} (h : s.begin = .leg c)
    (d : c.s.wave? c.w.id = some c.w ∧ (c.w.slot c.k).path = some c.path ∧ c.leg.count < 24 ∧ c.leg.memCount < 8 ∧ c.w.fences = []
      ∧ c.leg.fences = [] ∧ c.leg.out = [] ∧ c.leg.stores = [] ∧ c.leg.cinvs = [] ∧ c.leg.closing = none ∧ c.leg.sent = false ∧ c.leg.reply = none
      ∧ c.leg.short = false ∧ (c.s.overtaken c.w c.leg = false ∧ c.leg.crossed = []
        ∧ (∀ o ∈ c.w.s0.leg.toList ++ c.w.s1.leg.toList, o.sent = false) ∧ c.w.s0.took = none ∧ c.w.s1.took = none)
      ∧ c.leg.failed = 0 ∧ c.w.stack = []) : MayClose s c := by
  obtain ⟨d1, d2, d3, d4, d5, d6, d7, d8, d9, d10, d11, d12, d13, ⟨e1, e2, e3, e4⟩, d15, d16⟩ := d
  exact ⟨h, d1, d2, d3, d4, d5, d6, d7, d8, d9, d10, d11, d12, d13, ⟨e1, e2, e3, e4⟩, d15, d16⟩

/-- The demo machine with another wave in its slot. -/
def withWave (w : Wave) : State := { demo with waves := [w] }
/-- The demo wave on a path at a depth, in a bracket. -/
def onPath (p : Path) : Wave := { demoWave with s0 := { Slot.empty with path := some p, leg := some demoLeg } }

theorem witness_BranchesMoveThePath : MayClose demo demoCtx ∧ demoCtx.getS 0 = .ok 0 ∧ demoCtx.getS 1 = .ok 7
    ∧ demoCtx.getA 4 = .ok 0x10000 := ⟨demo_closes, rfl, rfl, rfl⟩
theorem witness_LandChangesNothing : Issues demo demoCtx plainShape true ∧ demoCtx.pc = demoCtx.leg.start := ⟨demo_plain _, by decide⟩
theorem witness_LandChangesNothing_elsewhere : ∃ (s : State) (c : Ctx), Issues s c plainShape true ∧ c.pc ≠ c.leg.start :=
  ⟨issuing [] demoPath { demoLeg with next := 0x10004, count := 1 } |> fun s => { s with cur := some (0, .s0) }, _,
    ⟨rfl, by decide, by decide⟩, by decide⟩
theorem witness_LandChangesNothing_target : ∃ (c : Ctx) (w : Word), c.path.jumped = some c.leg.start ∧ c.leg.start.extractLsb' 0 2 = 0
    ∧ c.leg.start.extractLsb' 52 12 = 0 ∧ c.fetchWord 0 = .ok w ∧ decodeWords w 0 0 = some (.land true) :=
  ⟨{ demoCtx with path := { demoPath with jumped := some 0x10000 },
                  s := { demo with mem := [⟨0x10000, 0x24⟩, ⟨0x10001, 0x01⟩, ⟨0x10003, 0x28⟩] } }, 0x2800_0124,
    by decide, by decide, by decide, rfl, by decide⟩
theorem witness_DivergentBranches : MayClose demo demoCtx ∧ (∃ M, demoCtx.getM 8 = .ok M)
    ∧ (∃ v, demoCtx.lanes64 (.v 10) 0 false = .ok v) ∧ (demoCtx.w.slot .s0).inHandler = false :=
  ⟨demo_closes, ok_of (by decide), ok_of (by decide), by decide⟩
theorem witness_DivergentBranches_split : (demoWave.slot .s0).path = some demoPath ∧ (3 : Mask) &&& Mask.below 4 = 3
    ∧ Mask.below 4 &&& demoPath.p = Mask.below 4 ∧ (3 : Mask) ≠ Mask.below 4 := by decide
theorem witness_DivergentBranches_targets : ([((0 : Nat), (0x10000 : DWord)), (1, 0x20000)].map (·.1)).Nodup := by decide
theorem witness_CallsAndReturns : MayClose demo demoCtx ∧ (∃ v, demoCtx.lanes64 (.v 10) 0 false = .ok v) ∧ demoCtx.active ≠ [] :=
  ⟨demo_closes, ok_of (by decide), by decide⟩
theorem witness_CallsAndReturns_fits : demo.callRefused demoWave 0 = false
    ∧ (0 : Nat) < demoWave.regs.imgs.length ∧ (demoCtx.reserve (demoWave.callSlots 0 demoPath.p fun _ => 0x10004)).toOption.isSome = true
    ∧ demoWave.regs.imgs.length ≤ 1 := by
  decide
theorem witness_CallsAndReturns_deepest : demo.callRefused demoWave 65535 = true := by decide
theorem witness_CallsAndReturns_ret : ∃ (s : State) (c : Ctx), MayClose s c ∧ c.path.dep ≠ 0 ∧ lanesOf c.path.p c.w.ww ≠ [] :=
  ⟨withWave (onPath { demoPath with dep := 1 }), _, closes_of rfl (by decide), by decide, by decide⟩
/-- A wave at depth `d` of a path with half of its lanes, with nothing of two depths' images resident. -/
def spilled (d : BitVec 16) : Wave :=
  { onPath { demoPath with dep := d, p := 1, e := 1 } with
    regs := { Regs.start 4 with lowRes := 0, imgs := [⟨Vector.replicate 32 (LReg.flat 4 0), [], 0, false⟩,
      ⟨Vector.replicate 32 (LReg.flat 4 0), [⟨0, 4⟩], 0, false⟩] } }
/-- A fill that ends in a fault. -/
def fillStops {α : Type} (e : Except FillStop α) : Bool := match e with
  | .error (.fault _ _ _) => true
  | _ => false
theorem witness_CallsAndReturns_spilled : ∃ (s : State) (c : Ctx), MayClose s c ∧ c.path.dep = 0
    ∧ (∃ c', c.reserve (c.w.callSlots 0 c.path.p fun _ => c.pc + 4) = .ok c' ∧ c'.leg.short = false ∧ fillStops
        ((c'.marked (.call 0x10000) closeShape).fillLink (c'.markedWave (.call 0x10000) closeShape) c.path c'.leg.resv) = true)
    ∧ c.s.callRefused c.w 0 = false :=
  ⟨withWave (spilled 0), _, closes_of rfl (by decide), rfl, ⟨_, rfl, by decide, by decide⟩, by decide⟩
theorem witness_CallsAndReturns_unfilled : ∃ (s : State) (c : Ctx), MayClose s c ∧ c.path.dep ≠ 0 ∧ (c.w.slot c.k).inHandler = false
    ∧ c.w.hamper = none ∧ fillStops ((c.marked (.ret c.pc) closeShape).fillBelow (c.markedWave (.ret c.pc) closeShape) c.k c.path.dep c.leg.resv) = true :=
  ⟨withWave (spilled 1), _, closes_of rfl (by decide), by decide, by decide, by decide, by decide⟩
theorem witness_JoinsAndExits : MayClose demo demoCtx ∧ (∃ M, demoCtx.getM 8 = .ok M) ∧ (demoCtx.w.slot demoCtx.k).legs + 1 < 4096 :=
  ⟨demo_closes, ok_of (by decide), by decide⟩

/-- A path of lanes 0 and 1 that waits for lanes 0 to 3 at 0x10000, and one of lanes 2 and 3. -/
def waiting : StackEntry := ⟨⟨0x10004, 3, 3, 0, none, none⟩, some (0x10000, Mask.below 4), [], Slot.empty, none, false⟩
def joinWave : Wave := { onPath { demoPath with p := 12, e := 12 } with stack := [waiting] }
theorem witness_JoinsAndExits_entry : (joinWave.slot .s0).path = some { demoPath with p := 12, e := 12 }
    ∧ joinWave.joinEntry 0x10000 = some (0, waiting, Mask.below 4) := by decide
theorem witness_JoinsAndExits_last : (demoWave.slot .s1).path = none ∧ demoPath.brk = none ∧ demo.basaltOf 0 = [] ∧ demo.porterOf 0 = [] := by
  decide
/-- A wave whose slot has committed 4,096 legs, with a running entry on the stack. -/
def tired : Wave := { demoWave with s0 := { Slot.empty with path := some demoPath, legs := 4096 },
                                    stack := [⟨⟨0x20000, 3, 3, 0, none, none⟩, none, [], Slot.empty, none, false⟩] }
theorem witness_RotationTakesTheOldest : (withWave tired).wave? tired.id = some tired ∧ 4096 ≤ (tired.slot .s0).legs
    ∧ tired.stack ≠ [] ∧ (∀ e ∈ tired.stack, e.join = none ∧ e.held = false ∧ e.mem = none) ∧ (tired.slot .s0).leg = none
    ∧ (tired.slot .s0).inHandler = false ∧ tired.state ≠ .suspended ∧ tired.s0.took = none ∧ tired.s1.took = none := by decide
theorem witness_RotationTakesTheOldest_aged : ∃ (s : State) (w : Wave) (k : SlotId), s.wave? w.id = some w
    ∧ s.agedSlot w.core w.quad = some (w, k) :=
  ⟨withWave { demoWave with s0 := { demoWave.s0 with age := 256 } }, { demoWave with s0 := { demoWave.s0 with age := 256 } }, .s0,
    by decide, by decide⟩
theorem witness_WatchedWords : MayClose demo demoCtx ∧ demoCtx.getA 2 = .ok 0x20010 ∧ demoCtx.getS 1 = .ok 7
    ∧ ∃ p, demo.locate demoWave .x true 0 0x20010 4 4 .read = .ok p := ⟨demo_closes, rfl, rfl, ok_of (by decide)⟩
theorem witness_Launches : MayClose demo demoCtx ∧ demoCtx.getA 1 = .ok 0x20000 ∧ windowOf 0x20000 = some .glob
    ∧ (0x20000 : DWord).toNat % 64 = 0 := ⟨demo_closes, rfl, by decide, by decide⟩
/-- The Guide is free for the wave's partition, and not while another partition's root launch is due. -/
theorem witness_Launches_turn : (demo.guideFree 0
    && !({ demo with port0 := { Port.reset with rlgo := true, rlpart := 1 } } : State).guideFree 0) = true := by decide +kernel
theorem witness_Launches_misaligned : demoCtx.getA 2 = .ok 0x20010 ∧ windowOf 0x20010 = some .glob ∧ (0x20010 : DWord).toNat % 64 ≠ 0 :=
  ⟨rfl, by decide, by decide⟩
theorem witness_HamperSynchronisation : MayClose demo demoCtx ∧ demoCtx.w.hamper = none ∧ demoCtx.w.candidates = [] :=
  ⟨demo_closes, by decide, by decide⟩
theorem witness_HamperSynchronisation_stopped : ∃ (s : State) (c : Ctx) (h : HamperStop), MayClose s c ∧ c.w.hamper = some h
    ∧ h.reported = false ∧ c.w.faultHolds c.k = false :=
  ⟨withWave { demoWave with hamper := some ⟨.entries, 0x1001, 0x90000, 5, false⟩ }, _, _, closes_of rfl (by decide), rfl, by decide, by decide⟩
theorem witness_HamperSynchronisation_record : ∃ (ww : Nat) (r : LReg), 1 ≤ r.length ∧ r.length ≤ 96
    ∧ (∀ x ∈ r, 1 ≤ x.cnt ∧ x.cnt ≤ 96) ∧ (r.map (·.cnt)).sum = ww := ⟨96, [⟨5, 96⟩], by decide⟩

/-- Barrier 3 as the launch of the demo wave holds it. -/
def barring (b : Barrier) : State := { demo with cores := [{ Core.reset 0 with bars := [(3, b)] }] }
theorem witness_Barriers : ∀ b ∈ [(⟨none, false, 0, 0, 0⟩ : Barrier), ⟨some 1, false, 2, 1, 0⟩, ⟨some 1, true, 2, 2, 8⟩, ⟨some 9, false, 1, 1, 0⟩],
    ∃ c, MayClose (barring b) c ∧ c.getS 2 = .ok 3 ∧ (c.s.core c.w.core.toNat).bar 3 = b ∧ c.s.porterOf c.w.id = [] := by
  intro b h
  simp only [List.mem_cons, List.not_mem_nil, or_false] at h
  rcases h with rfl | rfl | rfl | rfl <;> exact ⟨_, closes_of rfl (by decide), rfl, by decide, by decide⟩
theorem witness_Barriers_number : demoCtx.getS 4 = .ok 0xFFFF_FFFF ∧ 64 ≤ (0xFFFF_FFFF : Word).toNat := ⟨rfl, by decide⟩

/-- The launch record that the demo wave runs under, co-resident or not. -/
def demoRec (flags : Word) : LaunchRec := { parseLaunch (List.replicate 256 0) with nwave := 1, ww := 4, rb := 16384, flags := flags }
def demoLaunch (flags : Word) : Launch := ⟨1, 0x20000, 1, 0, demoRec flags, none, .accepted, 0, 0, 0, 1, false⟩
theorem witness_Barriers_gbar : ∀ f ∈ [(0 : Word), 1], ∃ c r, MayClose { demo with launches := [demoLaunch f] } c
    ∧ c.s.recOf c.w = some r ∧ r.all = f.getLsbD 0 := by
  intro f h
  simp only [List.mem_cons, List.not_mem_nil, or_false] at h
  rcases h with rfl | rfl <;> exact ⟨_, _, closes_of rfl (by decide), rfl, by decide⟩

/-! ### Engines -/

/-- A descriptor of one dimension: 16 bytes from 0x20010 to 0x20800. -/
def descMem : List Host.Cell := [⟨0x20000, 0x10⟩, ⟨0x20002, 2⟩, ⟨0x20009, 8⟩, ⟨0x2000A, 2⟩, ⟨0x20014, 16⟩]
theorem witness_PorterCommands : ∃ (s : State) (c : Ctx) (r : Ctx × List Byte) (p : PDesc), MayClose s c ∧ c.getA 1 = .ok 0x20000
    ∧ c.getS 1 = .ok 7 ∧ Issues s c { closeShape with cls := 1 } true ∧ c.readUnits 0x20000 64 1 = .ok r ∧ r.1.leg.out = []
    ∧ parseDesc r.2 = some p ∧ (c.s.porterOf c.w.id).length < 64 ∧ p.total ≠ 0 :=
  ⟨{ demo with mem := descMem }, { demoCtx with s := { demo with mem := descMem } }, _, _, closes_of rfl (by decide), rfl, rfl,
    ⟨rfl, by decide, by decide⟩, rfl, rfl, rfl, by decide, by decide⟩
/-- Its command, in batch 1, with nothing copied yet. -/
def demoCmd : PorterCmd := ⟨9, 0, 0, 1, 1, 0, ⟨0, 0x20010, 0x20800, false, 0, 16, 1, 1, 1, 0, #v[0, 0, 0], #v[0, 0, 0]⟩, some 1, 0, none, false, [], [], none⟩
theorem witness_PorterCommands_chunk : ∃ (s : State) (q : PorterCmd), s.porter.find? (·.tok == q.tok) = some q ∧ q.susp = none
    ∧ s.tokensDone q.after = true ∧ ∃ xs, s.chunkBytes q q.done (min 4096 (q.desc.total - q.done)) = .ok xs :=
  ⟨{ demo with porter := [demoCmd] }, demoCmd, by decide, by decide, by decide, ok_of (by decide)⟩
theorem witness_PorterCommands_work : ∃ (s : State) (q : PorterCmd), s.porter.find? (·.tok == q.tok) = some q ∧ q.susp = none
    ∧ s.tokensDone q.after = true ∧ q.work = some [] :=
  ⟨{ demo with porter := [{ demoCmd with work := some [] }] }, { demoCmd with work := some [] }, by decide, by decide, by decide, rfl⟩
theorem witness_PorterCommands_pwait : ∃ (s : State) (c : Ctx) (q : PorterCmd), MayClose s c ∧ c.getS 1 = .ok 7 ∧ q ∈ c.s.porter
    ∧ q.wave = c.w.id ∧ q.batch = some 1 ∧ ((7 : Word) - 1).toNat < 2 ^ 31 ∧ ∀ r ∈ c.s.porter, r.susp = none :=
  ⟨{ demo with porter := [demoCmd] }, _, demoCmd, closes_of rfl (by decide), rfl, by decide, by decide, by decide, by decide, by decide⟩
theorem witness_FencesAndCaches : Issues demo demoCtx (lineShape 0) true ∧ Issues demo demoCtx (lineShape 2) true
    ∧ demoCtx.getA 1 = .ok 0x20000 ∧ demoCtx.getS 1 = .ok 7 ∧ windowOf 0x20000 = some .glob :=
  ⟨⟨rfl, by decide, by decide⟩, ⟨rfl, by decide, by decide⟩, rfl, rfl, by decide⟩
theorem witness_FencesAndCaches_walk : ∃ (s : State) (v : Walk) (l : Leaf), s.walks[0]? = some v ∧ s.leaf? v.asid v.va = some l
    ∧ l.p = true ∧ ∀ k ∈ s.shoots, k.seq ≤ v.seq :=
  ⟨{ demo with walks := [⟨0, 0, 1, 0x20000, 0⟩] }, _, _, rfl, rfl, by decide, by decide⟩
/-- A word that was 7 before a store of the demo wave's launch. -/
theorem witness_FencesAndCaches_fetch : ∃ (s : State) (p : Piece), s.translate 1 0x10000 4 .fetch = .ok p ∧ s.readFault [p] = none
    ∧ s.oldWords 0 1 0x10000 (p.key / 4) = [7] :=
  ⟨{ demo with olds := [⟨0x4000, 7, []⟩] }, _, rfl, by decide, by decide⟩
theorem witness_FencesAndCaches_cinv : ∃ (s : State) (w : Wave) (p : Path) (leg : Leg), s.parkedLeg 0 .s0 = some (w, p, leg)
    ∧ leg.closing = none ∧ w.state ≠ .suspended ∧ (w.slot .s0).legs + 1 < 4096 ∧ Unhindered s w leg ∧ leg.stores = []
    ∧ leg.cinvs = [(0x10000, 4, 0)] :=
  ⟨parkedAt { demoLeg with cinvs := [(0x10000, 4, 0)] }, _, _, _, rfl, by decide, by decide, by decide, ⟨by decide, by decide, by decide, by decide⟩,
    by decide, by decide⟩
theorem witness_FencesAndCaches_tlbinv : MayClose demo demoCtx ∧ Issues demo demoCtx closeShape true ∧ demoCtx.getS 0 = .ok 0
    ∧ demoCtx.getS 1 = .ok 7 := ⟨demo_closes, ⟨rfl, by decide, by decide⟩, rfl, rfl⟩
theorem witness_SieveInstructions : Issues demo demoCtx (sieveShape 0) true ∧ Issues demo demoCtx (sieveShape 1) true
    ∧ Issues demo demoCtx (sieveShape 2) true ∧ (demo.core 0).sieveBusy = false ∧ (demo.core 0).sieveGrant = none
    ∧ (demo.core 0).sieveQ = [] ∧ ∃ c', demoCtx.xhad { lx 1 with sb := .v 0 } = .ok c' :=
  ⟨⟨rfl, by decide, by decide⟩, ⟨rfl, by decide, by decide⟩, ⟨rfl, by decide, by decide⟩, by decide, by decide, by decide,
    ok_of (by decide)⟩
theorem witness_SieveInstructions_xcvt : (elemOf demoRegs.nf 1).isSome = true ∧ elemOf demoRegs.nf 0 = none
    ∧ (demoCtx.lanes (.v 2) 0).toOption.isSome = true ∧ (demoCtx.reserveUnknown (.v 6) 1).toOption.isSome = true := by decide

/-- The demo wave under a launch that was given tiles o0 to o3 and z0. -/
def tiled : State := { demo with launches := [{ demoLaunch 0 with lr := { demoRec 0 with ofirst := 0, ocnt := 4, zfirst := 0, zcnt := 1 } }] }
theorem witness_TileCommands : ∃ c cmd, MayClose tiled c ∧ Ctx.tzeroCmd c (lt 3) = .ok cmd ∧ c.s.tileProbe c.w cmd = none
    ∧ (c.s.basaltOf c.w.id).length < 16 := ⟨_, _, closes_of rfl (by decide), rfl, by decide, by decide⟩
theorem witness_TileCommands_tst : ∃ c cmd, MayClose tiled c ∧ Ctx.tstCmd c { lt 0 with ta := 3, areg := 1 } = .ok cmd :=
  ⟨_, _, closes_of rfl (by decide), rfl⟩
/-- Its rows, on the data page and on one of CXL memory. -/
theorem witness_TileCommands_tst_rows : ∀ x ∈ [(tiled, none), ({ tiled with leaves := [demoLeaf 0x10000 true false, cxlLeaf] }, some (true, (1 : BitVec 4)))],
    ((List.range 32).all fun i => match x.1.rowPieces 1 0x20000 0 (rowBytes (.o 3)) i .write with
      | .ok ps => ps.map Piece.owner? == [x.2]
      | .error _ => false) = true := by decide +kernel
theorem witness_TileCommands_refused : ∃ t, demoCtx.tzeroCmd (lt 0) = .error t := error_of (by decide)
theorem witness_TileCommands_start : ∃ (s : State) (q : BasaltCmd), s.basalt.find? (·.tok == q.tok) = some q ∧ q.susp = none
    ∧ q.done = false ∧ q.started = false ∧ q.stopped = false ∧ s.tokensDone q.after = true ∧ s.conflictBefore q = false
    ∧ (∃ w, s.wave? q.wave = some w ∧ w.state ≠ .suspended ∧ w.unread = false) ∧ q.cmd.isLoad = false :=
  let q : BasaltCmd := ⟨9, 0, 0, 1, .zero (.o 3), none, false, false, none, false, [], 0, false, (0, 0, 0), [], []⟩
  ⟨{ tiled with basalt := [q] }, q, by decide, by decide, by decide, by decide, by decide, by decide, by decide,
    ⟨demoWave, by decide, by decide, by decide⟩, by decide⟩

/-! ### The Quarry and Lookout -/

/-- An entity of world 3: slot 0, live in stratum 0 at row 0, and the wave that was given its rows. -/
def peopled : World := { demoWorld with mark := 1, ents := [⟨0, 1, .live 0 0⟩], strata := [⟨0, [], [some 0], 0⟩] }
def rowsOf : State := { demo with worlds := [peopled], waves := [{ demoWave with rows := some ⟨3, 0, 0, none⟩ }] }
theorem witness_ColumnAccess : ∃ c, Issues rowsOf c laneShape true ∧ Issues rowsOf c (columnShape 1) true
    ∧ Issues rowsOf c (columnShape 2) true ∧ (∀ id, c.s.applying id = false) ∧ c.w.rows = some ⟨3, 0, 0, none⟩
    ∧ (c.oldDst (.v 6)).expand.length = c.w.ww :=
  ⟨_, ⟨rfl, by decide, by decide⟩, ⟨rfl, by decide, by decide⟩, ⟨rfl, by decide, by decide⟩, by decide, by decide, by decide⟩
theorem witness_ColumnAccess_values : ∃ c, c = { demoCtx with s := rowsOf } ∧ (∃ c', c.qres { lq with dst := .v 6, sa := .v 10 } = .ok c')
    ∧ (∃ c', c.qgen { lq with dst := .v 6, sa := .v 10 } = .ok c') ∧ ∃ h, c.lanes64 (.v 10) 0 false = .ok h :=
  ⟨_, rfl, ok_of (by decide), ok_of (by decide), ok_of (by decide)⟩
/-- The same world while a cairn of it is stopped in its application. -/
def busyRows : State :=
  { rowsOf with worlds := [{ peopled with cairns := [⟨0, .s0, 0, true, [], [], 0, none, some 7, some 1, []⟩] }] }
theorem witness_ColumnAccess_busy : ∃ c, Issues busyRows c laneShape true ∧ Issues busyRows c (columnShape 1) true
    ∧ c.w.rows = some ⟨3, 0, 0, none⟩ ∧ c.s.partBusy c.w 3 = true ∧ c.s.busyHandle c.w [(0, mkHandle 3 1 0)] = some 3 :=
  ⟨_, ⟨rfl, by decide, by decide⟩, ⟨rfl, by decide, by decide⟩, by decide, by decide, by decide⟩
theorem witness_ColumnAccess_norows : demoCtx.w.rows = none := by decide
theorem witness_QueueOperations : ∃ c w, MayClose rowsOf c ∧ c.getS 2 = .ok 3 ∧ c.s.worldNum c.w.part 3 = some w ∧ c.path.brk = none
    ∧ (∀ id, c.s.applying id = false) := ⟨_, _, closes_of rfl (by decide), rfl, rfl, by decide, by decide⟩
theorem witness_QueueOperations_none : ∃ c, MayClose rowsOf c ∧ c.getS 1 = .ok 7 ∧ c.s.worldNum c.w.part 7 = none :=
  ⟨_, closes_of rfl (by decide), rfl, by decide⟩
theorem witness_QueueOperations_commit : ∃ (s : State) (c : Ctx) (b : Bracket) (x : World), MayClose s c ∧ c.path.brk = some b
    ∧ (∀ r, (c.w.slot c.k.other).path = some r → r.brk ≠ some b) ∧ c.s.world? b.world = some x :=
  ⟨{ demo with worlds := [peopled], waves := [onPath { demoPath with brk := some ⟨3, 1⟩ }] }, _, ⟨3, 1⟩, _, closes_of rfl (by decide),
    rfl, (fun r h => absurd h (by decide +revert)), rfl⟩
/-- Under a bracket of the world or of another, and with the queue full. -/
theorem witness_QueueOperations_bracket : ∀ n ∈ [(0 : Nat), 1048576], ∃ (s : State) (c : Ctx) (b : Bracket) (x : World), MayClose s c
    ∧ c.path.brk = some b ∧ c.s.worldOf c.w.part 3 = some x ∧ b.world = 3 ∧ (3 : BitVec 8) ≠ 4 ∧ x.ops = n
    ∧ (n = 0 → x.ops + 4 ≤ 1048576) ∧ (n ≠ 0 → 1048576 < x.ops + 4) := by
  intro n h
  simp only [List.mem_cons, List.not_mem_nil, or_false] at h
  rcases h with rfl | rfl
  · exact ⟨{ demo with worlds := [{ peopled with ops := 0 }], waves := [onPath { demoPath with brk := some ⟨3, 1⟩ }] }, _, ⟨3, 1⟩, _,
      closes_of rfl (by decide), rfl, rfl, rfl, by decide, rfl, by decide, by decide⟩
  · exact ⟨{ demo with worlds := [{ peopled with ops := 1048576 }], waves := [onPath { demoPath with brk := some ⟨3, 1⟩ }] }, _, ⟨3, 1⟩, _,
      closes_of rfl (by decide), rfl, rfl, rfl, by decide, rfl, by decide, by decide⟩
/-- A stale handle in a strict launch. -/
theorem witness_QueueOperations_strict : ∃ (s : State), s.strictWave demoWave = true ∧ s.resolveHandle demoWave.part demoWave.launch (mkHandle 3 9 0) = none
    ∧ (mkHandle 3 9 0) ≠ 0 :=
  ⟨{ demo with worlds := [peopled], launches := [demoLaunch 2] }, by decide, by decide, by decide⟩
theorem witness_QueueOperations_view : ∃ c, MayClose rowsOf c ∧ c.getA 1 = .ok 0x20000 ∧ c.s.viewOf c.w.part 0 = none :=
  ⟨_, closes_of rfl (by decide), rfl, by decide⟩
theorem witness_QueueOperations_record : ((demoCtx.readUnits 0x20000 16 5).toOption.map fun r => decide (r.1.leg.out = [])) = some true := by
  decide +kernel
theorem witness_Cairns : ∃ c x, MayClose rowsOf c ∧ c.getS 2 = .ok 3 ∧ c.s.worldNum c.w.part 3 = some x :=
  ⟨_, _, closes_of rfl (by decide), rfl, rfl⟩
theorem witness_Cairns_apply : ∃ (s : State) (w : World) (c : Cairn), s.world? w.id = some w ∧ w.cairns = [c] ∧ c.stopped = none
    ∧ c.applying = false ∧ s.cairnReady w c = true :=
  let w : World := { peopled with cairns := [⟨0, .s0, 0, false, [], [], 0, none, none, some 1, []⟩], stage := 1 }
  ⟨{ demo with worlds := [w] }, w, ⟨0, .s0, 0, false, [], [], 0, none, none, some 1, []⟩, rfl, rfl, by decide, by decide, by decide⟩
theorem witness_Cairns_awaited : ∃ (s : State) (v : Wave) (leg : Leg), v ∈ s.waves ∧ v.state = .running ∧ (v.slot .s0).leg = some leg
    ∧ (v.slot .s0).held = false ∧ (v.slot .s0).dead = false ∧ leg.cwait = some 3 :=
  let leg : Leg := { demoLeg with cwait := some 3 }
  let w : Wave := { demoWave with state := .running, s0 := { Slot.empty with path := some demoPath, leg := some leg } }
  ⟨withWave w, w, leg, by decide, by decide, by decide, by decide, by decide, by decide⟩
theorem witness_Cairns_stale : ∃ (s : State) (w : World) (a : CState) (op : QOp) (g : Group), g.aborted = false ∧ g.crossed = false
    ∧ g.ops = [op] ∧ g.bracket = none ∧ s.cwork w a op.launch op.handle = none :=
  let op : QOp := ⟨.del, mkHandle 3 9 0, 1⟩
  ⟨rowsOf, peopled, ⟨peopled.strata, peopled.used, [], [], [], 0⟩, op, ⟨none, 0, 0, none, some 0, false, false, [op]⟩, by decide, by decide, by decide, by decide, by decide⟩
theorem witness_LookoutInstructions : ∃ p, MayClose demo demoCtx ∧ demoCtx.getS 0 = .ok 0 ∧ demo.part? 0 = some p
    ∧ p.heads.getLsbD 0 = true ∧ demoCtx.getA 1 = .ok 0x20000 ∧ (0x20000 : DWord).toNat % 64 = 0 :=
  ⟨demoPart, demo_closes, rfl, by decide, by decide, rfl, by decide⟩
theorem witness_LookoutInstructions_foreign : demoCtx.getS 1 = .ok 7 ∧ demoPart.heads.getLsbD 7 = false := ⟨rfl, by decide⟩
theorem witness_LookoutInstructions_submit : demoHead.enabled = true ∧ demoHead.disabling = false ∧ demoHead.bound = none := by decide
theorem witness_LookoutEvents : (headed demoHead).head? 0 = some demoHead ∧ demoHead.latchDue = true
    ∧ (headed demoHead).head? 1 = none := ⟨rfl, by decide, by decide⟩
/-- A head in refresh 1 whose first band is at work, and one whose band is finished. -/
def bandHead (done : Bool) : Head := { demoHead with latches := [⟨1, none, 256, none, 1, false⟩], bands := [⟨1, 0, 0, done, 0, 0⟩] }

/-! ### Faults, recovery, placement -/

theorem witness_FaultsAreTaken : ∃ (t : Trap), demo.wave? demoWave.id = some demoWave ∧ (demoWave.slot .s0).path = some demoPath
    ∧ t.poison = [] ∧ t.reg = none ∧ inSupervisor demoPath.pc = false ∧ (demoWave.slot .s1).inHandler = false
    ∧ demo.callRefused demoWave 0 = false ∧ demo.handlerFetch demoWave = true ∧ demoWave.deliveryFits 0 demoPath.p 0x10000 = true
    ∧ demoWave.regs.imgs.length ≤ 1 :=
  ⟨⟨0x0104, 0x10000, 15, none, [], none, none⟩, by decide⟩
theorem witness_FaultsAreTaken_double : inSupervisor 0x000F_FFFF_FFFF_0000 = true ∧ inSupervisor 0x000F_FFFF_FFFE_FFFC = false := by decide
theorem witness_FaultsAreTaken_unmade : (demo.handlerFetch demoWave) = true ∧ { demo with leaves := [] }.handlerFetch demoWave = false := by decide
theorem witness_FaultsAreTaken_token : (1023 : Nat) < 1024 ∧ (demo.tokens[1023 / 128]?).getD 0 < 2 ^ 60 := by decide
/-- The demo wave between legs with a fault due. -/
def dueWave (d : BitVec 16) : Wave := { demoWave with s0 := { Slot.empty with path := some demoPath, frame := { Slot.empty.frame with defer := d } } }
theorem witness_FaultsAreTaken_delivery : (withWave (dueWave 256)).wave? 0 = some (dueWave 256) ∧ ((dueWave 256).slot .s0).path = some demoPath
    ∧ ((dueWave 256).slot .s0).leg = none ∧ (dueWave 256).issues .s0 = true ∧ lowestDefer ((dueWave 256).slot .s0).frame.defer = some 8
    ∧ ((dueWave 256).slot .s1).inHandler = false := by decide
theorem witness_FaultsAreTaken_none : ∃ x, (withWave (dueWave 0)).boundary (dueWave 0) .s0 demoPath = .ok x := ok_of (by decide)
theorem witness_TrapsReturnsAndWakes : MayClose demo demoCtx ∧ demoCtx.getA 1 = .ok 0x20000 ∧ demoCtx.getS 2 = .ok 3
    ∧ (demoCtx.w.slot .s0).inHandler = false ∧ (demoCtx.w.slot .s0).frame.active = false := ⟨demo_closes, rfl, rfl, by decide, by decide⟩
/-- The demo wave in its handler, in the supervisor page. -/
def handlerSlot : Slot :=
  { Slot.empty with path := some { demoPath with pc := 0x000F_FFFF_FFFF_0000, dep := 1 },
                    leg := some (Leg.fresh 0x000F_FFFF_FFFF_0000 (Mask.below 4) demoRegs 0),
                    frame := { Slot.empty.frame with active := true } }
def handling : Wave := { demoWave with s0 := handlerSlot }
theorem witness_TrapsReturnsAndWakes_handler : ∃ c, MayClose (withWave handling) c ∧ (c.w.slot c.k).inHandler = true
    ∧ (c.w.slot c.k).frame.active = true ∧ (c.w.slot c.k).frame.waiting = false ∧ c.getA 1 = .ok 0x20000 :=
  ⟨_, closes_of rfl (by decide), by decide, by decide, by decide, rfl⟩
theorem witness_TrapsReturnsAndWakes_key : (0x20000 : DWord).getLsbD 63 = false ∧ (0x20000 : DWord).extractLsb' 52 12 = 0
    ∧ (0xF000_0000_0000_0010 : DWord).getLsbD 63 = true ∧ (0x0010_0000_0000_0000 : DWord).extractLsb' 52 12 ≠ 0 := by decide
theorem witness_MappingsAndControlRegisters : MayClose demo demoCtx ∧ Issues demo demoCtx plainShape true ∧ demoCtx.getA 1 = .ok 0x20000
    ∧ windowOf 0x20000 = some .glob ∧ windowOf 0xF000_0000_0000_0010 = some .priv ∧ ∃ v, demoCtx.csrSource 0x020 3 = .ok v :=
  ⟨demo_closes, demo_plain _, rfl, by decide, by decide, ok_of (by decide)⟩
theorem witness_MappingsAndControlRegisters_present : ∃ l, demo.leaf? 1 0x20000 = some l ∧ l.p = true ∧ l.size = 0 ∧ l.w = true :=
  ⟨_, rfl, by decide⟩
theorem witness_MappingsAndControlRegisters_absent : (demo.leaf? 1 0x90000).filter (·.p) = none ∧ demo.reservedLeaf 1 0x90000 = none := by
  decide
theorem witness_Placement : demo.nextLaunch 0 0 = none := by decide
theorem witness_Placement_binds : ∃ (s : State) (l : Launch) (e : Nat), s.nextLaunch 0 0 = some l ∧ s.freeEntry 0 0 = some e ∧ l.query = none :=
  ⟨{ demo with launches := [demoLaunch 0], waves := [] }, demoLaunch 0, 0, by decide +kernel, by decide, by decide⟩
theorem witness_Placement_preempts : ∃ (s : State) (l : Launch), s.launch? 1 = some l ∧ (s.unitOf l 0).any (·.state == .suspending) = true :=
  ⟨{ demo with launches := [demoLaunch 0], waves := [{ demoWave with state := .suspending }] }, demoLaunch 0, by decide, by decide⟩
/-! ### Links, ports, the mailbox, power -/

/-- A page of the host behind port 0. -/
def hostLeaf : Leaf := { demoLeaf 0x20000 false true with loc := 3, hau := false }
/-- The demo leg parked with an atomic on a word of a host's memory. -/
def farLeg : Leg :=
  { demoLeg with parked := true, sent := true, next := 0x1000C, count := 1,
                 closing := some (.atomic false .add .n32 4 (.v 6) [⟨1, 0x20000, [⟨physKey 3 0 0x1000, 4, some hostLeaf⟩], 7, 0⟩]) }
theorem witness_FarAnswers : ∃ (s : State) (w : Wave) (leg : Leg) (l : AtomLane), s.parkedLeg w.id .s0 = some (w, demoPath, leg)
    ∧ leg.out = [] ∧ leg.sent = true ∧ leg.stores = [] ∧ leg.fences = [] ∧ leg.failed = 0 ∧ leg.failBit = 0 ∧ leg.poisoned = 0
    ∧ w.stack = [] ∧ w.state ≠ .suspended ∧ leg.closing = some (.atomic false .add .n32 4 (.v 6) [l])
    ∧ (l.pieces.any fun q => match q.far? with | some u => u.1 == true | none => false) = true :=
  let w : Wave := { demoWave with s0 := { Slot.empty with path := some demoPath, leg := some farLeg } }
  ⟨withWave w, w, farLeg, ⟨1, 0x20000, [⟨physKey 3 0 0x1000, 4, some hostLeaf⟩], 7, 0⟩, by decide, by decide, by decide, by decide, by decide, by decide,
    by decide, by decide, by decide, by decide, by decide, by decide⟩
theorem witness_FarAnswers_read : ∃ (s : State) (w : Wave) (leg : Leg) (o : OutRead), s.wave? w.id = some w ∧ (w.slot .s0).leg = some leg
    ∧ w.state ≠ .suspended ∧ leg.sent = false ∧ leg.out.find? (fun x => !x.cxl && x.host == true
        && !(x.lanes.filter fun l => x.scalar.isSome || (2 : Mask).getLsbD l.1).isEmpty) = some o
    ∧ (o.lanes.filter fun l => o.scalar.isSome || (2 : Mask).getLsbD l.1) = [(1, 0x20004)] :=
  let leg : Leg := { demoLeg with out := [⟨true, 0, [(0, 0x20000), (1, 0x20004)], none, false⟩] }
  let w : Wave := { demoWave with s0 := { Slot.empty with path := some demoPath, leg := some leg } }
  ⟨withWave w, w, leg, _, by decide, by decide, by decide, by decide, rfl, by decide⟩
/-- An open leg that waits for a host's and for no other device's answer. -/
theorem witness_FarAnswers_waits : (let out : List OutRead := [⟨true, 0, [(0, 0x20000)], none, false⟩]
    (out.any fun o => !o.cxl && o.host == true) && !(out.any fun o => !o.cxl && o.host == false)
      && (out.find? fun x => !x.cxl && x.host == true && !(x.lanes.filter fun l => (2 : Mask).getLsbD l.1).isEmpty).isNone) = true := by decide
/-- A leg that waits for the answer to a store to CXL memory. -/
def cxlLeg : Leg :=
  { demoLeg with parked := true, out := [⟨false, 1, [(0, 0x20000)], none, true⟩],
                 stores := [⟨[⟨physKey 1 1 0x1000, 4, some cxlLeaf⟩], [1, 2, 3, 4], 1, 0x20000⟩] }
theorem witness_FarAnswers_cxl : ∃ (s : State) (w : Wave), s.waves = [w] ∧ (w.slot .s0).leg = some cxlLeg ∧ w.state ≠ .suspended
    ∧ (w.slot .s1).leg = none ∧ s.cxlLanes w cxlLeg 1 (· == lineOf (physKey 1 1 0x1000)) = [(0, 0x20000, none)] :=
  let w : Wave := { demoWave with s0 := { Slot.empty with path := some demoPath, leg := some cxlLeg } }
  ⟨withWave w, w, by decide, by decide, by decide, by decide, by decide⟩
theorem witness_FarAnswers_unlost : (demoLeg.out.find? fun x => x.host == true && !(x.lanes.filter fun _ => true).isEmpty) = none := by decide
theorem witness_FarAnswers_posted : ∃ (s : State) (x : Posted), (s.port .p0).posted.find? (·.addr == 8) = some x :=
  ⟨{ demo with port0 := { Port.reset with posted := [⟨8, [1], [], none⟩] } }, _, rfl⟩
theorem witness_FarAnswers_domain : ∃ (s : State) (e : Export), e ∈ s.exports ∧ e.base ≤ 0x20010 ∧ 0x20010 + 4 ≤ e.base + e.len
    ∧ s.lineFault (linesOf 0x20010 4) = none ∧ atomBytes .add .n32 = 4 := ⟨{ demo with exports := [⟨0x20000, 20⟩] }, ⟨0x20000, 20⟩, by decide⟩
theorem witness_PortRegisters : (demo.port .p0).rpgo = false ∧ (demo.port .p0).rlgo = false ∧ demo.mode = 1
    ∧ demo.portAllowed .p0 0 = true ∧ demo.partHasAsid 0 1 = true ∧ demo.owner ≠ 1 := by decide
/-- Port 0 has started a root launch of the record at 0x20000. -/
theorem witness_PortRegisters_root : (let s : State := { demo with port0 := { Port.reset with rlgo := true, rladdr := 0x20000, rlasid := 1 } }
    (s.port .p0).rlgo && s.mode == 1 && (s.readRecord 1 0x20000 256).isSome && isGlobal 0x20000) = true := by decide +kernel
theorem witness_PortRegisters_sound : demo.sound := (by decide : Memory.wf _ = true)
theorem witness_PortRegisters_window : ∃ (s : State) (asid : BitVec 16) (va : DWord) (ps : List Piece), s.apertureAddr .p0 0x20010 = some (asid, va)
    ∧ s.inboundBytes asid va .write 4 = .ok ps ∧ s.lineFault (pieceLines ps) = none ∧ va.toNat % 4 = 0 :=
  ⟨{ demo with port0 := { Port.reset with win := Port.reset.win.set 0 ⟨0, 1, true⟩ } }, 1, 0x20010, _, by decide, rfl, by decide, by decide⟩
theorem witness_PortRegisters_off : demo.apertureAddr .p0 0x10 = none := by decide
/-- A port whose record holds a request of an OP with its length. -/
def asked (op len : Nat) : State :=
  let b := leBytes op 2 ++ [0, 0] ++ leBytes len 4 ++ List.replicate (56 + len) 0
  { demo with port0 := { Port.reset with mbgo := true, mbrec := b } }
theorem witness_Mailbox : ∃ p, p = (asked 0x40 0).port .p0 ∧ p.mbgo = true ∧ p.op = 0x40 ∧ (asked 0x40 0).mode = 1
    ∧ (asked 0x40 0).lcs ≠ .scrapped ∧ recZero p.mbrec 2 2 = true ∧ recZero p.mbrec 8 56 = true ∧ recNat p.mbrec 4 4 = 0 := ⟨_, rfl, by decide⟩
theorem witness_Mailbox_done : runIdentity demo [] = .done demo demo.identity := rfl
theorem witness_Mailbox_refused : ∃ c, runWorldDestroy demo (leBytes 9 8) = .refused c ∧ c ≠ 0 := ⟨_, rfl, by decide⟩
theorem witness_ResetsAndPower : ∃ (s : State) (r : Sys2Proof.Machine.Part), s.waves = [] ∧ s.part? 0 = some r ∧ s.booting = true ∧ (1599 : BitVec 16).toNat < 1600
    ∧ 1600 ≤ (1600 : BitVec 16).toNat ∧ (1759 : BitVec 16).toNat < 1760 ∧ 1760 ≤ (1760 : BitVec 16).toNat :=
  ⟨{ demo with waves := [], booting := true }, demoPart, by decide⟩

/-! ## Witnesses of completion and of what lies outside the wave -/

/-! ### The Sieve -/

theorem sieve_issues (cls : BitVec 6) : Issues demo demoCtx (sieveShape cls) true :=
  ⟨rfl, rfl, rfl⟩
/-- XDQNT of 8-bit integers (code 7) to FP32 (code 1) with E8M0 scales; XHAD; and, in an allocation on the core, a stream
of XDEC and the entries of XTBL. -/
theorem witness_SieveInstructions_xdqnt : (∃ A B D, demoCtx.lanes (.v 2) 0 = .ok A ∧ demoCtx.lanes (.v 1) 0 = .ok B
    ∧ demoCtx.lanes (.v 0) 0 = .ok D ∧ A.vals.length = demoCtx.w.ww ∧ B.vals.length = demoCtx.w.ww ∧ D.vals.length = demoCtx.w.ww)
    ∧ (let f : LX := ⟨.v 6, .v 2, .v 1, .v 0, .rne, false, 0x4E0⟩
      (elemOf demoRegs.nf (f.param.extractLsb' 10 5)).isSome = true ∧ (elemOf demoRegs.nf (f.param.extractLsb' 5 5)).isSome = true
      ∧ pfield f.param 14 10 = 1 ∧ pfield f.param 9 5 = 7 ∧ pfield f.param 4 2 = 0) ∧ Roomy demoCtx demoCtx.w.ww :=
  ⟨⟨_, _, _, rfl, rfl, rfl, by decide, by decide, by decide⟩, by decide, ⟨by decide, by decide⟩⟩
def alloced : State := { demo with cores := [{ Core.reset 0 with allocs := [⟨1, 0, 4096⟩] }], launches := [demoLaunch 0] }
def allocCtx : Ctx := { demoCtx with s := alloced }
theorem witness_SieveInstructions_alloc : (∀ cls, Issues alloced allocCtx (sieveShape cls) true)
    ∧ (alloced.core 0).sieveBusy = false ∧ (alloced.core 0).sieveGrant = none ∧ (alloced.core 0).sieveQ = []
    ∧ (∀ l ∈ allocCtx.active, (allocCtx.streamField (8 * l) 8).toOption.isSome = true)
    ∧ (∀ j ∈ List.range 8, ((allocCtx.allocBytes (4 * j) 4).map fun ps => alloced.readFault ps) = some none) :=
  ⟨fun _ => ⟨rfl, rfl, rfl⟩, by decide, by decide, by decide, by decide +kernel⟩
theorem witness_SieveInstructions_waits : ∃ b x, (let s := { alloced with cores := [{ Core.reset 0 with
      allocs := [⟨1, 0, 4096⟩], bars := [(3, ⟨some 1, false, 1, 1, 0⟩)] }] }
    s.heldBar demoWave 3 = some (b, x) ∧ x.ph = false ∧ ((s.core 0).sieveAsked ⟨0, .s0, 0⟩) = false) := ⟨_, _, rfl, by decide, by decide⟩
/-- A wave of 32 lanes quantises onto the narrow page. -/
def wideRegs : Regs := let r := Regs.start 32; { r with a := r.a.set 1 0x20000 }
def wideWave : Wave :=
  { wordWave 0 1 0 with
      ww := 32, asid := 1, regs := wideRegs, state := .running, started := true,
      s0 := { Slot.empty with path := some ⟨0x10000, Mask.below 32, Mask.below 32, 0, none, none⟩,
                              leg := some (Leg.fresh 0x10000 (Mask.below 32) wideRegs 0) } }
def wide : State := { narrow with waves := [wideWave] }
def wideCtx : Ctx := ⟨wide, wideWave, .s0, ⟨0x10000, Mask.below 32, Mask.below 32, 0, none, none⟩,
  Leg.fresh 0x10000 (Mask.below 32) wideRegs 0, 0x10000⟩
/-- XQNT.e4m3 of v2 to [a1], blocks of 16: two groups. -/
theorem witness_SieveInstructions_xqnt : (∀ cls, Issues wide wideCtx (sieveShape cls) true) ∧ (wide.core 0).sieveBusy = false
    ∧ (wide.core 0).sieveGrant = none ∧ (wide.core 0).sieveQ = [] ∧ wideCtx.getA ((0x8 : Word).extractLsb' 3 4) = .ok 0x20000
    ∧ (∃ A, wideCtx.lanes (.v 2) 0 = .ok A) ∧ windowOf 0x20000 = some .glob
    ∧ ∃ l p, wide.leaf? 1 0x20000 = some l ∧ l.p = true ∧ l.w = true ∧ l.fmt ≠ 0 ∧ l.scl = 0 ∧ l.layout (wide.nft 0) = some p
      ∧ (quantForm 0 false p).1 = 16 ∧ wideCtx.wholeGroups (quantForm 0 false p).2.2 = [0, 1] :=
  ⟨fun _ => ⟨rfl, rfl, rfl⟩, by decide, by decide, by decide, rfl, ⟨_, rfl⟩, by decide, _, _, rfl, by decide, by decide, by decide,
    by decide, rfl, by decide, by decide⟩

/-! ### Tiles, columns, cairns -/

/-- A tile load that a fence held, whose source the data page holds, and the same load with its rows. -/
def loadCmd : BasaltCmd := ⟨9, 0, 0, 1, .load (.o 3) 0x20000 64, none, false, false, none, false, [], 0, false, (0, 0, 0), [], []⟩
theorem witness_TileCommands_load : (let s : State := { tiled with basalt := [loadCmd] }
    decide (s.basalt.find? (·.tok == loadCmd.tok) = some loadCmd) && s.tokensDone loadCmd.after && !s.conflictBefore loadCmd
      && loadCmd.cmd.isLoad && loadCmd.data.isNone && s.port0.posted.isEmpty && s.port1.posted.isEmpty
      && ((loadCmd.view s).readLoad loadCmd (s.cmdPart loadCmd)).toOption.isSome) = true := by decide +kernel
theorem witness_TileCommands_finish : ∃ (s : State) (q : BasaltCmd) (t : Tile) (a st : DWord) (b : List Byte),
    s.basalt.find? (·.tok == q.tok) = some q ∧ q.susp = none ∧ q.done = false ∧ q.started = true ∧ q.cmd = .load t a st
      ∧ q.data = some (b, false) :=
  let q : BasaltCmd := { loadCmd with data := some (leBytes 5 1024, false), started := true }
  ⟨{ tiled with basalt := [q] }, q, _, _, _, leBytes 5 1024, by decide +kernel, rfl, rfl, rfl, rfl, rfl⟩
/-- A second command that conflicts with the first. -/
theorem witness_TileCommands_conflict : (let q : BasaltCmd := { loadCmd with tok := 10 }
    ({ tiled with basalt := [loadCmd, q] } : State).conflictBefore q) = true := by decide

/-- The world with a column of component 0 on the data page, and a wave whose v10 and v11 hold the entity's handle. -/
def columned : World := { peopled with strata := [⟨0, [(0, 0x20000)], [some 0], 0⟩] }
def handleRegs : Regs :=
  { demoRegs with low := (demoRegs.low.set 10 [⟨(mkHandle 3 1 0).lo, 4⟩]).set 11 [⟨(mkHandle 3 1 0).hi, 4⟩] }
def handleWave : Wave :=
  { demoWave with rows := some ⟨3, 0, 0, none⟩, regs := handleRegs,
                  s0 := { Slot.empty with path := some demoPath, leg := some (Leg.fresh 0x10000 (Mask.below 4) handleRegs 0) } }
def columns : State := { demo with worlds := [columned], waves := [handleWave] }
def columnCtx : Ctx := ⟨columns, handleWave, .s0, demoPath, Leg.fresh 0x10000 (Mask.below 4) handleRegs 0, 0x10000⟩
/-- Is the element of a lane's row on a page that takes the access? -/
def elementOk (r : RowRef) (u : Use) : Bool := match columnAt r 0 0 with
  | none => false
  | some (a, n) => match columns.translate 1 a (min 4 n) u with
    | .ok p => (columns.readFault [p]).isNone
    | .error _ => false
theorem witness_ColumnAccess_completes : (∀ x ∈ [laneShape, columnShape 1, columnShape 2], Issues columns columnCtx x true)
    ∧ (∀ id, columnCtx.s.applying id = false) ∧ columnCtx.w.rows = some ⟨3, 0, 0, none⟩ ∧ Roomy columnCtx (2 * columnCtx.w.ww)
    ∧ columnCtx.s.systemOf columnCtx.w = none ∧ (∀ w ∈ columnCtx.rowWorlds, ewBad (w.size 0) 0 = false)
    ∧ (∃ v, columnCtx.lanes (.v 0) 0 = .ok v ∧ v.vals.length = 4
      ∧ ∀ l ∈ columnCtx.active, elementOk (refAt (v.vals.map (columnCtx.rowRef ⟨3, 0, 0, none⟩)) l) .read = true
        ∧ elementOk (refAt (v.vals.map (columnCtx.rowRef ⟨3, 0, 0, none⟩)) l) .write = true)
    ∧ (∃ h, columnCtx.lanes64 (.v 10) 0 false = .ok h ∧ (∀ w ∈ columnCtx.handleWorlds h.vals, ewBad (w.size 0) 0 = false)
      ∧ ∀ l ∈ columnCtx.active, elementOk (refAt (h.vals.map columnCtx.handleRef) l) .read = true
        ∧ elementOk (refAt (h.vals.map columnCtx.handleRef) l) .write = true
        ∧ (refAt (h.vals.map columnCtx.handleRef) l).bad = false) := by
  refine ⟨?_, by decide, by decide, ⟨by decide, by decide⟩, by decide, by decide, ⟨_, rfl, by decide, by decide⟩, ⟨_, rfl, by decide, by decide⟩⟩
  intro x h
  simp only [List.mem_cons, List.not_mem_nil, or_false] at h
  rcases h with rfl | rfl | rfl <;> exact ⟨rfl, by decide, by decide⟩
/-- R287: QLDC reads the word at the row. R285: QGEN and QRES. -/
theorem test_qldcH_word : ((match columnCtx.qldcH { lq with dst := .v 6, sa := .v 10 } with
    | .ok c => some ((c.oldDst (.v 6)).expand.map BitVec.toNat)
    | .error _ => none)) = some [0, 0, 0, 0] := by decide

/-- A cairn of that world that deletes the entity and moves a new one into its row. -/
def dueCairn : Cairn := ⟨0, .s0, 0, false, [], [], 0, none, none, some 1, []⟩
def dueWorld : World :=
  match ((columns.createOne handleWave none 3 0).1.queueLanes handleWave none .del [(0, mkHandle 3 1 0)]).world? 3 with
  | some w => { w with cairns := [dueCairn], stage := 1 }
  | none => columned
def due : State := { columns with worlds := [dueWorld], readySeq := 2 }
theorem witness_Cairns_completes : (let x := due.cairnGroups dueWorld dueCairn
    due.cairnReady dueWorld dueCairn && !dueCairn.applying && dueCairn.stopped.isNone
      && x.1.strata.any (fun t => !(due.stratumRows x.1 t x.2).2.isEmpty)
      && x.1.strata.all fun t => (due.stratumRows x.1 t x.2).2.all fun y => t.comps.all fun k => k.1 != y.2.1
        || (match due.leaf? 1 ((k.2 + BitVec.ofNat 64 (x.1.esz.getD k.1 0 * y.1)) &&& ~~~0xFFFF) with
          | some l => l.p && l.w
          | none => false)) = true := by decide +kernel
theorem test_cairnApply_completes : ((afterOf due (.cairnApply 3)).bind fun t => (t.world? 3).map fun w =>
    (w.cairn.toNat, w.cairns.length, w.strata.map (·.rows.length))) = some (1, 0, [1]) := by decide +kernel

/-! ### Placement -/

/-- The demo wave under its launch, about to be suspended, with its save area on the data page. -/
def goingWave : Wave := { demoWave with state := .suspending, spb := 0x20000, rb := 16384 }
def going : State := { demo with launches := [{ demoLaunch 0 with next := 1 }], waves := [goingWave] }
theorem witness_Placement_suspends : going.launch? 1 = some { demoLaunch 0 with next := 1 } ∧ going.unitOf { demoLaunch 0 with next := 1 } 0 = [goingWave]
    ∧ goingWave.s0.settling = false ∧ goingWave.s1.settling = false ∧ goingWave.hamper = none ∧ goingWave.stack = []
    ∧ going.porterOf 0 = [] ∧ going.basaltOf 0 = [] ∧ goingWave.regs.imgs.length = 1
    ∧ (going.frameBase goingWave + 17408 * goingWave.regs.imgs.length ≤ 0x30000) ∧ (going.waves.map (·.id)).Nodup := by decide
theorem witness_Placement_saveArea (va : DWord) (n : Nat) (lo : 0x20000 ≤ va.toNat) (hi : va.toNat < 0x30000) :
    ∃ q, going.savePiece goingWave va n true = .ok q ∧ going.deadFault [q] = none := by
  have e : va >>> 16 = 2 := by
    apply BitVec.eq_of_toNat_eq
    simp only [BitVec.toNat_ushiftRight, Nat.shiftRight_eq_div_pow]
    change va.toNat / 65536 = 2
    omega
  have h : going.leaf? 1 va = some (demoLeaf 0x20000 false true) := by
    simp [State.leaf?, going, demo, demoLeaf, Leaf.covers, e]
  exact ⟨⟨(demoLeaf 0x20000 false true).key va, n, some (demoLeaf 0x20000 false true)⟩, by
    unfold State.savePiece
    rw [show going.leaf? goingWave.asid va = _ from h]
    rfl, rfl⟩
/-- That wave with its saved unit. -/
def goneWave : Wave := { goingWave with state := .suspended, spl := 0x30000 }
def goneUnit : SavedUnit := ⟨1, 0, [0], 0, [], [], []⟩
def gone : State := { going with waves := [goneWave], units := [goneUnit] }
theorem witness_Placement_fits : gone.wave? 0 = some goneWave ∧ gone.savedUnit 0 = some goneUnit
    ∧ gone.launch? 1 = some { demoLaunch 0 with next := 1 } ∧ gone.part? 0 = some demoPart ∧ goneUnit.waves = [0]
    ∧ demoPart.cpmask.getLsbD 0 = true ∧ (demoLaunch 0).lr.all = false := by decide
theorem witness_Placement_fits_core : (gone.awaitsRebind goneWave && gone.rebindFits goneWave
    && decide (gone.nextWaiting 0 = some (.wave 0)) && (demoLaunch 0).lr.prod == 0
    && (gone.seatUnits { demoLaunch 0 with next := 1 } 0 true (gone.rebindPlan { demoLaunch 0 with next := 1 } goneUnit [0] [0])).isSome && (gone.unitMisfit { demoLaunch 0 with next := 1 } goneUnit 0).isNone) = true := by
  decide +kernel
/-- With a partition of another cluster pair and a unit that no core holds. -/
theorem witness_Placement_misfit : (let s : State := { gone with units := [{ goneUnit with size := 10000000 }] }
    s.awaitsRebind goneWave && !s.rebindFits goneWave && decide ((s.heldRecs.filter (·.part == 0)).length < 4096)) = true := by decide +kernel

/-! ### Far answers, faults, Lookout -/

/-- Two lanes of an atomic on host memory, of which one gets no answer: the other's is still awaited. -/
def farLane (l : Nat) : AtomLane := ⟨l, 0x20000, [⟨physKey 3 0 0x1000, 4, some hostLeaf⟩], 7, 0⟩
theorem witness_FarAnswers_some : (∀ l ∈ [farLane 0, farLane 1], (l.pieces.any fun q => q.far?.isSome) = true)
    ∧ (2 : Mask).getLsbD 0 = false ∧ (maskOf [1]).getLsbD 0 = false := by decide
/-- A domain page, and the demo leg parked with a store on it. -/
def domainLeaf : Leaf := { demoLeaf 0x20000 false true with loc := 2, dev := 1, hau := false }
def domainLeg : Leg :=
  { demoLeg with parked := true, next := 0x1000C, count := 1,
                 out := [⟨false, 1, [(0, 0x20000)], none, false⟩],
                 stores := [⟨[⟨physKey 2 1 0x1000, 4, some domainLeaf⟩], [1, 2, 3, 4], 1, 0x20000⟩] }
theorem witness_FarAnswers_store : ∃ (s : State) (w : Wave) (leg : Leg) (o : OutRead), s.wave? w.id = some w ∧ (w.slot .s0).leg = some leg
    ∧ leg.sent = false ∧ w.state ≠ .suspended ∧ leg.out.find? (fun x => !x.cxl && x.host == false
        && !(x.lanes.filter fun l => x.scalar.isSome || (1 : Mask).getLsbD l.1).isEmpty) = some o :=
  let w : Wave := { demoWave with s0 := { Slot.empty with path := some demoPath, leg := some domainLeg } }
  ⟨withWave w, w, domainLeg, _, by decide, by decide, by decide, by decide, rfl⟩
/-- A wave between legs whose next instruction stands on a page of another domain. -/
theorem witness_FarAnswers_fetch : ∃ (s : State) (w : Wave), s.wave? w.id = some w ∧ (w.slot .s0).path = some demoPath
    ∧ (w.slot .s0).leg = none ∧ w.issues .s0 = true
    ∧ (s.translate w.asid demoPath.pc 4 .fetch).toOption.bind Piece.far? = some (false, 1) :=
  let w : Wave := { demoWave with s0 := { Slot.empty with path := some demoPath } }
  ⟨{ withWave w with leaves := [{ demoLeaf 0x10000 true false with loc := 2, dev := 1 }] }, w, by decide, by decide, by decide, by decide,
    by decide⟩
theorem witness_FarAnswers_fetch_leg : ∃ (s : State) (w : Wave), s.wave? w.id = some w ∧ (w.slot .s0).leg = some demoLeg
    ∧ demoLeg.out = [] ∧ demoLeg.sent = false ∧ w.issues .s0 = true
    ∧ (s.translate w.asid demoLeg.next 4 .fetch).toOption.bind Piece.far? = some (false, 1) :=
  ⟨{ demo with leaves := [{ demoLeaf 0x10000 true false with loc := 2, dev := 1 }] }, demoWave, by decide, by decide, by decide, by decide,
    by decide, by decide⟩
/-- The first posted write of an address that is no fault record. -/
theorem witness_FarAnswers_none : ((demo.port .p0).posted.find? (fun x => x.addr == 8 && x.fq.isNone)) = none := by decide

theorem witness_FaultsAreTaken_room : demoWave.residentSlots + demoWave.callSlots 0 demoPath.p (fun _ => 0x10000)
    + (demoWave.slot .s1).resv ≤ demoWave.rb ∧ demoPath.p = Mask.below demoWave.ww ∧ demoWave.unread = false := by decide

def demoSet : FrameSet := ⟨1, 0x20000, 0, 0, 0, 0, 16, 16, 1, 0, 1, [256]⟩
/-- The head with a latched set whose bands start, and with the band at work. -/
def latchedHead (n : Nat) (f : Option FrameSet) : Head := { demoHead with latches := [⟨1, f, 256, none, n, false⟩] }
theorem witness_LookoutEvents_start : ∀ f ∈ [none, some demoSet, some { demoSet with pose := 0x20000 }],
    ∃ l, (headed (latchedHead 0 f)).head? 0 = some (latchedHead 0 f) ∧ (latchedHead 0 f).latches = [l] ∧ l.set = f
      ∧ l.bands < (latchedHead 0 f).bandCount ∧ (l.n - 1) * (latchedHead 0 f).cfg.vtotal + 16 * l.bands ≤ (latchedHead 0 f).line := by
  intro f h
  simp only [List.mem_cons, List.not_mem_nil, or_false] at h
  rcases h with rfl | rfl | rfl <;> exact ⟨_, rfl, rfl, rfl, by decide, by decide⟩
theorem witness_LookoutEvents_pose : ∃ b, (headed (latchedHead 0 (some demoSet))).lookRead 1 0x20010 16 = .ok b ∧ recNat b 4 4 = 0 :=
  ⟨_, rfl, by decide⟩
theorem witness_LookoutEvents_work : (bandHead false).inWork = some ⟨1, 0, 0, false, 0, 0⟩ ∧ (bandHead true).inWork = none
    ∧ demoHead.inWork = none ∧ ∃ e, demo.lookRead 1 0x90000 1 = .error e := ⟨by decide, by decide, by decide, error_of (by decide)⟩
/-- A tier-1 band of a head of one pixel, whose row comes out. -/
def dotHead : Head := { latchedHead 1 none with cfg := { demoHead.cfg with hact := 1, vact := 1 } }
theorem witness_LookoutEvents_rows : ((bandRows dotHead 0 (BandCtx.tier1 ⟨headed dotHead, dotHead, 1, { demoSet with rw := 1, rh := 1, motion := 0x20000 }, 256, 0, 0⟩)).toOption.map
    (·.length)) = some 1 := by decide +kernel

/-! ### Requests -/

/-- The partition with a range of memory of its own. -/
def rangedPart : Sys2Proof.Machine.Part := { demoPart with ranges := [⟨0x100000, 0x100000, 0, 0, false⟩] }
/-- Port 0 has started a request with a body, while no wave runs. -/
def bodied (op : Nat) (body : List Byte) : State :=
  { demo with waves := [], cur := none, parts := State.reset.parts.set 0 (some rangedPart),
              port0 := { Port.reset with
                mbgo := true, mbrec := leBytes op 2 ++ [0, 0] ++ leBytes body.length 4 ++ List.replicate 56 0 ++ body } }
theorem asked_of {s : State} {op n : Nat} (h : (s.port .p0).mbgo = true ∧ s.mode = 1 ∧ s.lcs ≠ .scrapped ∧ s.busyBy = none
    ∧ (s.port .p0).op = op ∧ opLength op = some n ∧ headerOk (s.port .p0).mbrec n = true) : Asked s .p0 op :=
  ⟨h.1, h.2.1, h.2.2.1, .inl h.2.2.2.1, h.2.2.2.2.1, _, h.2.2.2.2.2.1, h.2.2.2.2.2.2⟩

/-- PART_SET of partition 1: pairs 1, ASIDs 20 to 23, port 0, one way. -/
def partBody : List Byte :=
  leBytes 1 64 ++ leBytes 2 8 ++ leBytes 0 2 ++ leBytes 20 2 ++ leBytes 4 2 ++ [1, 1, 0] ++ List.replicate (448 - 81) 0
theorem witness_EveryRequestCompletes_partSet : Asked (bodied 1 partBody) .p0 1 ∧ partOk partBody = true
    ∧ (bodied 1 partBody).partOverlap 1 (parsePart partBody) = false
    ∧ (bodied 1 partBody).partInUse (((bodied 1 partBody).part? 1).getD Sys2Proof.Machine.Part.none) (parsePart partBody) = false :=
  ⟨asked_of (n := 448) (by decide +kernel), by decide +kernel, by decide +kernel, by decide +kernel⟩
theorem witness_EveryRequestCompletes_partRelease : Asked (bodied 2 (leBytes 0 8)) .p0 2 ∧ recZero (leBytes 0 8) 1 7 = true :=
  ⟨asked_of (n := 8) (by decide), by decide⟩
/-- The body of a MAP, UNMAP or PROTECT of one page of partition 0. -/
def mapBody (va entry : Nat) : List Byte :=
  leBytes 0 2 ++ leBytes 1 2 ++ leBytes 0 4 ++ leBytes va 8 ++ leBytes 65536 8 ++ leBytes entry 8 ++ List.replicate 32 0
/-- MAP of a new page, and of the data page to another place. -/
theorem witness_EveryRequestCompletes_map : ∀ va ∈ [0x80000, 0x20000], let m := parseMap (mapBody va 0x100007)
    let s := bodied 0x10 (mapBody va 0x100007)
    Asked s .p0 0x10 ∧ mapBodyOk (mapBody va 0x100007) m = true ∧ m.entry.getLsbD 1 = true
      ∧ (m.entry &&& 0x000F_FFFF_FFFF_0000).toNat + m.len.toNat ≤ 2 ^ 52 ∧ s.part? m.part = some rangedPart
      ∧ rangedPart.hasAsid m.asid = true
      ∧ (∀ l ∈ m.leaves, l.illegal = false ∧ rangedPart.allowsLeaf l = true ∧ synonymOf (replaceLeaves s.leaves m.leaves) l = false)
      ∧ (∀ l ∈ s.leaves, l.size = m.size ∨ l.overlaps m.asid m.va m.len = false) ∧ m.size = 0 ∧ s.shootHeld m.asid = false
      ∧ ((m.leaves.filterMap fun l => (s.movedBy l).map fun x => (x, l)).isEmpty = (va == 0x80000)) := by
  intro va h
  simp only [List.mem_cons, List.not_mem_nil, or_false] at h
  rcases h with rfl | rfl <;> exact ⟨asked_of (n := 64) (by decide), by decide⟩
theorem test_map_completes : (afterOf (bodied 0x10 (mapBody 0x80000 0x100007)) (.map .p0)).map (fun t =>
    (t.port0.mbresult, t.port0.mbstate, t.leaves.length)) = some (0, 1, 4) := by decide +kernel
/-- UNMAP to nothing and to reserved pages; PROTECT. -/
theorem witness_EveryRequestCompletes_unmap : ∀ e ∈ [0, 0x6], let m := parseMap (mapBody 0x20000 e)
    let s := bodied 0x11 (mapBody 0x20000 e)
    Asked s .p0 0x11 ∧ mapBodyOk (mapBody 0x20000 e) m = true ∧ s.part? m.part = some rangedPart ∧ rangedPart.hasAsid m.asid = true
      ∧ s.shootHeld m.asid = false ∧ (m.entry = 0 ∨ (m.entry.getLsbD 1 = true ∧ m.entry.getLsbD 0 = false ∧ ∀ l ∈ m.leaves, l.illegal = false)) := by
  intro e h
  simp only [List.mem_cons, List.not_mem_nil, or_false] at h
  rcases h with rfl | rfl <;> exact ⟨asked_of (n := 64) (by decide), by decide⟩
def protectState : State := { bodied 0x12 (mapBody 0x80000 0x4) with leaves := [{ demoLeaf 0x80000 true false with pa := 0x100000 }] }
theorem witness_EveryRequestCompletes_protect : let m := parseMap (mapBody 0x80000 0x4)
    let e := leafOf m.entry m.asid m.size m.va
    let all := protectState.leaves.map fun l => if l.p && l.within m.asid m.va m.len then
      { l with w := e.w, x := e.x, cw := e.cw, fmt := e.fmt, blk := e.blk, scl := e.scl } else l
    Asked protectState .p0 0x12 ∧ mapBodyOk (mapBody 0x80000 0x4) m = true ∧ e.pa = 0 ∧ e.loc = 0 ∧ e.dev = 0
      ∧ formatOk e.fmt e.blk e.scl = true ∧ protectState.part? m.part = some rangedPart ∧ rangedPart.hasAsid m.asid = true
      ∧ protectState.shootHeld m.asid = false
      ∧ ∀ l ∈ all, l.p = true → l.within m.asid m.va m.len = true → rangedPart.allowsLeaf l = true ∧ synonymOf all l = false :=
  ⟨asked_of (n := 64) (by decide), by decide⟩
def worldBody : List Byte :=
  [3, 0] ++ leBytes 1 2 ++ leBytes 0 4 ++ leBytes 0x4000_0000 8 ++ leBytes 0x4000_0000 8 ++ leBytes 0 8 ++ List.replicate 256 4
theorem witness_EveryRequestCompletes_worldCreate : let s := bodied 0x20 worldBody
    Asked s .p0 0x20 ∧ recNat worldBody 1 1 ≤ 7 ∧ recZero worldBody 4 4 = true ∧ recZero worldBody 24 8 = true
      ∧ (recDWord worldBody 8).toNat % 2 ^ 30 = 0 ∧ recDWord worldBody 16 ≠ 0 ∧ (recDWord worldBody 16).toNat % 2 ^ 30 = 0
      ∧ (∀ e ∈ (List.range 256).map fun i => recNat worldBody (32 + i) 1, e ∈ [0, 1, 2, 4, 8, 16])
      ∧ s.partHasAsid 0 1 = true ∧ s.world? 3 = none ∧ (∀ l ∈ s.leaves, l.overlaps 1 0x4000_0000 0x4000_0000 = false)
      ∧ s.meetsRegion 1 0x4000_0000 0x4000_0000 = false :=
  ⟨asked_of (n := 288) (by decide +kernel), by decide +kernel⟩
theorem witness_EveryRequestCompletes_worldDestroy : let s := { bodied 0x21 (leBytes 3 8) with worlds := [demoWorld] }
    Asked s .p0 0x21 ∧ recNat (leBytes 3 8) 1 1 ≤ 7 ∧ recZero (leBytes 3 8) 2 6 = true ∧ s.worldOf 0 3 = some demoWorld
      ∧ demoWorld.views = [] ∧ demoWorld.cairns = [] ∧ s.launches = [] := ⟨asked_of (n := 8) (by decide), by decide +kernel⟩
/-- HEAD_CONFIG of head 0 (physical, one lane) and of head 4 (virtual), enabled. -/
def headBody (n nbuf lanes : Nat) : List Byte :=
  [BitVec.ofNat 8 n, 1, 0, 1] ++ leBytes 1 2 ++ leBytes 16 2 ++ leBytes 16 2 ++ leBytes 24 2 ++ [8, BitVec.ofNat 8 nbuf] ++ leBytes 0 2
    ++ leBytes 1000000 4 ++ leBytes 0 4 ++ leBytes 0x20000 8 ++ leBytes 0x20000 8 ++ [BitVec.ofNat 8 lanes] ++ List.replicate 23 0
def headState (b : List Byte) : State :=
  { bodied 0x30 b with parts := State.reset.parts.set 0 (some { rangedPart with heads := 0x11 }) }
theorem witness_EveryRequestCompletes_headConfig : ∀ x ∈ [(0, 0, 1), (4, 2, 0)], let b := headBody x.1 x.2.1 x.2.2
    let c := parseHead b
    Asked (headState b) .p0 0x30 ∧ headOk b (recNat b 0 1) c = true
      ∧ c.share + (((headState b).heads.filter fun h => h.enabled && h.num != recNat b 0 1).map (·.cfg.share)).sum ≤ 64
      ∧ (headState b).part? c.part = some { rangedPart with heads := 0x11 } ∧ { rangedPart with heads := 0x11 }.hasAsid c.asid = true
      ∧ ({ rangedPart with heads := 0x11 } : Sys2Proof.Machine.Part).heads.getLsbD (recNat b 0 1) = true
      ∧ (headState b).head? (recNat b 0 1) = none := by
  intro x h
  simp only [List.mem_cons, List.not_mem_nil, or_false] at h
  rcases h with rfl | rfl <;> exact ⟨asked_of (n := 64) (by decide), by decide⟩
theorem witness_EveryRequestCompletes_identity : Asked (bodied 0x40 []) .p0 0x40 ∧ Asked (bodied 0x41 (leBytes 7 32)) .p0 0x41 :=
  ⟨asked_of (n := 0) (by decide), asked_of (n := 32) (by decide)⟩
/-- LIFECYCLE to a state that asks the manufacturer's signature: the clause rests on an uninterpreted check, and so does FW_UPDATE's. -/
def lifeBody (t : Nat) : List Byte := leBytes t 3744
theorem witness_EveryRequestCompletes_lifecycle : Asked (bodied 0x50 (lifeBody 4)) .p0 0x50 ∧ recZero (lifeBody 4) 1 7 = true
    ∧ recZero (lifeBody 4) 2428 4 = true ∧ (transition (bodied 0x50 (lifeBody 4)).lcs (lifeOf 4)).isSome = true
    ∧ ((lifeBody 4).drop 2432).all (· == 0) = true :=
  ⟨asked_of (n := 3744) (by decide +kernel), by decide +kernel⟩
def updateBody : List Byte := leBytes 0x20000 8 ++ leBytes 64 4 ++ List.replicate 52 0
theorem witness_EveryRequestCompletes_fwUpdate : Asked (bodied 0x60 updateBody) .p0 0x60 ∧ 1 ≤ recNat updateBody 8 4
    ∧ recNat updateBody 8 4 ≤ 67108864 ∧ recZero updateBody 12 52 = true ∧ (bodied 0x60 updateBody).fwMin = 0 :=
  ⟨asked_of (n := 64) (by decide), by decide⟩
def nameBody : List Byte := leBytes 0x20000 8 ++ leBytes 1 2 ++ leBytes 0 6
theorem witness_EveryRequestCompletes_suspend : ∀ op ∈ [0x70, 0x71], let s := { bodied op nameBody with launches := [demoLaunch 0] }
    Asked s .p0 op ∧ suspendBodyOk nameBody = true ∧ s.namedLaunch nameBody = some (demoLaunch 0) ∧ s.waves = [] := by
  intro x h
  simp only [List.mem_cons, List.not_mem_nil, or_false] at h
  rcases h with rfl | rfl <;> exact ⟨asked_of (n := 16) (by decide), by decide⟩
theorem witness_EveryRequestCompletes_else : ((bodied 0x80 []).port .p0).op = 0x80 ∧ opLength ((bodied 0x99 []).port .p0).op = none
    ∧ ((bodied 0x99 []).port .p0).op ≠ 0x80 ∧ (bodied 0x99 []).busyBy ≠ some PortId.p0.other := by decide

end Sys2Proof.Tests
end

section
/-! The scalar instructions on two sources (spec/07_arith_instr.md): what such an instruction completes with, the values of
division, remainder and the shifts by a register (R124, R125), and the conditions and words of SSET (R129). -/

namespace Sys2Proof.Machine

/-! ## Issue of an instruction on two sources -/

/-- A scalar instruction with two readable sources completes with `v` pending in sD when its function gives `v`. The `exec`
of such an instruction is this issue by definition, so the lemma also states what `exec` answers. -/
theorem State.issue_scalar2 {s : State} {c : Ctx} {m : Bool} {d a b : SReg} {x y v : Word} {g : Word → Word → Word}
    (hs : Issues s c plainShape m) (ha : c.getS a = .ok x) (hb : c.getS b = .ok y) (hv : g x y = v) :
    s.issue plainShape m (Ctx.scalar2 d a b g) = .next ((c.setS d v).advance plainShape m) := by
  have hbody : Ctx.scalar2 d a b g c = .ok (c.setS d (g x y)) := by
    simp only [Ctx.scalar2, ha, hb]
    rfl
  rw [State.issue_ready hs hbody, hv]

/-! ## Division and remainder (R124) -/

@[simp] theorem divS_zero (x : Word) : divS x 0 = 0xFFFF_FFFF := rfl
@[simp] theorem divN_zero (x : Word) : divN x 0 = 0xFFFF_FFFF := rfl
@[simp] theorem remS_zero (x : Word) : remS x 0 = x := rfl
@[simp] theorem remN_zero (x : Word) : remN x 0 = x := rfl

theorem divS_of_ne_zero (x : Word) {y : Word} (hy : y ≠ 0) : divS x y = BitVec.ofInt 32 (x.toInt.tdiv y.toInt) := by
  rw [divS, if_neg hy]
  apply BitVec.eq_of_toInt_eq
  rw [BitVec.toInt_sdiv, BitVec.toInt_ofInt]

theorem divN_of_ne_zero (x : Word) {y : Word} (hy : y ≠ 0) : divN x y = BitVec.ofNat 32 (x.toNat / y.toNat) := by
  rw [divN, if_neg hy, ← BitVec.toNat_udiv, BitVec.ofNat_toNat, BitVec.setWidth_eq]

theorem remS_of_ne_zero (x : Word) {y : Word} (hy : y ≠ 0) :
    remS x y = BitVec.ofInt 32 (x.toInt - y.toInt * x.toInt.tdiv y.toInt) := by
  rw [remS, if_neg hy, ← Int.tmod_def, ← BitVec.toInt_srem, BitVec.ofInt_toInt]

theorem remN_of_ne_zero (x : Word) {y : Word} (hy : y ≠ 0) : remN x y = BitVec.ofNat 32 (x.toNat % y.toNat) := by
  rw [remN, if_neg hy, ← BitVec.toNat_umod, BitVec.ofNat_toNat, BitVec.setWidth_eq]

/-! ## Shifts by a register (R125) -/

theorem shlS_eq_mul_pow (x y : Word) : shlS x y = BitVec.ofNat 32 (x.toNat * 2 ^ y.toNat) := by
  apply BitVec.eq_of_toNat_eq
  rw [shlS, BitVec.toNat_shiftLeft, BitVec.toNat_ofNat, Nat.shiftLeft_eq]

theorem shrS_eq_div_pow (x y : Word) : shrS x y = BitVec.ofNat 32 (x.toNat / 2 ^ y.toNat) := by
  rw [← Nat.shiftRight_eq_div_pow, ← BitVec.toNat_ushiftRight, BitVec.ofNat_toNat, BitVec.setWidth_eq, shrS]

theorem sraS_eq_div_pow (x y : Word) : sraS x y = BitVec.ofInt 32 (x.toInt / 2 ^ y.toNat) := by
  have hpow : ((2 ^ y.toNat : Nat) : Int) = 2 ^ y.toNat := Int.natCast_pow 2 y.toNat
  rw [← hpow, ← Int.shiftRight_eq_div_pow, ← BitVec.toInt_sshiftRight, BitVec.ofInt_toInt, sraS]

theorem shlS_of_le (x : Word) {y : Word} (hy : 32 ≤ y.toNat) : shlS x y = 0 := BitVec.shiftLeft_eq_zero hy

theorem shrS_of_le (x : Word) {y : Word} (hy : 32 ≤ y.toNat) : shrS x y = 0 := BitVec.ushiftRight_eq_zero hy

/-- Every bit is the sign bit once the count leaves no bit of the value. -/
theorem sraS_of_le (x : Word) {y : Word} (hy : 32 ≤ y.toNat) : sraS x y = if x.getLsbD 31 then 0xFFFF_FFFF else 0 := by
  rw [sraS, show x.getLsbD 31 = x.msb from rfl]
  cases hsign : x.msb with
  | false =>
    rw [BitVec.sshiftRight_eq_of_msb_false hsign, BitVec.ushiftRight_eq_zero hy]
    rfl
  | true =>
    rw [BitVec.sshiftRight_eq_of_msb_true hsign, BitVec.ushiftRight_eq_zero hy]
    rfl

/-! ## Words of format SR and of SSET (R68, R129) -/

theorem toNat_fld (w : Word) (hi lo : Nat) : (fld w hi lo).toNat = w.toNat / 2 ^ lo % 2 ^ (hi + 1 - lo) := by
  rw [fld, BitVec.extractLsb'_toNat, Nat.shiftRight_eq_div_pow]

/-- Joining two words is adding the upper one, moved up, to the lower one. -/
theorem toNat_append_eq_add {v w : Nat} (x : BitVec v) (y : BitVec w) : (x ++ y).toNat = x.toNat * 2 ^ w + y.toNat := by
  rw [BitVec.toNat_append, ← Nat.shiftLeft_add_eq_or_of_lt y.isLt, Nat.shiftLeft_eq]

section
variable (op fn : Nat) (m : Bool) (d a b : SReg)

/-- A word of format SR is the sum of its fields, each at its place. -/
theorem toNat_encSR : (encSR op fn m d a b).toNat = fn % 2 ^ 5 * 2 ^ 27 + b.toNat * 2 ^ 21 + a.toNat * 2 ^ 15
    + d.toNat * 2 ^ 9 + op % 2 ^ 6 * 2 ^ 3 + (BitVec.ofBool m).toNat * 2 ^ 2 := by
  simp only [encSR, toNat_append_eq_add, BitVec.toNat_ofNat]
  omega

/-- The sum that R129 writes for a word of SSET, for any major. -/
theorem encSR_eq_ofNat (hop : op < 2 ^ 6) : encSR op fn m d a b = BitVec.ofNat 32 (fn * 2 ^ 27 + b.toNat * 2 ^ 21
    + a.toNat * 2 ^ 15 + d.toNat * 2 ^ 9 + op * 2 ^ 3 + if m then 4 else 0) := by
  have hm : (if m then 4 else 0) = (BitVec.ofBool m).toNat * 2 ^ 2 := by cases m <;> rfl
  apply BitVec.eq_of_toNat_eq
  rw [toNat_encSR, hm, BitVec.toNat_ofNat]
  omega

/-! Each field of the word is what was encoded there: a quotient of the sum and its remainder. -/

@[simp] theorem fld_encSR_length : fld (encSR op fn m d a b) 1 0 = 0#2 :=
  BitVec.eq_of_toNat_eq (by rw [toNat_fld, toNat_encSR, BitVec.toNat_ofNat]; omega)

@[simp] theorem fld_encSR_marker : fld (encSR op fn m d a b) 2 2 = BitVec.ofBool m :=
  BitVec.eq_of_toNat_eq (by rw [toNat_fld, toNat_encSR]; omega)

@[simp] theorem fld_encSR_op : fld (encSR op fn m d a b) 8 3 = BitVec.ofNat 6 op :=
  BitVec.eq_of_toNat_eq (by rw [toNat_fld, toNat_encSR, BitVec.toNat_ofNat]; omega)

@[simp] theorem fld_encSR_dest : fld (encSR op fn m d a b) 14 9 = d :=
  BitVec.eq_of_toNat_eq (by rw [toNat_fld, toNat_encSR]; omega)

@[simp] theorem fld_encSR_srcA : fld (encSR op fn m d a b) 20 15 = a :=
  BitVec.eq_of_toNat_eq (by rw [toNat_fld, toNat_encSR]; omega)

@[simp] theorem fld_encSR_srcB : fld (encSR op fn m d a b) 26 21 = b :=
  BitVec.eq_of_toNat_eq (by rw [toNat_fld, toNat_encSR]; omega)

@[simp] theorem fld_encSR_fn : fld (encSR op fn m d a b) 31 27 = BitVec.ofNat 5 fn :=
  BitVec.eq_of_toNat_eq (by rw [toNat_fld, toNat_encSR, BitVec.toNat_ofNat]; omega)

@[simp] theorem isLong_encSR : isLong (encSR op fn m d a b) = false := by
  simp [isLong]

@[simp] theorem marker_encSR : marker (encSR op fn m d a b) = m := by
  cases m <;> simp [marker]

/-- A word of major 0x02 is read by that major's row alone. -/
theorem decodeWords_encSR_major02 (w1 w2 : Word) :
    decodeWords (encSR 0x02 fn m d a b) w1 w2 = (decMajor02 m (BitVec.ofNat 5 fn) b a d).filter Instr.wf := by
  simp [decodeWords, decScalarRaw]

/-- FN 0 to 5 name the six conditions of SSET, and 6 and 7 none (R129). -/
theorem decodeWords_encSR_sset : let word := fun (fn : Nat) => decodeWords (encSR 0x02 fn m d a b) 0 0
    word 0 = some (.ssetEq m d a b) ∧ word 1 = some (.ssetNe m d a b) ∧ word 2 = some (.ssetLt m d a b)
      ∧ word 3 = some (.ssetLe m d a b) ∧ word 4 = some (.ssetLtn m d a b) ∧ word 5 = some (.ssetLen m d a b)
      ∧ word 6 = none ∧ word 7 = none := by
  simp only [decodeWords_encSR_major02]
  exact ⟨rfl, rfl, rfl, rfl, rfl, rfl, rfl, rfl⟩
end

end Sys2Proof.Machine

open Sys2Proof Sys2Proof.Machine

/-- Settles O15: the signed and unsigned quotients, remainders and shifts are the integers' own, narrowed, and each corner
is the value that its function gives there. -/
theorem divisionAndShiftCorners : Obligations.DivisionAndShiftCorners := by
  unfold Obligations.DivisionAndShiftCorners
  intro s c m d a b x y hs ha hb gives
  refine ⟨?byZero, ?leastByMinusOne, ?byNonzero, ?longShift, ?shortShift⟩
  case byZero =>
    rintro rfl
    exact ⟨State.issue_scalar2 hs ha hb (divS_zero x), State.issue_scalar2 hs ha hb (divN_zero x),
      State.issue_scalar2 hs ha hb (remS_zero x), State.issue_scalar2 hs ha hb (remN_zero x)⟩
  case leastByMinusOne =>
    rintro rfl rfl
    exact ⟨State.issue_scalar2 (g := divS) hs ha hb (by decide), State.issue_scalar2 (g := remS) hs ha hb (by decide)⟩
  case byNonzero =>
    intro hy
    exact ⟨State.issue_scalar2 hs ha hb (divS_of_ne_zero x hy), State.issue_scalar2 hs ha hb (remS_of_ne_zero x hy),
      State.issue_scalar2 hs ha hb (divN_of_ne_zero x hy), State.issue_scalar2 hs ha hb (remN_of_ne_zero x hy)⟩
  case longShift =>
    intro hy
    exact ⟨State.issue_scalar2 hs ha hb (shlS_of_le x hy), State.issue_scalar2 hs ha hb (shrS_of_le x hy),
      State.issue_scalar2 hs ha hb (sraS_of_le x hy)⟩
  case shortShift =>
    intro _
    exact ⟨State.issue_scalar2 hs ha hb (shlS_eq_mul_pow x y), State.issue_scalar2 hs ha hb (shrS_eq_div_pow x y),
      State.issue_scalar2 hs ha hb (sraS_eq_div_pow x y)⟩

/-- Settles O17: each comparison of words is that of the integers they stand for, and a word of SSET is read by its FN. -/
theorem scalarCompares : Obligations.ScalarCompares := by
  unfold Obligations.ScalarCompares
  intro s c m d a b x y hs ha hb gives
  have hwords := decodeWords_encSR_sset m d a b
  simp only [encSR_eq_ofNat 0x02 _ m d a b (by decide)] at hwords
  refine ⟨State.issue_scalar2 hs ha hb (congrArg flagS ?eq), State.issue_scalar2 hs ha hb (congrArg flagS ?ne),
    State.issue_scalar2 hs ha hb (congrArg flagS ?lt), State.issue_scalar2 hs ha hb (congrArg flagS ?le),
    State.issue_scalar2 hs ha hb (congrArg flagS ?ltn), State.issue_scalar2 hs ha hb (congrArg flagS ?len), hwords⟩
  case eq => rfl
  case ne => exact (decide_not (p := x = y)).symm
  case lt => exact BitVec.slt_eq_decide
  case le => exact BitVec.sle_eq_decide
  case ltn => exact BitVec.ult_eq_decide
  case len => exact BitVec.ule_eq_decide
end

section
/-! LAND and NOP (spec/17_control_instr.md R334, R337): what they complete with, what an instruction without results leaves
unchanged, and the computed targets that a LAND makes legal (R322). -/

namespace Sys2Proof.Machine

/-! ## What they complete with -/

theorem exec_nop (m : Bool) (s : State) : exec (.nop m) s = s.issue plainShape m .ok := rfl

theorem exec_land (m : Bool) (s : State) : exec (.land m) s = s.issue plainShape m Ctx.land := rfl

theorem Ctx.land_at_start {c : Ctx} (h : c.pc = c.leg.start) : c.land = .ok c := if_pos h

theorem Ctx.land_elsewhere {c : Ctx} (h : c.pc ≠ c.leg.start) : c.land = .error (c.trapHere 0x0104) := if_neg h

/-! ## A legal target of a computed jump -/

theorem isLand_of_decodeWords {w : Word} {n : Bool} (h : decodeWords w 0 0 = some (.land n)) : isLand w = true := by
  rw [isLand, h]
  cases n <;> rfl

/-- R322: an aligned, canonical target that holds a LAND passes the checks of a computed jump. -/
theorem Ctx.targetFault_of_isLand {c : Ctx} {w : Word} (haligned : c.leg.start.extractLsb' 0 2 = 0)
    (hcanonical : c.leg.start.extractLsb' 52 12 = 0) (hw : c.fetchWord 0 = .ok w) (hland : isLand w = true) :
    c.targetFault = none := by
  rw [Ctx.targetFault]
  split
  case isTrue => simp [haligned, hcanonical, hw, hland]
  case isFalse => rfl

/-! ## What an instruction without the marker leaves unchanged (R38) -/

@[simp] theorem State.forgetSieve_mem (s : State) (w : Wave) (k : SlotId) : (s.forgetSieve w k).mem = s.mem := by
  rw [State.forgetSieve]
  split
  · rfl
  · split <;> rfl

@[simp] theorem Ctx.holdShort_mem (c : Ctx) : c.holdShort.mem = c.s.mem := by
  rw [Ctx.holdShort]
  split
  · rfl
  · rw [State.setWave_mem, State.forgetSieve_mem]

/-- Memory stays whether the leg goes on or waits for room. -/
theorem Ctx.advance_open_mem (c : Ctx) (x : Shape) : (c.advance x false).mem = c.s.mem := by
  cases h : c.leg.short with
  | true => simp [Ctx.advance, h]
  | false => rw [Ctx.advance_open c x h, State.setWave_mem]

theorem SlotId.eq_or_eq_other (j k : SlotId) : j = k ∨ j = k.other := by
  cases j <;> cases k <;> decide

/-- A slot written with the path that it held leaves the path of each slot. -/
theorem Wave.path_setSlot {w : Wave} {k : SlotId} {x : Slot} (h : x.path = (w.slot k).path) (j : SlotId) :
    ((w.setSlot k x).slot j).path = (w.slot j).path := by
  rcases SlotId.eq_or_eq_other j k with rfl | rfl
  · rw [Wave.slot_setSlot_same, h]
  · rw [Wave.slot_setSlot_other]

/-- The leg goes on in a wave with the same registers and paths. -/
theorem Ctx.advance_open_frame (c : Ctx) (x : Shape) (h : c.leg.short = false) :
    ∃ w, c.advance x false = c.s.setWave w ∧ w.regs = c.w.regs ∧ ∀ k, (w.slot k).path = (c.w.slot k).path := by
  have hslots : ∀ k, ({ c.w with state := .running } : Wave).slot k = c.w.slot k := by rintro ⟨⟩ <;> rfl
  refine ⟨_, Ctx.advance_open c x h, Wave.setSlot_regs _ _ _, fun k => ?_⟩
  rw [Wave.path_setSlot (by rw [hslots]), hslots]

end Sys2Proof.Machine

open Sys2Proof Sys2Proof.Machine

/-- Settles O34: NOP has no results, LAND asks only where its leg began, and without the marker only the open leg changes. -/
theorem landChangesNothing : Obligations.LandChangesNothing := by
  unfold Obligations.LandChangesNothing
  intro s c m hs
  refine ⟨?nop, fun hpc => ?first, fun hpc => ?later, fun w n _ haligned hcanonical hw hland => ?target,
    Ctx.advance_open_mem c plainShape, Ctx.advance_open_frame c plainShape⟩
  case nop => rw [exec_nop, State.issue_ready hs rfl]
  case first => rw [exec_land, State.issue_ready hs (Ctx.land_at_start hpc)]
  case later => rw [exec_land, State.issue_trap hs (Ctx.land_elsewhere hpc)]
  case target => exact Ctx.targetFault_of_isLand haligned hcanonical hw (isLand_of_decodeWords hland)
end
